-- ==== Sys2Proof/Word.lean ====
section
/-! DEFINITION. The widths of the things the manual treats as bits, and the unit of oscillator time. -/

namespace Sys2Proof

/-- One payload byte of a yard line frame (R14) or one byte of a coach link argument (R124). -/
abbrev Byte := BitVec 8

/-- A two-byte frame field (chapter 13) or the payload of a coach link word (R124). -/
abbrev Word16 := BitVec 16

/-- A coach link word: tag of 4 bits, payload of 16 bits and a parity bit (R124). -/
abbrev LinkWord := BitVec 21

/-- The sender's station number in an arbitration value (R14). -/
abbrev StationNo := BitVec 6

/-- A converter code, 0 to 1023 (R85). -/
abbrev Code := BitVec 10

/-- A moment of oscillator time, or a length of it, in microseconds counted from the start-up event.
One bit time of the yard line is 20 of these (R13); every duration of the manual is a multiple of it. -/
abbrev Moment := Nat

end Sys2Proof
end

