-- ==== Sys2Proof/Syntax.lean ====
section
/-! DEFINITION. The commands of the block: one constructor of `Instr` for each row of spec/opcode_table.json, with the
operands that the manual gives the event. -/

namespace Sys2Proof

/-- The seventeen strap pins as they stand when they are sampled, group by group (R2). -/
structure Straps where
  station : BitVec 6
  lane    : BitVec 4
  depth   : BitVec 2
  group   : BitVec 2
  cls     : BitVec 2
  heater  : Bool
  deriving DecidableEq, Repr

/-- Payload of a SHED frame (chapter 13). -/
structure ShedPayload where
  group : Byte
  sum   : Word16
  deriving DecidableEq, Repr

/-- Payload of a TIME frame (chapter 13). -/
structure TimePayload where
  minute : Word16
  second : Byte
  deriving DecidableEq, Repr

/-- Payload of a LOAD frame, byte by byte (chapter 13): `place` is byte 1 (depth less one, group, class) and `plan` is
byte 4 (planner mode, urgency). -/
structure LoadPayload where
  lane   : Byte
  place  : Byte
  demand : Byte
  draw   : Byte
  plan   : Byte
  deriving DecidableEq, Repr

/-- Payload of a BAYSTATE frame (chapter 13). -/
structure BaystatePayload where
  lane     : Byte
  place    : Byte
  bayState : Byte
  coach    : Word16
  reasons  : Word16
  remarks  : Word16
  minutes  : Word16
  dropped  : Byte
  flags    : Byte
  deriving DecidableEq, Repr

/-- Payload of a ROSTER frame (chapter 13). -/
structure RosterPayload where
  coach     : Word16
  departure : Word16
  target    : Byte
  run       : Word16
  deriving DecidableEq, Repr

/-- A frame as the receiver reads it whole, before it is judged (R28). -/
structure RawFrame where
  arbitration : BitVec 9
  length      : BitVec 4
  payload     : List Byte
  check       : Word16
  deriving DecidableEq, Repr

/-- An ORDER frame but for its kind code, which the command's row gives (chapter 13). -/
structure Order where
  sender   : StationNo
  target   : Byte
  tag      : Byte
  argument : Byte
  deriving DecidableEq, Repr

/-- The commands. A frame command is a good frame at the moment it ends on the line (R28, R31). An expiry command says
that its timer has run out or that its count has reached its end. A conversion end carries the code that the converter
gives. PING to FCLEAR are the arbiter's choice of that command for a beat's station word (R125, R135). IDLE to REFUSE and
GARBLED_WORD are the coach's word of a beat (R123). -/
inductive Instr where
  -- chapter 1: station identity and time
  | startUp (straps : Straps)
  | resetAsserted
  | secondEnd
  | timeSilenceExpiry
  | timeFrame (sender : StationNo) (payload : TimePayload)
  -- chapter 2: the yard line
  | frameAttemptStart
  | arbitrationLost (bit : Fin 9)
  | transmitFault (bit : Nat)
  | mutedEnd
  | shedComplete
  | loadComplete
  | baystateComplete
  | askComplete
  | reportComplete
  | loadRefreshExpiry
  | baystateRefreshExpiry
  | corruptFrame (frame : RawFrame)
  -- chapters 3 and 4: peers, lanes and the shore supply
  | shedFrame (sender : StationNo) (payload : ShedPayload)
  | loadFrame (sender : StationNo) (payload : LoadPayload)
  | baystateFrame (sender : StationNo) (payload : BaystatePayload)
  | askFrame (sender : StationNo) (coach : Word16)
  | reportFrame (sender : StationNo) (payload : List Byte)
  | peerAgeing60s (station : StationNo)
  | ghostAgeing180s (station : StationNo)
  | shedLockEnd
  -- chapters 5 and 6: the heat frame and measurement
  | heatFrameBoundary
  | selfTestCountExpiry
  | stepStart
  | refloConversionEnd (code : Code)
  | refhiConversionEnd (code : Code)
  | temperatureConversionEnd (code : Code)
  | lampConversionEnd (code : Code)
  -- chapter 8: the coach link
  | ping
  | ident
  | hold
  | release
  | lamps
  | fcount
  | fread
  | fclear
  | idle
  | wait
  | data (word : Word16)
  | last (word : Word16)
  | ack
  | refuse (reason : Word16)
  | garbledWord (word : LinkWord)
  | waitCountExpiry
  | recoveryEnd
  | startTimerExpiry
  | lostPingTimerExpiry
  | keepAliveExpiry
  -- chapter 9: the lamp sweep
  | settleTimerExpiry
  -- chapter 11: rosters and departure clearance
  | rosterFrame (sender : StationNo) (payload : RosterPayload)
  | rosterCancel (sender : StationNo) (coach : Word16)
  | askCountExpiry
  | coupleSenseRise
  | decouple
  | departButtonPress
  | holdRetryExpiry
  | clearanceCountExpiry
  | tooEarlyOverlayEnd
  | sounderRunEnd
  -- chapter 12: orders
  | orderSweep (order : Order)
  | orderReadfaults (order : Order)
  | orderClearstored (order : Order)
  | orderHold (order : Order)
  | orderUnhold (order : Order)
  | orderLanepass (order : Order)
  | orderBayreset (order : Order)
  | orderBadKind (order : Order) (kind : Byte)
  | showSummary (order : Order)
  | showLamps (order : Order)
  | showFaults (order : Order)
  | showPeers (order : Order)
  | showPlan (order : Order)
  | showCounters (order : Order)
  | showRoster (order : Order)
  deriving DecidableEq, Repr

end Sys2Proof
end

