-- ==== Sys2Proof/Decode.lean ====
section
/-! DEFINITION. The decoder over the opcode table's bits. No row of the table gives bits, so no word spells a command. -/

namespace Sys2Proof

/-- The command that a word spells by the table's bits: none, since no row gives any (notes/assumptions/23). -/
def decodeTableWord (_nbits _w : Nat) : Option Instr := none

end Sys2Proof
end

