-- ==== Sys2Proof/Config.lean ====
section
/-! DEFINITION. What the manual leaves open: the free values. The part has no other configuration than its straps. -/

namespace Sys2Proof

/-- FREE VALUE (notes/assumptions/5). In RELEASING a HEAT mode is kept and its urgency is computed afresh from M and L
(R117, R118). When the roster copy has been removed there, neither M nor L exists, and the manual states no urgency.
The urgency of a HEAT that is not overdue is 8 plus 0 to 7; this is that second term, for the n-th such computation. -/
opaque Config.freeUrgency : Nat → BitVec 3

end Sys2Proof
end

