-- ==== Sys2Proof/Machine/Durations.lean ====
section
/-! DEFINITION. The periods the manual states, in microseconds of oscillator time. -/

namespace Sys2Proof.Machine

/-- One millisecond. -/
def millisecond : Moment := 1000
/-- One oscillator second (R6). -/
def oneSecond : Moment := 1000000
/-- One bit time of the yard line at 50 kbit/s (R13). -/
def bitTime : Moment := 20
/-- A quiet gap: 11 recessive bit times (R13). -/
def quietGap : Moment := 220
/-- The TIME silence timer, 900 s (R7). -/
def timeSilencePeriod : Moment := 900000000
/-- MUTED lasts 60 s (R27). -/
def mutedPeriod : Moment := 60000000
/-- The LOAD refresh timer, 20 s (R24). -/
def loadRefreshPeriod : Moment := 20000000
/-- The BAYSTATE refresh timer, 60 s (R24). -/
def baystateRefreshPeriod : Moment := 60000000
/-- The first ageing time of a peer entry, 60 s (R40). -/
def peerAgeingPeriod : Moment := 60000000
/-- The deletion time of a GHOST, 180 s (R41). -/
def ghostAgeingPeriod : Moment := 180000000
/-- A claim is settled 20 s after the LOAD that announced it (R54). -/
def claimPeriod : Moment := 20000000
/-- The shed lock, 60 s (R63). -/
def shedLockPeriod : Moment := 60000000
/-- A heat frame, 8 s (R72). -/
def heatFramePeriod : Moment := 8000000
/-- A step of the heat frame, 125 ms (R72). -/
def stepPeriod : Moment := 125000
/-- A beat of the coach link, 2 ms (R123). -/
def beatPeriod : Moment := 2000
/-- The start timer of STARTING, 5 s (R132). -/
def startTimerPeriod : Moment := 5000000
/-- The lost PING timer, 10 s (R134). -/
def lostPingPeriod : Moment := 10000000
/-- The keep-alive timer, 10 s (R133). -/
def keepAlivePeriod : Moment := 10000000
/-- The settle wait of a group with a filament lamp, 250 ms (R147). -/
def filamentSettlePeriod : Moment := 250000
/-- The settle wait of a group of LED lamps, 50 ms (R147). -/
def ledSettlePeriod : Moment := 50000
/-- The hold retry timer, 30 s (R182). -/
def holdRetryPeriod : Moment := 30000000
/-- The too-early overlay, 1.5 s (R188). -/
def tooEarlyPeriod : Moment := 1500000
/-- Half a period of the quick beacon flash and of a chirp, 0.25 s (R4, R188, R189). -/
def quarterSecond : Moment := 250000
/-- Half a period of the NUMBER_CLASH overlay, 0.5 s (R188). -/
def halfSecond : Moment := 500000

end Sys2Proof.Machine
end

