-- ==== Sys2Proof/Machine/Supply.lean ====
section
/-! DEFINITION. The arithmetic of the shore supply that needs no state: feeder limits, allowance, water-fill, duty. -/

namespace Sys2Proof.Machine

/-- `ceil (a / b)`, the rounding up of section 6.2. -/
def ceilDiv (a b : Nat) : Nat := (a + b - 1) / b

/-- The feeder limit Lf of a feeder class, in amperes (R2). -/
def feederLimit : Nat → Nat
  | 0 => 32
  | 1 => 63
  | 2 => 125
  | _ => 250

/-- The available current A of a feeder limit (R49). -/
def available (lf : Nat) : Nat := lf - lf / 8

/-- The quiet allowance Q of an available current (R49). -/
def quietAllowance (a : Nat) : Nat := a / 16

/-- A bay post that wants current (R50). -/
structure Contender where
  station : Nat
  demand  : Nat
  urgency : Nat
  deriving DecidableEq, Repr

/-- The order of the contender list: urgency highest first, then station number lowest first (R50). -/
def Contender.before (a b : Contender) : Bool :=
  b.urgency < a.urgency || (a.urgency == b.urgency && a.station < b.station)

/-- Puts a contender in its place of an ordered list (R50). -/
def insertContender (c : Contender) : List Contender → List Contender
  | [] => [c]
  | d :: ds => if c.before d then c :: d :: ds else d :: insertContender c ds

/-- The contender list in its order (R50). -/
def orderContenders : List Contender → List Contender
  | [] => []
  | c :: cs => insertContender c (orderContenders cs)

/-- The share that falls to station `own` when `remaining` amperes are poured down the list (R51). A station that is
no contender has the share 0. -/
def waterFill (own : Nat) : Nat → List Contender → Nat
  | _, [] => 0
  | remaining, c :: cs =>
    let share := min c.demand remaining
    if c.station = own then share else waterFill own (remaining - share) cs

/-- Step 2 of the grant step (R56): the applied grant from the first case that applies. -/
def grantAfterTarget (zeroState locked settled : Bool) (ga gt : Nat) (room : Int) : Nat :=
  if zeroState then 0
  else if gt ≤ ga then gt
  else if locked then ga
  else if !settled then ga
  else ga + min (gt - ga) room.toNat

/-- Steps 3 to 5 of the grant step (R57, R58): allowance, clamp and halving. An absent heater current counts as 0. -/
def grantLimited (allowance : Bool) (q : Nat) (ih : Option Nat) (a : Nat) (halving : Bool) (ga : Nat) : Nat :=
  let ga := if allowance then min ga q else ga
  let ga := min ga (min (ih.getD 0) a)
  if halving then ga / 2 else ga

/-- Step 6 of the grant step (R59): the duty of the coming frame. -/
def dutyOf (ih : Option Nat) (ga ceiling : Nat) : Nat :=
  match ih with
  | none => 0
  | some 0 => 0
  | some (i + 1) => min ceiling (ga * 64 / (i + 1))

/-- Step 7 of the grant step (R59): the reported draw, the heater's mean current rounded up. -/
def reportedDraw (ih : Option Nat) (duty : Nat) : Nat :=
  match ih with
  | none => 0
  | some i => ceilDiv (i * duty) 64

end Sys2Proof.Machine
end

