-- ==== Sys2Proof/Machine/State.lean ====
section
/-! DEFINITION. All the state that the manual gives the part, block by block, its start-up values, and the machine's
state: the part and the queue of waiting commands. -/

namespace Sys2Proof.Machine

/-! ## Chapter 1: identity and time -/

/-- Whether the part runs. `inactive`: the reset pin is held active or supply is low (R1). `strapFault`: STRAP FAULT
(R3, R4). -/
inductive Mode where
  | inactive | strapFault | normal
  deriving DecidableEq, Repr

/-- The strap latch (R2). The depth is 1 to 4; with lane 0 it is 1. -/
structure Latch where
  station : Nat
  lane    : Nat
  depth   : Nat
  group   : Nat
  cls     : Nat
  heater  : Bool
  deriving DecidableEq, Repr

/-- The clock status (R7). -/
inductive ClockStatus where
  | invalid | valid | unconfirmed
  deriving DecidableEq, Repr

/-- The minute clock (R5 to R7). `silence` is the moment at which the TIME silence timer expires, `none` while it is
stopped; `secondEnds` is the phase of the second. -/
structure Clock where
  minute     : Nat := 0
  second     : Nat := 0
  status     : ClockStatus := .invalid
  silence    : Option Moment := none
  secondEnds : Moment := oneSecond
  deriving DecidableEq, Repr

/-- A watch of a schedule threshold (R12); `notBegun` before its owner begins it. -/
inductive Watch where
  | notBegun | armed | passed
  deriving DecidableEq, Repr

/-! ## Chapter 2: the yard line -/

/-- The frame kinds the part sends (R19). -/
inductive SendKind where
  | shed | load | baystate | ask | report
  deriving DecidableEq, Repr

/-- One flag for each kind that has one of its own; the REPORT flag follows the reply job queue (R19). -/
structure SendFlags where
  shed     : Bool := false
  load     : Bool := false
  baystate : Bool := false
  ask      : Bool := false
  deriving DecidableEq, Repr

/-- The transmission in progress: the frame as composed at its start bit (R21) and the moment of the start bit. -/
structure Transmission where
  kind    : SendKind
  payload : List Byte
  start   : Moment
  deriving DecidableEq, Repr

/-- The yard line interface (R32). `muted` is the moment at which MUTED ends, `none` while the station is not MUTED;
a refresh timer likewise. `quietFrom` is the moment from which the recessive bit times are counted (R13); `receiving` is
the start bit of the frame that the station lost to or abandoned, while it is still on the line (R17, R18). -/
structure Line where
  flags           : SendFlags := { load := true, baystate := true }
  marks           : SendFlags := {}
  tx              : Option Transmission := none
  faults          : Nat := 0
  muted           : Option Moment := none
  loadRefresh     : Option Moment := none
  baystateRefresh : Option Moment := none
  corrupt         : Nat := 0
  quietFrom       : Moment := 0
  receiving       : Option Moment := none
  deriving DecidableEq, Repr

/-! ## Chapter 11: the bay states (used by several blocks) -/

/-- The states of the bay controller. -/
inductive BayState where
  | empty | coupled | standby | prepare | ready | held | releasing | cleared
  deriving DecidableEq, Repr

/-! ## Chapter 3: peers -/

/-- The status of a peer entry (R34). -/
inductive PeerStatus where
  | live | ghost
  deriving DecidableEq, Repr

/-- The load part of a peer entry (R34). -/
structure PeerLoad where
  demand  : Nat
  draw    : Nat
  urgency : Nat
  deriving DecidableEq, Repr

/-- A peer entry (R34). -/
structure Peer where
  station   : Nat
  lane      : Nat
  depth     : Nat
  group     : Nat
  cls       : Nat
  status    : PeerStatus
  bayState  : Option BayState
  load      : Option PeerLoad
  lastHeard : Moment
  deriving DecidableEq, Repr

/-- The peer table, in ascending order of station number, and whether peer overflow holds (R33, R39). -/
structure PeerTable where
  entries  : List Peer := []
  overflow : Bool := false
  deriving DecidableEq, Repr

/-! ## Chapter 4: the share unit -/

/-- The planner's modes (section 7.5). -/
inductive PlannerMode where
  | off | frost | heat | maintain
  deriving DecidableEq, Repr

/-- The share unit (R48). `claim` is the claim time; `shedLock` is the moment at which the shed lock runs out;
`zeroed` says that an immediate zero has acted since the last boundary (R67, R77). -/
structure Share where
  aInForce     : Nat
  qInForce     : Nat
  demand       : Nat := 0
  urgency      : Nat := 0
  mode         : PlannerMode := .off
  gt           : Nat := 0
  ga           : Nat := 0
  draw         : Nat := 0
  claim        : Option Moment := none
  shedLock     : Option Moment := none
  halvingDue   : Bool := false
  mutedHeld    : Bool := false
  overflowHeld : Bool := false
  zeroed       : Bool := false
  deriving DecidableEq, Repr

/-! ## Chapter 5: the heat frame -/

/-- The phase of the step in progress (R75). -/
inductive StepPhase where
  | on | off
  deriving DecidableEq, Repr

/-- The heat frame (R71). `pin` is the heater drive; `frameStart` is the moment of the boundary that opened the frame. -/
structure Heat where
  step         : Nat := 0
  phase        : StepPhase := .off
  duty         : Nat := 0
  shadow       : Nat := 0
  sweepRunning : Bool := false
  ceiling      : Nat := 62
  pin          : Bool := false
  frameStart   : Moment := 0
  deriving DecidableEq, Repr

/-! ## Chapter 6: measurement -/

/-- The chain status (R84). -/
inductive ChainStatus where
  | untested | good | faulty
  deriving DecidableEq, Repr

/-- Whether a self-test is due, and which of its conversions is pending (R84). -/
inductive SelfTest where
  | notDue | refloPending | refhiPending
  deriving DecidableEq, Repr

/-- A conversion begun (R85). A REFHI conversion is judged with the REFLO code of its own self-test (R89). -/
inductive Conversion where
  | reflo
  | refhi (reflo : Nat)
  | cabin
  | outside
  | lamp (position : Nat)
  deriving DecidableEq, Repr

/-- What a run of a temperature channel is made of (R93). -/
inductive RunKind where
  | short | open
  deriving DecidableEq, Repr

/-- The sensor status of a temperature channel (R93). -/
inductive SensorStatus where
  | ok | short | open
  deriving DecidableEq, Repr

/-- A temperature channel: ring (oldest first), run, sensor status and staleness count (R84). -/
structure Channel where
  ring   : List Nat := []
  run    : Option (RunKind × Nat) := none
  status : SensorStatus := .ok
  stale  : Nat := 0
  deriving DecidableEq, Repr

/-- The measurement unit (R84). `converting` is the conversion of the step in progress; `ending` is a conversion whose
step ended at the boundary that was taken before the conversion's end (R99). `marks` are the lamp positions marked
settled whose code has not been handed over (R97). -/
structure Measure where
  chain       : ChainStatus := .untested
  selfTest    : SelfTest := .refloPending
  reflo       : Option Nat := none
  frames      : Nat := 0
  owedCabin   : Bool := false
  owedOutside : Bool := true
  converting  : Option Conversion := some .reflo
  ending      : Option Conversion := none
  cabin       : Channel := {}
  outside     : Channel := {}
  marks       : List Nat := []
  deriving DecidableEq, Repr

/-! ## Chapter 7: the planner -/

/-- The lead basis (R101). -/
inductive LeadBasis where
  | computed | fixed
  deriving DecidableEq, Repr

/-- The plan record but for its three remarks, which stand in the remarks set (R101). `rearmed` is the model's own: the moment of
the last minute event that left the heat-start watch ARMED while heating goes on (R121, notes/assumptions/25). -/
structure Plan where
  target        : Option Nat := none
  lead          : Option Nat := none
  basis         : LeadBasis := .computed
  start         : Option Nat := none
  mode          : PlannerMode := .off
  frost         : Bool := false
  watch         : Watch := .notBegun
  begun         : Bool := false
  rearmed       : Option Moment := none
  maintain      : Bool := false
  demand        : Nat := 0
  urgency       : Nat := 0
  planCold      : Bool := false
  clearanceCold : Bool := false
  deriving DecidableEq, Repr

/-! ## Chapter 8: the coach link -/

/-- The link states (R122). -/
inductive LinkState where
  | down | starting | up | lost
  deriving DecidableEq, Repr

/-- The four requesters, in the arbiter's order (R135). -/
inductive Requester where
  | keeper | bay | sweep | faults
  deriving DecidableEq, Repr

/-- The eight commands (section 8.3). -/
inductive CommandCode where
  | ping | ident | hold | release | lamps | fcount | fread | fclear
  deriving DecidableEq, Repr

/-- A command with its argument (R124). -/
structure Command where
  code : CommandCode
  arg  : Byte := 0
  deriving DecidableEq, Repr

/-- First or second attempt (R122). -/
inductive Attempt where
  | first | second
  deriving DecidableEq, Repr

/-- The phase of the command in flight (R122). -/
inductive Phase where
  | awaiting | answering | recovering
  deriving DecidableEq, Repr

/-- The command in flight (R122). -/
structure InFlight where
  requester : Requester
  command   : Command
  attempt   : Attempt := .first
  phase     : Phase := .awaiting
  deriving DecidableEq, Repr

/-- The request slots (R122, R135). -/
structure Slots where
  keeper : Option Command := none
  bay    : Option Command := none
  sweep  : Option Command := none
  faults : Option Command := none
  deriving DecidableEq, Repr

/-- The coach link (R122). `recovery` is the beat from which the recovery beats are counted while they run (RECOVERING, or
the pause after a failed PING of STARTING); the timers hold the moment of their expiry; `beat` is the moment at which the
beat in progress began, `heard` says that its coach word has come, and `stationWord` is the station word last sent (R123 to
R125); before any beat has run it is the NOP word (notes/assumptions/37). -/
structure Link where
  state         : LinkState := .down
  identConfirmed : Bool := false
  inFlight      : Option InFlight := none
  recovery      : Option Moment := none
  waitCount     : Nat := 0
  gathered      : List Word16 := []
  holdConfirmed : Bool := false
  startTimer    : Option Moment := none
  lostTimer     : Option Moment := none
  keepAlive     : Option Moment := none
  slots         : Slots := {}
  beat          : Moment := 0
  heard         : Bool := false
  stationWord   : LinkWord := 1
  deriving DecidableEq, Repr

/-- The coach's identity record as accepted (section 8.6). -/
structure Identity where
  coach    : Nat
  ih       : Nat
  memory   : Nat
  h        : Nat
  c        : Nat
  fitted   : Word16
  led      : Word16
  nominals : List Nat
  deriving DecidableEq, Repr

/-! ## Chapter 9: the lamp sweep -/

/-- The lamp types (R142). -/
inductive LampType where
  | filament | led
  deriving DecidableEq, Repr

/-- The verdicts (R142). -/
inductive Verdict where
  | ok | low | high | flicker | unknown | notFitted
  deriving DecidableEq, Repr

/-- One record of the lamp table (R142). A position is fitted exactly when `fit` holds its type and nominal N. -/
structure Lamp where
  position : Nat
  fit      : Option (LampType × Nat) := none
  verdict  : Verdict := .notFitted
  reading  : Option Nat := none
  minute   : Option Nat := none
  deriving DecidableEq, Repr

/-- Why a requested sweep was dropped (R143, R145). -/
inductive DropReason where
  | linkDown | notHeld | chainFault | wrongState
  deriving DecidableEq, Repr

/-- The pass of a running sweep (R143). -/
inductive Pass where
  | first | second
  deriving DecidableEq, Repr

/-- The phase of a running sweep, with the current group and mask where they are present (R143). -/
inductive SweepPhase where
  | energising (group : Nat) (mask : BitVec 4)
  | settling (group : Nat) (mask : BitVec 4)
  | converting (group : Nat) (mask : BitVec 4)
  | ending
  deriving DecidableEq, Repr

/-- The sweep status, with the drop reason, pass and phase where they are present (R143). -/
inductive SweepStatus where
  | none
  | requested
  | running (pass : Pass) (phase : SweepPhase)
  | complete
  | aborted
  | dropped (reason : DropReason)
  deriving DecidableEq, Repr

/-- The judgement of one lamp reading (R148). -/
inductive Judgement where
  | pass | low | high
  deriving DecidableEq, Repr

/-- The working verdicts of one position (R143). -/
structure Work where
  position : Nat
  first    : Nat × Judgement
  second   : Option (Nat × Judgement) := none
  deriving DecidableEq, Repr

/-- The last completion of a sweep or of a read: its minute, and whether it was dated (R143, R157). -/
structure Completion where
  minute : Nat
  dated  : Bool
  deriving DecidableEq, Repr

/-- The lights-off request (R143, R154). -/
inductive LightsOff where
  | notPlaced | waiting | inFlight
  deriving DecidableEq, Repr

/-- The lamp sweep (R143). `settle` is the moment at which the settle timer expires. -/
structure Sweep where
  status    : SweepStatus := .none
  settle    : Option Moment := none
  work      : List Work := []
  last      : Option Completion := none
  lightsOff : LightsOff := .notPlaced
  deriving DecidableEq, Repr

/-- The lamp table with no position fitted (R142). -/
def clearedLamps : List Lamp :=
  (List.range 16).map fun p => { position := p }

/-! ## Chapter 10: the fault list -/

/-- The state of a coach record (section 10.2). -/
inductive FaultState where
  | active | stored | intermittent
  deriving DecidableEq, Repr

/-- The classes (R159). -/
inductive FaultClass where
  | block | warn | info
  deriving DecidableEq, Repr

/-- A merged record of the staging set (R162). -/
structure Staged where
  system : Nat
  code   : Nat
  state  : FaultState
  count  : Nat
  age    : Option Nat
  order  : Nat
  deriving DecidableEq, Repr

/-- A COACH entry (R160). -/
structure CoachEntry where
  record    : Staged
  cls       : FaultClass
  firstRead : Nat
  deriving DecidableEq, Repr

/-- A BAY entry (R160): system 14, code the position, state ACTIVE, count 1. -/
structure BayEntry where
  position  : Nat
  cls       : FaultClass
  reading   : Nat
  firstRead : Nat
  deriving DecidableEq, Repr

/-- The operation status (R157). -/
inductive OpStatus where
  | idle | waiting | clearing | counting | reading
  deriving DecidableEq, Repr

/-- The operation kind (R157). -/
inductive OpKind where
  | read | clearAndRead
  deriving DecidableEq, Repr

/-- The fault list (R157). The COACH and BAY entries are held apart; the list in its order is `Part.faultList`. -/
structure Faults where
  coach        : List CoachEntry := []
  bay          : List BayEntry := []
  status       : OpStatus := .idle
  kind         : Option OpKind := none
  toRead       : Option Nat := none
  nextIndex    : Option Nat := none
  staging      : List Staged := []
  rejected     : Nat := 0
  lastRead     : Option Completion := none
  lastRejected : Nat := 0
  lastDropped  : Nat := 0
  memory       : Option Nat := none
  deriving DecidableEq, Repr

/-! ## Chapter 11: rosters and the bay controller -/

/-- An entry of the roster cache (R171). -/
structure RosterEntry where
  coach     : Nat
  departure : Nat
  target    : Nat
  run       : Nat
  deriving DecidableEq, Repr

/-- The roster cache (R171, R174). `want` is the coach number it asks for. -/
structure Cache where
  entries  : List RosterEntry := []
  want     : Option Nat := none
  askCount : Nat := 0
  deriving DecidableEq, Repr

/-- The bay's copy of its coach's roster entry (R172). -/
structure RosterCopy where
  departure : Nat
  target    : Nat
  run       : Nat
  deriving DecidableEq, Repr

/-- The hold-reason set (R178). -/
structure Reasons where
  faultBlock      : Bool := false
  lampFail        : Bool := false
  lampUnchecked   : Bool := false
  faultsStale     : Bool := false
  linkLost        : Bool := false
  chainFault      : Bool := false
  laneBlocked     : Bool := false
  laneUnknown     : Bool := false
  yardHoldRefused : Bool := false
  orderHold       : Bool := false
  releaseRefused  : Bool := false
  deriving DecidableEq, Repr

/-- The remarks set (R175). Each remark is written by its own block. -/
structure Remarks where
  numberClash     : Bool := false
  peerOverflow    : Bool := false
  feederMismatch  : Bool := false
  laneClash       : Bool := false
  cold            : Bool := false
  cabinSensor     : Bool := false
  outsideSensor   : Bool := false
  faultsTruncated : Bool := false
  staleClearance  : Bool := false
  deriving DecidableEq, Repr

/-- The names of the remarks. -/
inductive Remark where
  | numberClash | peerOverflow | feederMismatch | laneClash | cold | cabinSensor | outsideSensor | faultsTruncated
  | staleClearance
  deriving DecidableEq, Repr

/-- The revocation (R175). -/
inductive Revocation where
  | none | deferred | requested
  deriving DecidableEq, Repr

/-- The decouple flag (R175). -/
inductive DecoupleFlag where
  | none | departed | unplanned
  deriving DecidableEq, Repr

/-- What started a run of chirps (R189). -/
inductive ChirpCause where
  | cleared | unplanned
  deriving DecidableEq, Repr

/-- A run of chirps and the moment it began (R189). -/
structure Chirps where
  cause : ChirpCause
  start : Moment
  deriving DecidableEq, Repr

/-- The bay record and the bay controller's state (R175). `couple` is couple sense as taken; `retry` is the moment at
which the hold retry timer expires; `patternFrom` is the moment the base pattern began, `tooEarly` the moment the
too-early overlay began and `clashFrom` the moment the NUMBER_CLASH overlay began (R188). Two fields are the model's own, for what
R190 says of two events at one moment: `openedAt`, the moment of the last minute event whose window watch opened the window while no
lane pass was held (notes/assumptions/33), and `holdAckAt`, that of the last HOLD answered ACK in STANDBY, PREPARE, READY or HELD
(notes/assumptions/41). -/
structure Bay where
  couple       : Bool := false
  state        : BayState := .empty
  identity     : Option Identity := none
  roster       : Option RosterCopy := none
  reasons      : Reasons := {}
  window       : Bool := false
  openedAt     : Option Moment := none
  holdAckAt    : Option Moment := none
  readWatch    : Watch := .notBegun
  sweepWatch   : Watch := .notBegun
  windowWatch  : Watch := .notBegun
  lanePass     : Bool := false
  revocation   : Revocation := .none
  decoupleFlag : DecoupleFlag := .none
  retry        : Option Moment := none
  clearance    : Nat := 0
  patternFrom  : Moment := 0
  tooEarly     : Option Moment := none
  clashFrom    : Option Moment := none
  chirps       : Option Chirps := none
  deriving DecidableEq, Repr

/-! ## Chapter 12: the order handler -/

/-- The reasons of a refused order (R194). -/
inductive RefusalReason where
  | wrongState | linkDown | busy | badKind | moving | withdrawn
  deriving DecidableEq, Repr

/-- The outcome of a job (R194). -/
inductive JobOutcome where
  | taken
  | pending
  | refused (reason : RefusalReason)
  deriving DecidableEq, Repr

/-- The SHOW kinds (R195). -/
inductive ShowKind where
  | summary | lamps | faults | peers | plan | counters | roster
  deriving DecidableEq, Repr

/-- A reply job (R194). `show?` is what a SHOW order selects; `bare` says that its collection was empty when the item total
was fixed, so that its one item is of kind NONE (R195). -/
structure Job where
  tag      : Byte
  kind     : Byte
  argument : Byte
  sender   : StationNo
  show?    : Option ShowKind
  outcome  : JobOutcome
  cursor   : Nat := 0
  total    : Option Nat := none
  bare     : Bool := false
  deriving DecidableEq, Repr

/-- The revocation order (R191): the tag and sender of the HOLD, and whether its outcome item has been sent. -/
structure RevocationOrder where
  tag    : Byte
  sender : StationNo
  sent   : Bool := false
  deriving DecidableEq, Repr

/-- The order handler (R191). -/
structure Orders where
  jobs       : List Job := []
  dropped    : Nat := 0
  revocation : Option RevocationOrder := none
  deriving DecidableEq, Repr

/-! ## The part -/

/-- The VB-24: its thirteen blocks, the remarks set, the oscillator time since start-up, and the counter of the model's
own free values (`free`, the model's field and not the manual's). -/
structure Part where
  mode    : Mode
  osc     : Moment
  latch   : Latch
  clock   : Clock
  line    : Line
  peers   : PeerTable
  share   : Share
  heat    : Heat
  measure : Measure
  plan    : Plan
  link    : Link
  sweep   : Sweep
  lamps   : List Lamp
  faults  : Faults
  cache   : Cache
  bay     : Bay
  remarks : Remarks
  orders  : Orders
  free    : Nat
  deriving DecidableEq, Repr

/-- The part right after start-up with the latch `l`: every block at the start-up value its chapter states (R1, R3).
The first step of the first heat frame begins with the start-up event, and its slot carries the REFLO conversion of the
self-test that is due at once (R88). -/
def Part.initial (l : Latch) : Part where
  mode    := .normal
  osc     := 0
  latch   := l
  clock   := {}
  line    := {}
  peers   := {}
  share   := { aInForce := available (feederLimit l.cls), qInForce := quietAllowance (available (feederLimit l.cls)) }
  heat    := {}
  measure := {}
  plan    := {}
  link    := {}
  sweep   := {}
  lamps   := clearedLamps
  faults  := {}
  cache   := {}
  bay     := {}
  remarks := {}
  orders  := {}
  free    := 0

/-- The reasons a step can end in a fault: none. The manual gives the part an effect, or no effect, for every event,
and names no event at which it stops. -/
inductive Fault where
  deriving DecidableEq, Repr

/-- The reasons a step can be refused. -/
inductive Refusal where
  /-- Raised by `exec`'s arm of a command that has no meaning yet; safe, since nothing can be proved of its effect. No
  arm raises it. -/
  | notModelled (mnemonic : String)
  deriving DecidableEq, Repr

/-- The machine: the part, and the commands that wait for it, first in, first out. -/
structure State where
  part    : Part
  pending : List Instr
  deriving DecidableEq, Repr

/-- The straps of `State.reset` (notes/assumptions/1): the lowest valid station number, every other pin low. -/
def resetLatch : Latch where
  station := 1
  lane    := 0
  depth   := 1
  group   := 0
  cls     := 0
  heater  := false

/-- The machine right after start-up: every block at its start-up value and no command waiting. -/
def State.reset : State where
  part    := Part.initial resetLatch
  pending := []

end Sys2Proof.Machine
end

