-- ==== Sys2Proof/Machine/Operands.lean ====
section
/-! DEFINITION. The operand forms: strap pins, frame fields, frames and their check value, coach link words, identity and
fault records, and the code values of section 13.4. -/

namespace Sys2Proof.Machine

/-! ## The strap pins -/

/-- What the strap latch holds for the pins (R2). With lane 0 it holds depth 1 whatever the pins show. -/
def latchOf (s : Straps) : Latch where
  station := s.station.toNat
  lane    := s.lane.toNat
  depth   := if s.lane = 0 then 1 else s.depth.toNat + 1
  group   := s.group.toNat
  cls     := s.cls.toNat
  heater  := s.heater

/-- A valid station number is 1 to 59 (R3). -/
def validStation (n : Nat) : Bool := 1 ≤ n && n ≤ 59

/-! ## Code values (section 13.4) -/

/-- The code of a bay state. -/
def bayStateCode : BayState → Nat
  | .empty => 0 | .coupled => 1 | .standby => 2 | .prepare => 3
  | .ready => 4 | .held => 5 | .releasing => 6 | .cleared => 7

/-- The bay state of a code; a code above 7 names none (R198). -/
def bayStateOf : Nat → Option BayState
  | 0 => some .empty | 1 => some .coupled | 2 => some .standby | 3 => some .prepare
  | 4 => some .ready | 5 => some .held | 6 => some .releasing | 7 => some .cleared
  | _ => none

/-- The code of a planner mode. -/
def plannerModeCode : PlannerMode → Nat
  | .off => 0 | .frost => 1 | .heat => 2 | .maintain => 3

/-- The kind code of a frame kind the part sends (R14). -/
def sendKindCode : SendKind → Nat
  | .shed => 0 | .load => 2 | .baystate => 3 | .ask => 6 | .report => 7

/-- The fixed payload size of a kind code, in bytes (R14). -/
def payloadSize : Nat → Nat
  | 0 => 3 | 1 => 3 | 2 => 5 | 3 => 13 | 4 => 4 | 5 => 7 | 6 => 2 | _ => 15

/-- The length of a frame with `n` payload bytes, in bits (R14). -/
def frameBitCount (n : Nat) : Nat := 30 + 8 * n

/-- The code of a decouple flag. -/
def decoupleFlagCode : DecoupleFlag → Nat
  | .none => 0 | .departed => 1 | .unplanned => 2

/-- The code of a revocation. -/
def revocationCode : Revocation → Nat
  | .none => 0 | .deferred => 1 | .requested => 2

/-- The code of an order's outcome. -/
def outcomeCode : JobOutcome → Nat
  | .taken => 0 | .pending => 1 | .refused _ => 2

/-- The code of an order's reason; 0 for TAKEN and PENDING. -/
def reasonCode : JobOutcome → Nat
  | .taken => 0 | .pending => 0
  | .refused .wrongState => 1 | .refused .linkDown => 2 | .refused .busy => 3
  | .refused .badKind => 4 | .refused .moving => 5 | .refused .withdrawn => 6

/-- The order kind codes. -/
def sweepKind : Byte := 0
/-- READFAULTS. -/
def readfaultsKind : Byte := 1
/-- CLEARSTORED. -/
def clearstoredKind : Byte := 2
/-- HOLD. -/
def holdKind : Byte := 3
/-- UNHOLD. -/
def unholdKind : Byte := 4
/-- LANEPASS. -/
def lanepassKind : Byte := 5
/-- SHOW. -/
def showKindCode : Byte := 6
/-- BAYRESET. -/
def bayresetKind : Byte := 7

/-- What a SHOW argument selects; an argument that names none of the seven kinds selects SUMMARY (R192). -/
def showOf : Nat → ShowKind
  | 1 => .lamps | 2 => .faults | 3 => .peers | 4 => .plan | 5 => .counters | 6 => .roster | _ => .summary

/-- The code of a link state. -/
def linkStateCode : LinkState → Nat
  | .down => 0 | .starting => 1 | .up => 2 | .lost => 3

/-- The code of a chain status. -/
def chainStatusCode : ChainStatus → Nat
  | .good => 0 | .faulty => 1 | .untested => 2

/-- The sweep code: the status, with the drop reason of DROPPED. -/
def sweepCode : SweepStatus → Nat
  | .none => 0 | .requested => 1 | .running _ _ => 2 | .complete => 3 | .aborted => 4
  | .dropped .linkDown => 5 | .dropped .notHeld => 6 | .dropped .chainFault => 7 | .dropped .wrongState => 8

/-- The code of an operation status. -/
def opStatusCode : OpStatus → Nat
  | .idle => 0 | .waiting => 1 | .clearing => 2 | .counting => 3 | .reading => 4

/-- The code of a verdict. -/
def verdictCode : Verdict → Nat
  | .ok => 0 | .low => 1 | .high => 2 | .flicker => 3 | .unknown => 4 | .notFitted => 5

/-- The code of a class. -/
def classCode : FaultClass → Nat
  | .block => 0 | .warn => 1 | .info => 2

/-- The code of an entry's state. -/
def faultStateCode : FaultState → Nat
  | .active => 1 | .stored => 2 | .intermittent => 3

/-- The code of the heat-start watch. -/
def watchCode : Watch → Nat
  | .notBegun => 0 | .armed => 1 | .passed => 2

/-- A number whose bit k is the k-th member of the list. -/
def bitsOf : List Bool → Nat
  | [] => 0
  | b :: bs => b.toNat + 2 * bitsOf bs

/-- The hold-reason set, one bit a reason. -/
def reasonsCode (r : Reasons) : Nat :=
  bitsOf [r.faultBlock, r.lampFail, r.lampUnchecked, r.faultsStale, r.linkLost, r.chainFault, r.laneBlocked,
    r.laneUnknown, r.yardHoldRefused, r.orderHold, r.releaseRefused]

/-- The remarks set, one bit a remark. -/
def remarksCode (r : Remarks) : Nat :=
  bitsOf [r.numberClash, r.peerOverflow, r.feederMismatch, r.laneClash, r.cold, r.cabinSensor, r.outsideSensor,
    r.faultsTruncated, r.staleClearance]

/-! ## Frame fields (section 13.1) -/

/-- The low byte of a number. -/
def byteOf (n : Nat) : Byte := BitVec.ofNat 8 n

/-- A two-byte field, high byte first. -/
def bytesOf (n : Nat) : List Byte := [byteOf (n / 256), byteOf n]

/-- The two's complement of a number in a field of `width` bits. -/
def twosComplement (width : Nat) (m : Int) : Nat := (m % 2 ^ width).toNat

/-- Depth from byte 1 of LOAD and BAYSTATE: bits 5–4 hold the depth less one. -/
def placeDepth (b : Byte) : Nat := b.toNat / 16 % 4 + 1
/-- Feeder group from byte 1 of LOAD and BAYSTATE. -/
def placeGroup (b : Byte) : Nat := b.toNat / 4 % 4
/-- Feeder class from byte 1 of LOAD and BAYSTATE. -/
def placeClass (b : Byte) : Nat := b.toNat % 4
/-- Urgency from byte 4 of LOAD. -/
def planUrgency (b : Byte) : Nat := b.toNat % 16
/-- Feeder group from byte 0 of SHED: bits 1–0. -/
def shedGroup (b : Byte) : Nat := b.toNat % 4
/-- Byte 1 of LOAD and BAYSTATE for a depth, group and class. -/
def placeByte (depth group cls : Nat) : Byte := byteOf ((depth - 1) * 16 + group * 4 + cls)

/-! ## Frames and the check value -/

/-- The low `n` bits of a number, most significant first, `true` for a 1. -/
def msbFirst : Nat → Nat → List Bool
  | 0, _ => []
  | n + 1, v => v.testBit n :: msbFirst n v

/-- One bit through the CRC register, generator x^16 + x^12 + x^5 + 1 (R15). -/
def crcStep (reg : Word16) (b : Bool) : Word16 :=
  if reg.msb != b then (reg <<< 1) ^^^ 0x1021#16 else reg <<< 1

/-- The check value of the bits, the register starting at all ones (R15). -/
def crc16 (bits : List Bool) : Word16 := bits.foldl crcStep 0xFFFF#16

/-- The arbitration value: 64 × kind code + sender number (R14). -/
def arbitrationOf (kind sender : Nat) : Nat := 64 * kind + sender

/-- The bits the check value is computed over: arbitration value, length, payload, in the order sent (R15). The length goes
most significant bit first, as the arbitration value and the payload bytes do (notes/assumptions/26). -/
def coveredBits (arbitration length : Nat) (payload : List Byte) : List Bool :=
  msbFirst 9 arbitration ++ msbFirst 4 length ++ payload.flatMap fun b => msbFirst 8 b.toNat

/-- A whole frame as driven: start bit (dominant, 0), covered bits, check value (R14). -/
def frameBits (kind sender : Nat) (payload : List Byte) : List Bool :=
  let covered := coveredBits (arbitrationOf kind sender) payload.length payload
  false :: covered ++ msbFirst 16 (crc16 covered).toNat

/-- The kind code of a frame read: the high 3 bits of its arbitration value. -/
def RawFrame.kind (f : RawFrame) : Nat := f.arbitration.toNat / 64

/-- Whether a frame read whole is corrupt: its check value is not good, or its length is not the fixed size of its kind
(R28). -/
def RawFrame.corrupt (f : RawFrame) : Bool :=
  crc16 (coveredBits f.arbitration.toNat f.length.toNat f.payload) != f.check
    || f.length.toNat != payloadSize (RawFrame.kind f)

/-! ## Coach link words (section 13.2) -/

/-- A coach word as judged (R124, R126). -/
inductive CoachWord where
  | idle | wait | ack | garbled
  | data (word : Word16)
  | last (word : Word16)
  | refuse (reason : Word16)
  deriving DecidableEq, Repr

/-- The number of ones among the low `n` bits of a number. -/
def onesBelow : Nat → Nat → Nat
  | 0, _ => 0
  | n + 1, v => (v.testBit n).toNat + onesBelow n v

/-- The word of a tag and payload, with the parity bit that makes the count of ones odd (R124, R199). -/
def linkWord (tag payload : Nat) : LinkWord :=
  let body := tag * 131072 + payload * 2
  BitVec.ofNat 21 (body + (onesBelow 21 body + 1) % 2)

/-- The NOP word (R124). -/
def nopWord : LinkWord := linkWord 0 0

/-- The code of a command (section 13.2). -/
def commandCode : CommandCode → Nat
  | .ping => 1 | .ident => 2 | .hold => 3 | .release => 4 | .lamps => 5 | .fcount => 6 | .fread => 7 | .fclear => 8

/-- The CMD word of a command: code in the high byte of the payload, argument in the low byte (R124). -/
def cmdWord (c : Command) : LinkWord := linkWord 1 (commandCode c.code * 256 + c.arg.toNat)

/-- How a word of the coach is judged: any tag but the coach's six, or bad parity, makes it garbled (R124, R199). -/
def judgeWord (w : LinkWord) : CoachWord :=
  let payload : Word16 := BitVec.ofNat 16 (w.toNat / 2)
  if onesBelow 21 w.toNat % 2 = 0 then .garbled
  else match w.toNat / 131072 with
    | 8 => .idle
    | 9 => .ack
    | 10 => .data payload
    | 11 => .last payload
    | 12 => .wait
    | 13 => .refuse payload
    | _ => .garbled

/-- The reasons of a REFUSE (R124). -/
inductive RefuseReason where
  | notHeld | moving | noRecord | busy
  deriving DecidableEq, Repr

/-- The reason that a REFUSE payload names (section 13.2). -/
def refuseReasonOf (w : Word16) : Option RefuseReason :=
  match w.toNat with
  | 1 => some .notHeld | 2 => some .moving | 3 => some .noRecord | 4 => some .busy
  | _ => none

/-- The argument of LAMPS: group in bits 5–4, mask in bits 3–0. -/
def lampsArg (group : Nat) (mask : BitVec 4) : Byte := byteOf (group * 16 + mask.toNat)

/-- The commands with a fixed argument. -/
def lightsOffCommand : Command := ⟨.lamps, lampsArg 0 0⟩

/-! ## Identity and fault records (sections 8.6, 10.2, 13.2) -/

/-- The identity of an IDENT answer's words, or `none` where the record is rejected (R137). -/
def identityOf : List Word16 → Option Identity
  | w0 :: w1 :: w2 :: fitted :: led :: nominals =>
    let ih := w1.toNat / 256
    let h := w2.toNat / 256
    let ns := nominals.map BitVec.toNat
    if ns.length = onesBelow 16 fitted.toNat && w0.toNat != 0 && ih ≤ 63 && h != 0
        && ns.all (fun n => 1 ≤ n && n ≤ 1000) then
      some { coach := w0.toNat, ih := ih, memory := w1.toNat % 256, h := h, c := w2.toNat % 256,
             fitted := fitted, led := led, nominals := ns }
    else none
  | _ => none

/-- The state of fault word 1, bits 15–14. -/
def faultStateOf : Nat → Option FaultState
  | 1 => some .active | 2 => some .stored | 3 => some .intermittent
  | _ => none

/-- The record of a FREAD answer's words read at `order`, or `none` where the record is rejected (R158). System 14 is
taken as system 15; the freeze words are discarded. -/
def recordOf (order : Nat) : List Word16 → Option Staged
  | w0 :: w1 :: rest =>
    let aged := w1.toNat / 8192 % 2
    let freeze := w1.toNat / 1024 % 8
    let count := w1.toNat % 256
    let system := w0.toNat / 4096
    if rest.length = aged + freeze && freeze ≤ 4 && count != 0 then
      (faultStateOf (w1.toNat / 16384)).map fun st =>
        { system := if system = 14 then 15 else system
          code := w0.toNat % 4096
          state := st
          count := count
          age := if aged = 1 then rest.head?.map BitVec.toNat else none
          order := order }
    else none
  | _ => none

end Sys2Proof.Machine
end

