-- ==== Sys2Proof/Machine/Ops.lean ====
section
/-! DEFINITION. The operations that several blocks share: the passing of oscillator time, minutes to departure, ages,
watches, and how a command is brought to the part. -/

namespace Sys2Proof.Machine

/-- Brings a command to the part. Only normal operation takes events: while the part is inactive it takes no input (R1),
and in STRAP FAULT it does nothing more than drive its outputs (R4). The queue is not touched. -/
def act (f : Part → Part) (s : State) : Host.Outcome State Fault Refusal :=
  .next { s with part := if s.part.mode = .normal then f s.part else s.part }

/-- The oscillator stands at `t` at least: a command that says that a moment has come brings time to it. -/
def advanceTo (t : Moment) (p : Part) : Part := { p with osc := max p.osc t }

/-- On an empty queue one bit time passes; nothing runs while the part is inactive (R1, notes/assumptions/2). -/
def Part.tick (p : Part) : Part := if p.mode = .inactive then p else { p with osc := p.osc + bitTime }

/-- M, the minutes from `now` to the departure minute `d` (R11). -/
def minutesTo (now d : Nat) : Int :=
  let v := ((d : Int) - now) % 1440
  if v ≤ 1379 then v else v - 1440

/-- The minutes from `then_` to `now` modulo a day (R155, R169). -/
def ageInMinutes (now then_ : Nat) : Nat := (((now : Int) - then_) % 1440).toNat

/-- The age of a dated completion; absent when there is none or it is undated (R155, R169). -/
def completionAge (now : Nat) : Option Completion → Option Nat
  | some c => if c.dated then some (ageInMinutes now c.minute) else none
  | none => none

/-- One evaluation of a watch of threshold `x` at M: the watch after it, and whether the threshold is first observed
(R12). -/
def evaluateWatch (w : Watch) (m x : Int) : Watch × Bool :=
  match w with
  | .notBegun => (.notBegun, false)
  | .armed => if m ≤ x then (.passed, true) else (.armed, false)
  | .passed => if m ≤ x then (.passed, false) else (.armed, false)

/-- Whether the clock dates a completion now (R151, R163). -/
def Part.dated (p : Part) : Bool := p.clock.status != .invalid

/-- A completion at the minute the clock holds (R151, R163). -/
def Part.completionNow (p : Part) : Completion := { minute := p.clock.minute, dated := Part.dated p }

/-- M for the roster copy of the bay record; absent when no copy is held. -/
def Part.minutesToDeparture (p : Part) : Option Int :=
  p.bay.roster.map fun r => minutesTo p.clock.minute r.departure

end Sys2Proof.Machine
end

