-- ==== Sys2Proof/Machine/Flags.lean ====
section
/-! DEFINITION. The flags: send requests and their re-raise marks (R19, R22), the remarks set and the hold-reason set
with the BAYSTATE that each change of them raises (R25). -/

namespace Sys2Proof.Machine

/-- The flag of a kind. REPORT has none here. -/
def SendFlags.get (f : SendFlags) : SendKind → Bool
  | .shed => f.shed
  | .load => f.load
  | .baystate => f.baystate
  | .ask => f.ask
  | .report => false

/-- Writes the flag of a kind. REPORT has none here. -/
def SendFlags.put (f : SendFlags) (k : SendKind) (v : Bool) : SendFlags :=
  match k with
  | .shed => { f with shed := v }
  | .load => { f with load := v }
  | .baystate => { f with baystate := v }
  | .ask => { f with ask := v }
  | .report => f

/-- The kind of the frame being transmitted. -/
def Part.sending (p : Part) : Option SendKind := p.line.tx.map (·.kind)

/-- The REPORT flag follows the reply job queue (R19). -/
def Part.reportPending (p : Part) : Bool := !p.orders.jobs.isEmpty

/-- A block raises a request: its flag is set, or its re-raise mark while a frame of the kind is in flight (R19, R22). -/
def raise (k : SendKind) (p : Part) : Part :=
  if Part.sending p = some k then { p with line := { p.line with marks := SendFlags.put p.line.marks k true } }
  else { p with line := { p.line with flags := SendFlags.put p.line.flags k true } }

/-- Whether a remark is set. -/
def Remarks.get (r : Remarks) : Remark → Bool
  | .numberClash => r.numberClash
  | .peerOverflow => r.peerOverflow
  | .feederMismatch => r.feederMismatch
  | .laneClash => r.laneClash
  | .cold => r.cold
  | .cabinSensor => r.cabinSensor
  | .outsideSensor => r.outsideSensor
  | .faultsTruncated => r.faultsTruncated
  | .staleClearance => r.staleClearance

/-- Writes a remark. -/
def Remarks.put (r : Remarks) (k : Remark) (v : Bool) : Remarks :=
  match k with
  | .numberClash => { r with numberClash := v }
  | .peerOverflow => { r with peerOverflow := v }
  | .feederMismatch => { r with feederMismatch := v }
  | .laneClash => { r with laneClash := v }
  | .cold => { r with cold := v }
  | .cabinSensor => { r with cabinSensor := v }
  | .outsideSensor => { r with outsideSensor := v }
  | .faultsTruncated => { r with faultsTruncated := v }
  | .staleClearance => { r with staleClearance := v }

/-- Sets or clears a remark. A change of the remarks set raises BAYSTATE; setting a remark that is already set is no
change (R25). -/
def setRemark (k : Remark) (v : Bool) (p : Part) : Part :=
  if Remarks.get p.remarks k = v then p
  else raise .baystate { p with remarks := Remarks.put p.remarks k v }

/-- Sets the hold-reason set. A change of it raises BAYSTATE (R25). -/
def setReasons (r : Reasons) (p : Part) : Part :=
  if p.bay.reasons = r then p
  else raise .baystate { p with bay := { p.bay with reasons := r } }

/-- Whether a hold-reason set holds any reason. -/
def Reasons.any (r : Reasons) : Bool :=
  r.faultBlock || r.lampFail || r.lampUnchecked || r.faultsStale || r.linkLost || r.chainFault || r.laneBlocked
    || r.laneUnknown || r.yardHoldRefused || r.orderHold || r.releaseRefused

end Sys2Proof.Machine
end

