-- ==== Sys2Proof/Machine/Jobs.lean ====
section
/-! DEFINITION. The reply job queue and the end of a revocation (chapter 12). -/

namespace Sys2Proof.Machine

/-- The size of the reply job queue (R194). -/
def jobLimit : Nat := 4

/-- A job joins the queue at its tail (R194). -/
def queueJob (j : Job) (p : Part) : Part := { p with orders := { p.orders with jobs := p.orders.jobs ++ [j] } }

/-- A PENDING job takes the final outcome (R193). -/
def Job.settle (final : JobOutcome) (j : Job) : Job := if j.outcome = .pending then { j with outcome := final } else j

/-- The follow-up job of a revocation whose item has gone out PENDING (R193). -/
def followUp (tag : Byte) (sender : StationNo) (final : JobOutcome) : Job :=
  { tag := tag, kind := holdKind, argument := 0, sender := sender, show? := none, outcome := final }

/-- The end of a revocation, as the order handler takes it (R193). `limit` is the number of jobs below which the queue
has room: one less within an order that has still to queue its own job (notes/assumptions/13). -/
def revocationEnd (final : JobOutcome) (limit : Nat) (p : Part) : Part :=
  match p.orders.revocation with
  | none => p
  | some r =>
    let p := { p with orders := { p.orders with revocation := none } }
    if r.sent then
      if p.orders.jobs.length < limit then queueJob (followUp r.tag r.sender final) p else p
    else { p with orders := { p.orders with jobs := p.orders.jobs.map (Job.settle final) } }

end Sys2Proof.Machine
end

