-- ==== Sys2Proof/Machine/Readings.lean ====
section
/-! DEFINITION. Temperature channels: rings, runs, sensor status, staleness, and the readings computed from them
(R91 to R95). -/

namespace Sys2Proof.Machine

/-- The class of a temperature code (R91). A valid code is given as it enters the ring. -/
inductive CodeClass where
  | short
  | valid (code : Nat)
  | open
  deriving DecidableEq, Repr

/-- Classes a code (R91). -/
def classify (code : Nat) : CodeClass :=
  if code ≤ 15 then .short
  else if code ≤ 1000 then .valid code
  else if code ≤ 1007 then .valid 1000
  else .open

/-- A valid code joins the ring as its newest; a full ring loses its oldest (R92). -/
def pushRing (ring : List Nat) (code : Nat) : List Nat :=
  if ring.length < 4 then ring ++ [code] else ring.drop 1 ++ [code]

/-- The run after a short or open code (R93). -/
def extendRun (k : RunKind) : Option (RunKind × Nat) → RunKind × Nat
  | some (j, n) => if j = k then (k, min 4 (n + 1)) else (k, 1)
  | none => (k, 1)

/-- A short or open code: the run grows, and at a length of 4 the sensor status follows it (R93). -/
def Channel.fail (c : Channel) (k : RunKind) (status : SensorStatus) : Channel :=
  let run := extendRun k c.run
  { c with run := some run, status := if run.2 = 4 then status else c.status }

/-- A code kept while the chain is GOOD (R91 to R94). -/
def Channel.take (c : Channel) (code : Nat) : Channel :=
  match classify code with
  | .short => Channel.fail c .short .short
  | .open => Channel.fail c .open .open
  | .valid v => { ring := pushRing c.ring v, run := none, status := .ok, stale := 0 }

/-- The staleness count advances at a boundary, to at most 16 (R94). -/
def Channel.age (c : Channel) : Channel := { c with stale := min 16 (c.stale + 1) }

/-- The average of a ring, rounded half up (R95). -/
def ringAverage (ring : List Nat) : Nat := (ring.sum + ring.length / 2) / ring.length

/-- The reading of a channel in tenths of a degree; none with an empty ring (R95). -/
def Channel.reading (c : Channel) : Option Int :=
  if c.ring = [] then none else some ((min (ringAverage c.ring) 1000 : Nat) - 400 : Int)

/-- Why a reading is not usable, from the first row that applies (R95). -/
inductive Cause where
  | usable | short | open | noReading | stale
  deriving DecidableEq, Repr

/-- The cause of a channel (R95). -/
def Channel.cause (c : Channel) : Cause :=
  if c.status = .short then .short
  else if c.status = .open then .open
  else if c.ring = [] then .noReading
  else if c.stale = 16 then .stale
  else .usable

/-- The reading, where it is usable (R95). -/
def Channel.usable (c : Channel) : Option Int :=
  if Channel.cause c = .usable then Channel.reading c else none

/-- The code of a cause (section 13.4). -/
def causeCode : Cause → Nat
  | .usable => 0 | .short => 1 | .open => 2 | .noReading => 3 | .stale => 4

end Sys2Proof.Machine
end

