-- ==== Sys2Proof/Machine/Planner.lean ====
section
/-! DEFINITION. The pre-heat planner (chapter 7): one recomputation of the plan record. -/

namespace Sys2Proof.Machine

/-- What set a recomputation off (R102). A change of bay state carries the state before it, and a change of the roster copy the copy
before it. -/
inductive Trigger where
  | minute
  | roster (before : Option RosterCopy)
  | bayState (before : BayState)
  | clockStatus
  deriving DecidableEq, Repr

/-- The inputs gathered (R103 to R106). `cabin` and `outside` are the usable readings; `due` says that a minute event of this very
moment is still to be taken, and `lastMinute` is the clock minute that stands, or stood, before the minute event of this moment (R121);
`open_` is the free value for an urgency the manual does not state (notes/assumptions/5). -/
structure PlanInputs where
  state    : BayState
  identity : Option Identity
  roster   : Option RosterCopy
  minutes  : Option Int
  cabin    : Option Int
  outside  : Option Int
  heater   : Bool
  now      : Moment
  due      : Bool
  lastMinute : Nat
  open_    : Nat
  deriving DecidableEq, Repr

/-- The second in progress is a minute's last and has run out at this moment, so that the minute event of R6 meets whatever is
taken now (R121, notes/assumptions/25). -/
def Part.minuteDue (p : Part) : Bool := 59 ≤ p.clock.second && p.clock.secondEnds ≤ p.osc

/-- Gathers the inputs of a recomputation (part 1 of R102). -/
def Part.planInputs (p : Part) : PlanInputs where
  state    := p.bay.state
  identity := p.bay.identity
  roster   := p.bay.roster
  minutes  := Part.minutesToDeparture p
  cabin    := Channel.usable p.measure.cabin
  outside  := Channel.usable p.measure.outside
  heater   := p.latch.heater
  now      := p.osc
  due      := Part.minuteDue p
  lastMinute := if Part.minuteDue p then p.clock.minute else (p.clock.minute + 1439) % 1440
  open_    := (Config.freeUrgency p.free).toNat

/-- The target Tt of a roster target (R105). -/
def targetOf (roster : Nat) : Nat :=
  if roster = 0 then 180 else if roster < 100 then 100 else if roster ≤ 240 then roster else 240

/-- The states of a planned departure, in which a lead is computed (R107). -/
def plannedState : BayState → Bool
  | .prepare => true
  | .ready => true
  | .held => true
  | .releasing => true
  | _ => false

/-- The net rate R = H − G with the loss G (R109). -/
def netRate (target outside : Int) (h c : Nat) : Int := h - max 0 (target - outside) * c / 256

/-- The lead of a usable cabin reading and whether the plan is cold (R108 to R110). -/
def computedLead (target cabin rate : Int) : Nat × Bool :=
  let gain := target - cabin
  if gain ≤ 0 then (0, false)
  else if rate < 4 then (240, true)
  else (min 240 (((gain * 10 + rate - 1) / rate).toNat + 10), false)

/-- The result of the lead computation. -/
structure LeadResult where
  lead  : Option Nat
  basis : LeadBasis
  start : Option Nat
  cold  : Bool
  deriving DecidableEq, Repr

/-- The start minute S of a lead (R110). -/
def startMinute (departure lead : Nat) : Nat := (((departure : Int) - lead) % 1440).toNat

/-- The lead computation (R107 to R111). -/
def leadOf (i : PlanInputs) : LeadResult :=
  match plannedState i.state, i.identity, i.roster with
  | true, some d, some r =>
    let target : Int := targetOf r.target
    let rate := netRate target (i.outside.getD (-200)) d.h d.c
    match i.cabin with
    | none => ⟨some 120, .fixed, some (startMinute r.departure 120), rate < 4⟩
    | some tc =>
      let l := computedLead target tc rate
      ⟨some l.1, .computed, some (startMinute r.departure l.1), l.2⟩
  | _, _, _ => ⟨none, .computed, none, false⟩

/-- The frost substate after it is judged (R113). -/
def judgeFrost (on : Bool) (cabin : Option Int) : Bool :=
  match cabin with
  | none => true
  | some tc => if on then tc < 80 else tc < 50

/-- The MAINTAIN substate after it is judged (R116). Without a cabin reading or a target it is not judged and keeps its
value (notes/assumptions/6). -/
def judgeMaintain (on : Bool) (cabin : Option Int) (target : Option Nat) : Bool :=
  match cabin, target with
  | some tc, some tt => if tc < (tt : Int) - 10 then true else if (tt : Int) ≤ tc then false else on
  | _, _ => on

/-- The mode becomes OFF and everything it holds ends (R112). -/
def modeOff (o : Plan) : Plan :=
  { o with mode := .off, frost := false, maintain := false, watch := .notBegun, begun := false }

/-- The frost watch decides the mode (R113). -/
def modeFrost (cabin : Option Int) (o : Plan) : Plan :=
  let on := judgeFrost o.frost cabin
  { o with frost := on, mode := if on then .frost else .off }

/-- The mode while heating has begun (R116). -/
def modeHeating (cabin : Option Int) (o : Plan) : Plan :=
  match cabin with
  | none => { o with mode := .heat, maintain := false }
  | some tc =>
    if o.mode = .maintain then { o with maintain := judgeMaintain o.maintain cabin o.target }
    else if tc < (o.target.getD 180 : Nat) then { o with mode := .heat, maintain := false }
    else { o with mode := .maintain, maintain := false }

/-- Whether this recomputation is an entry to PREPARE, READY or HELD that begins the heat-start watch (R114). -/
def beginsHeatWatch : Trigger → Bool
  | .bayState .standby => true
  | .bayState .cleared => true
  | _ => false

/-- Whether the change of the roster copy that set the recomputation off moves the departure later: M rises, read at the minute
before the minute event of this moment, so that the order of the two events does not matter (R121, notes/assumptions/25). -/
def PlanInputs.movedLater (i : PlanInputs) : Trigger → Bool
  | .roster (some before) =>
    i.roster.any fun c => decide (minutesTo i.lastMinute before.departure < minutesTo i.lastMinute c.departure)
  | .roster none | .minute | .bayState _ | .clockStatus => false

/-- Whether a change of the roster copy finds the watch PASSED (R115). While heating goes on, an ARMED watch counts as PASSED where the
change moves the departure later and a minute event meets it at this moment, taken (`rearmed`) or still to be taken (`due`): R121 has
heating end at the roster change in either order (notes/assumptions/25). -/
def Plan.foundPassed (o : Plan) (i : PlanInputs) (t : Trigger) : Bool :=
  o.watch == .passed
    || (o.watch == .armed && o.begun && (i.due || o.rearmed == some i.now) && PlanInputs.movedLater i t)

/-- The heat-start watch at a minute event at `now` that finds M at most the lead, or above it (R114, R115). One that leaves the
watch ARMED while heating goes on is noted (notes/assumptions/25). -/
def heatWatchMinute (now : Moment) (reached : Bool) (o : Plan) : Plan :=
  match o.watch, reached with
  | .armed, true =>
    if o.begun then { o with watch := .passed }
    else { o with watch := .passed, begun := true, frost := false, mode := .heat, maintain := false }
  | .armed, false => if o.begun then { o with rearmed := some now } else o
  | .passed, false => { o with watch := .armed, rearmed := some now }
  | .passed, true | .notBegun, _ => o

/-- The heat-start watch (R114, R115), with the lead and M of this recomputation. -/
def heatWatch (t : Trigger) (i : PlanInputs) (o : Plan) : Plan :=
  let o := if beginsHeatWatch t then { o with watch := .armed, begun := false } else o
  match o.lead, i.minutes with
  | some l, some m =>
    match t with
    | .minute => heatWatchMinute i.now (m ≤ l) o
    | .roster _ =>
      if l < m ∧ Plan.foundPassed o i t then
        { o with watch := .armed, begun := false, frost := false, maintain := false }
      else o
    | .bayState _ | .clockStatus => o
  | _, _ => o

/-- The mode and its substates (R112 to R117), from a plan whose target and lead are those of this recomputation. In
RELEASING the mode is kept, FROST too, while the frost substate is off: its watch does not run there (R113, R117). In STANDBY
the MAINTAIN substate becomes off (notes/assumptions/30). -/
def decideMode (t : Trigger) (i : PlanInputs) (o : Plan) : Plan :=
  match i.state with
  | .empty | .coupled | .cleared => modeOff o
  | .standby => modeFrost i.cabin { o with watch := .notBegun, begun := false, maintain := false }
  | .prepare | .ready | .held =>
    let o := heatWatch t i o
    if o.begun then modeHeating i.cabin o else modeFrost i.cabin o
  | .releasing =>
    { o with
      frost := false
      maintain := if o.mode = .maintain then judgeMaintain o.maintain i.cabin o.target else o.maintain }

/-- Whether HEAT's urgency has no M and L to be computed from (notes/assumptions/5). -/
def urgencyOpen (o : Plan) (i : PlanInputs) : Bool :=
  o.mode = .heat && (o.lead.isNone || i.minutes.isNone)

/-- The urgency of HEAT (R118). -/
def heatUrgency (lead : Option Nat) (minutes : Option Int) (open_ : Nat) : Nat :=
  match lead, minutes with
  | some l, some m => if m < 0 then 15 else 8 + min 7 (((l : Int) - m + 3) / 4).toNat
  | _, _ => 8 + open_

/-- The demand and urgency of the mode (R118). -/
def setDemand (i : PlanInputs) (o : Plan) : Plan :=
  let ih := match i.identity with
    | some d => d.ih
    | none => 0
  let demand := match o.mode with
    | .off => 0
    | .frost => ceilDiv ih 4
    | .heat => ih
    | .maintain => if o.maintain then ih else 0
  let urgency := match o.mode with
    | .off => 0
    | .frost => 2
    | .heat => heatUrgency o.lead i.minutes i.open_
    | .maintain => 5
  { o with demand := if i.heater && ih != 0 then demand else 0, urgency := urgency }

/-- Clearance cold (R119): judged at the entry to CLEARED, kept while the bay stays there, no anywhere else. -/
def judgeClearance (t : Trigger) (i : PlanInputs) (o : Plan) : Plan :=
  let cold := match i.state, t with
    | .cleared, .bayState _ =>
      match i.cabin with
      | none => true
      | some tc => tc < (o.target.getD 180 : Nat) - 20
    | .cleared, _ => o.clearanceCold
    | _, _ => false
  { o with clearanceCold := cold }

/-- The plan record after a recomputation (parts 2 to 4 of R102, and clearance cold of part 5). -/
def replan (t : Trigger) (i : PlanInputs) (o : Plan) : Plan :=
  let l := leadOf i
  let o := { o with
    target := i.roster.map fun r => targetOf r.target
    lead := l.lead, basis := l.basis, start := l.start, planCold := l.cold }
  judgeClearance t i (setDemand i (decideMode t i o))

/-- The bay states in which CABIN_SENSOR is judged (R103). -/
def cabinJudged : BayState → Bool
  | .standby => true
  | .prepare => true
  | .ready => true
  | .held => true
  | .releasing => true
  | _ => false

/-- The three remarks of the plan record, judged at the end of the recomputation (R103, R104, R119, R120). -/
def judgePlanRemarks (i : PlanInputs) (p : Part) : Part :=
  setRemark .outsideSensor i.outside.isNone <|
    setRemark .cabinSensor (cabinJudged i.state && i.cabin.isNone) <|
      setRemark .cold (p.plan.planCold || p.plan.clearanceCold) p

/-- A recomputation (R102). -/
def recompute (t : Trigger) (p : Part) : Part :=
  let i := Part.planInputs p
  let plan := replan t i p.plan
  judgePlanRemarks i { p with plan := plan, free := if urgencyOpen plan i then p.free + 1 else p.free }

end Sys2Proof.Machine
end

