-- ==== Sys2Proof/Machine/PeerViews.lean ====
section
/-! DEFINITION. What the peer table gives the other blocks: contenders, draws, the feeder limit in use, the lane view
(R42 to R47). Each is read from the entries as they stand, so none of them can lag behind the table. -/

namespace Sys2Proof.Machine

/-- A LIVE entry. -/
def Peer.live (e : Peer) : Bool := e.status = .live

/-- The LIVE entries of the own feeder group. -/
def Part.groupPeers (p : Part) : List Peer :=
  p.peers.entries.filter fun e => Peer.live e && e.group = p.latch.group

/-- The peer contenders (R42): LIVE, of the own group, load present with a demand above 0. -/
def Part.peerContenders (p : Part) : List Contender :=
  (Part.groupPeers p).filterMap fun e =>
    match e.load with
    | some l => if 0 < l.demand then some { station := e.station, demand := l.demand, urgency := l.urgency } else none
    | none => none

/-- The sum of the peer draws (R42): LIVE and GHOST entries of the own group whose load is present. -/
def Part.peerDraws (p : Part) : Nat :=
  ((p.peers.entries.filter fun e => e.group = p.latch.group).map fun e =>
    match e.load with
    | some l => l.draw
    | none => 0).sum

/-- The own feeder limit (R2). -/
def Part.ownLimit (p : Part) : Nat := feederLimit p.latch.cls

/-- The feeder limit in use (R43): the smallest of the own limit and those of the LIVE entries of the own group. -/
def Part.feederLimitInUse (p : Part) : Nat :=
  ((Part.groupPeers p).map fun e => feederLimit e.cls).foldl min (Part.ownLimit p)

/-- The value of an ahead position (R45). -/
inductive Position where
  | unknown | free | occupied
  deriving DecidableEq, Repr

/-- The LIVE entries that claim the own lane at a depth (R45). -/
def Part.claims (p : Part) (depth : Nat) : List Peer :=
  p.peers.entries.filter fun e => Peer.live e && e.lane = p.latch.lane && e.depth = depth

/-- The value of an ahead position from its claimants (R45). -/
def positionValue : List Peer → Position
  | [e] =>
    match e.bayState with
    | none => .unknown
    | some .empty => .free
    | some _ => .occupied
  | _ => .unknown

/-- The ahead positions of the lane view (R45): none with lane 0 or at depth 1. -/
def Part.aheadDepths (p : Part) : List Nat :=
  if p.latch.lane = 0 then [] else (List.range (p.latch.depth - 1)).map (· + 1)

/-- The lane view (R45), position 1 first. -/
def Part.laneView (p : Part) : List Position :=
  (Part.aheadDepths p).map fun d => positionValue (Part.claims p d)

/-- Whether the lane is clear (R47): lane 0, depth 1, or every ahead position FREE. -/
def Part.laneClear (p : Part) : Bool := (Part.laneView p).all (· == .free)

/-- Whether two claims of the own lane clash (R46). -/
def Part.laneClashes (p : Part) : Bool :=
  (Part.aheadDepths p).any (fun d => 2 ≤ (Part.claims p d).length)
    || (p.latch.lane != 0 && !(Part.claims p p.latch.depth).isEmpty)

end Sys2Proof.Machine
end

