-- ==== Sys2Proof/Machine/ShareUnit.lean ====
section
/-! DEFINITION. The share unit (chapter 4): the grant step, the shed check and immediate zero. -/

namespace Sys2Proof.Machine

/-- The heater current of the identity held in the bay record; absent when none is held (R55). -/
def Part.heaterCurrent (p : Part) : Option Nat := p.bay.identity.map (·.ih)

/-- The states in which step 2 gives 0 (R56). -/
def zeroGrantState : BayState → Bool
  | .empty => true
  | .coupled => true
  | .cleared => true
  | _ => false

/-- The contender list of a grant step for the demand and urgency just latched, in its order (R50). -/
def Part.contenderList (p : Part) (demand urgency : Nat) : List Contender :=
  orderContenders <|
    (if 0 < demand then [{ station := p.latch.station, demand := demand, urgency := urgency }] else [])
      ++ Part.peerContenders p

/-- The free room F for the available current `a` (R52); it may be negative. -/
def Part.freeRoom (p : Part) (a : Nat) : Int := (a : Int) - ((p.share.ga : Int) + Part.peerDraws p)

/-- Whether a claim time is settled at the boundary `t` (R54). -/
def claimSettled (claim : Option Moment) (t : Moment) : Bool :=
  match claim with
  | some c => c + claimPeriod ≤ t
  | none => false

/-- The claim time after step 1 of a grant step: a change of the latched demand removes it (R53). -/
def claimAfterLatch (claim : Option Moment) (before now : Nat) : Option Moment :=
  if now = before then claim else none

/-- Whether step 2 gives 0: in EMPTY, COUPLED and CLEARED (R56), and at the first boundary after an immediate zero, whatever
state the bay has reached by then (R67, R77, notes/assumptions/27). -/
def Part.grantsZero (p : Part) : Bool := zeroGrantState p.bay.state || p.share.zeroed

/-- The grant step of the boundary that opened the frame in progress (R55 to R60). The claim time outlives an immediate zero
(R53, R67), also where R68 has it renewed and no boundary has latched another demand (notes/assumptions/27). -/
def grantStep (p : Part) : Part :=
  let a := available (Part.feederLimitInUse p)
  let q := quietAllowance a
  let demand := p.plan.demand
  let claim := claimAfterLatch p.share.claim p.share.demand demand
  let gt := waterFill p.latch.station a (Part.contenderList p demand p.plan.urgency)
  let ih := Part.heaterCurrent p
  let ga := grantAfterTarget (Part.grantsZero p) p.share.shedLock.isSome
    (claimSettled claim p.heat.frameStart) p.share.ga gt (Part.freeRoom p a)
  let ga := grantLimited (p.share.mutedHeld || p.share.overflowHeld) q ih a p.share.halvingDue ga
  let duty := dutyOf ih ga p.heat.ceiling
  let draw := reportedDraw ih duty
  let changed := demand != p.share.demand || p.plan.urgency != p.share.urgency || p.plan.mode != p.share.mode
    || draw != p.share.draw
  let p := { p with
    share := { p.share with
      aInForce := a, qInForce := q, demand := demand, urgency := p.plan.urgency, mode := p.plan.mode,
      gt := gt, ga := ga, draw := draw, claim := claim, halvingDue := false,
      zeroed := false }
    heat := { p.heat with shadow := duty } }
  if changed then raise .load p else p

/-- The observed sum (R62). -/
def Part.observedSum (p : Part) : Nat := p.share.draw + Part.peerDraws p

/-- Starts or restarts the shed lock with 60 s remaining; a start marks halving due (R63, R64). -/
def lockShed (p : Part) : Part :=
  { p with share := { p.share with
      shedLock := some (p.osc + shedLockPeriod)
      halvingDue := p.share.halvingDue || p.share.shedLock.isNone } }

/-- A shed check (R62, R63): an observed sum above the feeder limit in use is a detection. It raises SHED only when no
lock runs. -/
def shedCheck (p : Part) : Part :=
  if Part.feederLimitInUse p < Part.observedSum p then
    lockShed (if p.share.shedLock.isNone then raise .shed p else p)
  else p

/-- Immediate zero (R67, R77): Ga, the duty in force and the duty shadow are 0 at once and the heater pin is inactive.
The step in progress keeps its phase. The zero is held to the next boundary. -/
def immediateZero (p : Part) : Part :=
  { p with
    share := { p.share with ga := 0, zeroed := true }
    heat := { p.heat with duty := 0, shadow := 0, pin := false } }

end Sys2Proof.Machine
end

