-- ==== Sys2Proof/Machine/Requests.lean ====
section
/-! DEFINITION. What blocks ask of each other: requests in the slots of the coach link, requests for a sweep or a fault
list operation, and the ending of either. -/

namespace Sys2Proof.Machine

/-! ## Request slots (R135, R136) -/

/-- The request a slot holds. -/
def Slots.get (s : Slots) : Requester → Option Command
  | .keeper => s.keeper
  | .bay => s.bay
  | .sweep => s.sweep
  | .faults => s.faults

/-- Fills or empties a slot; a request that waited there is replaced (R136). -/
def Slots.put (s : Slots) (who : Requester) (c : Option Command) : Slots :=
  match who with
  | .keeper => { s with keeper := c }
  | .bay => { s with bay := c }
  | .sweep => { s with sweep := c }
  | .faults => { s with faults := c }

/-- A requester places a request, or empties its slot (R136). -/
def setSlot (who : Requester) (c : Option Command) (p : Part) : Part :=
  { p with link := { p.link with slots := Slots.put p.link.slots who c } }

/-- A requester places a command without an argument. -/
def place (who : Requester) (code : CommandCode) (p : Part) : Part := setSlot who (some { code := code }) p

/-- A lights-off request that waits is gone when its slot is filled by another LAMPS or emptied (R154). -/
def LightsOff.displaced : LightsOff → LightsOff
  | .waiting => .notPlaced
  | l => l

/-- The sweep places a LAMPS of its own (R146, R149). -/
def placeLamps (arg : Byte) (p : Part) : Part :=
  setSlot .sweep (some { code := .lamps, arg := arg })
    { p with sweep := { p.sweep with lightsOff := LightsOff.displaced p.sweep.lightsOff } }

/-- The sweep's slot is emptied (R136). -/
def withdrawLamps (p : Part) : Part :=
  setSlot .sweep none { p with sweep := { p.sweep with lightsOff := LightsOff.displaced p.sweep.lightsOff } }

/-- The sweep places its lights-off request (R154). -/
def placeLightsOff (p : Part) : Part :=
  setSlot .sweep (some lightsOffCommand) { p with sweep := { p.sweep with lightsOff := .waiting } }

/-! ## The lamp sweep -/

/-- Whether a sweep runs. -/
def SweepStatus.isRunning : SweepStatus → Bool
  | .running _ _ => true
  | _ => false

/-- A start request as the lamp sweep receives it (R144). -/
def sweepRequest (p : Part) : Part :=
  if SweepStatus.isRunning p.sweep.status then p else { p with sweep := { p.sweep with status := .requested } }

/-- Whether a conversion is one of a lamp. -/
def Conversion.isLamp : Conversion → Bool
  | .lamp _ => true
  | _ => false

/-- Whether a conversion is the cabin's. -/
def Conversion.isCabin : Conversion → Bool
  | .cabin => true
  | _ => false

/-- A conversion is discarded where it is of the kind told (R96, R98). -/
def discardIf (kind : Conversion → Bool) : Option Conversion → Option Conversion
  | some c => if kind c then none else some c
  | none => none

/-- Lamp conversions are discarded and every mark removed (R98). -/
def discardLampCodes (p : Part) : Part :=
  { p with measure := { p.measure with
      converting := discardIf Conversion.isLamp p.measure.converting
      ending := discardIf Conversion.isLamp p.measure.ending
      marks := [] } }

/-- The abort of a running sweep (R153), with the lights-off request where the cause leaves the link UP (R154). -/
def sweepAbort (lightsOff : Bool) (p : Part) : Part :=
  if SweepStatus.isRunning p.sweep.status then
    let p := discardLampCodes (withdrawLamps p)
    let p := { p with
      sweep := { p.sweep with status := .aborted, settle := none, work := [] }
      heat := { p.heat with sweepRunning := false } }
    if lightsOff then placeLightsOff p else p
  else p

/-- Decouple, teardown and bay reset: a running sweep is ended, the sweep and the lamp table take their start-up values
(R142, R143). -/
def clearSweep (p : Part) : Part :=
  { discardLampCodes (sweepAbort false p) with sweep := {}, lamps := clearedLamps }

/-! ## The fault list -/

/-- An operation starts with the link UP: an empty staging set, and its first command placed (R161, R166). -/
def startOperation (kind : OpKind) (p : Part) : Part :=
  let begun (status : OpStatus) : Faults :=
    { p.faults with status := status, kind := some kind, toRead := none, nextIndex := none, staging := [], rejected := 0 }
  match kind with
  | .read => place .faults .fcount { p with faults := begun .counting }
  | .clearAndRead => place .faults .fclear { p with faults := begun .clearing }

/-- An operation waits for the link, with the staging set emptied (R161, R165). -/
def waitOperation (kind : Option OpKind) (p : Part) : Part :=
  { p with faults := { p.faults with
      status := .waiting, kind := kind, toRead := none, nextIndex := none, staging := [], rejected := 0 } }

/-- The states in which the fault list and the sweep refuse every start (R145, R161). -/
def closedToChecks : BayState → Bool
  | .releasing => true
  | .cleared => true
  | _ => false

/-- A read or clear request as the fault list receives it (R161). -/
def faultRequest (kind : OpKind) (p : Part) : Part :=
  match p.faults.status with
  | .idle =>
    if closedToChecks p.bay.state then p
    else match p.link.state with
      | .down => p
      | .up => startOperation kind p
      | .starting | .lost => waitOperation (some kind) p
  | .waiting =>
    match kind with
    | .read => p
    | .clearAndRead => { p with faults := { p.faults with kind := some .clearAndRead } }
  | .clearing | .counting | .reading => p

/-- An operation is cut short and waits for the link (R165). -/
def operationWaits (p : Part) : Part :=
  match p.faults.status with
  | .clearing | .counting | .reading => setSlot .faults none (waitOperation p.faults.kind p)
  | .idle | .waiting => p

/-- An operation is cut short and not resumed. The count of the rejected stands until the next start (R161, R165). -/
def operationEnds (p : Part) : Part :=
  setSlot .faults none { p with faults := { p.faults with
    status := .idle, kind := none, toRead := none, nextIndex := none, staging := [] } }

/-- A WAITING operation resumes when the link returns with the same coach (R166). -/
def operationResumes (p : Part) : Part :=
  match p.faults.status, p.faults.kind with
  | .waiting, some kind => startOperation kind p
  | _, _ => p

/-- The list is emptied, after any operation has been cut short (R167). -/
def clearFaults (p : Part) : Part :=
  setRemark .faultsTruncated false { operationEnds p with faults := {} }

/-! ## The CABIN channel (R96) -/

/-- The CABIN channel is reset, and a CABIN conversion in progress discarded. -/
def resetCabin (p : Part) : Part :=
  { p with measure := { p.measure with
      converting := discardIf Conversion.isCabin p.measure.converting
      ending := discardIf Conversion.isCabin p.measure.ending
      cabin := {} } }

/-- CABIN is no longer owed in the current frame. -/
def cabinNotOwed (p : Part) : Part := { p with measure := { p.measure with owedCabin := false } }

end Sys2Proof.Machine
end

