-- ==== Sys2Proof/Machine/RosterList.lean ====
section
/-! DEFINITION. The roster cache as a list (R171 to R173): its order, its purge, and the handling of one ROSTER frame. -/

namespace Sys2Proof.Machine

/-- The size of the cache (R171). -/
def rosterLimit : Nat := 16

/-- M of an entry (R11). -/
def RosterEntry.minutes (now : Nat) (e : RosterEntry) : Int := minutesTo now e.departure

/-- The order of the cache: ascending M, then ascending coach number (R171). -/
def RosterEntry.before (now : Nat) (a b : RosterEntry) : Bool :=
  RosterEntry.minutes now a < RosterEntry.minutes now b
    || (RosterEntry.minutes now a == RosterEntry.minutes now b && a.coach < b.coach)

/-- Puts an entry in its place (R172). -/
def insertRoster (now : Nat) (e : RosterEntry) : List RosterEntry → List RosterEntry
  | [] => [e]
  | x :: xs => if RosterEntry.before now e x then e :: x :: xs else x :: insertRoster now e xs

/-- Puts the entries in order (R173). -/
def sortRoster (now : Nat) : List RosterEntry → List RosterEntry
  | [] => []
  | x :: xs => insertRoster now x (sortRoster now xs)

/-- Removes the entries with M below −30 (R173). -/
def purgeRoster (now : Nat) (es : List RosterEntry) : List RosterEntry :=
  es.filter fun e => decide (-30 ≤ RosterEntry.minutes now e)

/-- Removes the entry of a coach number. -/
def removeRoster (coach : Nat) (es : List RosterEntry) : List RosterEntry := es.filter fun e => e.coach != coach

/-- Whether an entry holds a coach number. -/
def holdsCoach (coach : Nat) (es : List RosterEntry) : Bool := es.any fun e => e.coach == coach

/-- The handling of a ROSTER frame that is no cancel: the entries after it, and whether an entry was stored (R172). -/
def takeRoster (now : Nat) (e : RosterEntry) (es : List RosterEntry) : List RosterEntry × Bool :=
  if holdsCoach e.coach es then
    if -30 ≤ RosterEntry.minutes now e then (insertRoster now e (removeRoster e.coach es), false)
    else (removeRoster e.coach es, false)
  else if RosterEntry.minutes now e < -30 then (es, false)
  else if es.length < rosterLimit then (insertRoster now e es, true)
  else if es.all fun x => RosterEntry.before now x e then (es, false)
  else (insertRoster now e es.dropLast, true)

end Sys2Proof.Machine
end

