-- ==== Sys2Proof/Machine/BayCore.lean ====
section
/-! DEFINITION. The bay controller (chapter 11): changes of bay state, the clearance evaluation, the roster copy, the
watches, release, clearance and revocation, and the clearing of the bay. -/

namespace Sys2Proof.Machine

/-! ## A change of bay state -/

/-- The cache stops wanting a number (R174). -/
def stopAsking (p : Part) : Part := { p with cache := { p.cache with want := none, askCount := 0 } }

/-- Chirps of a clearance stop (R189). -/
def stopClearedChirps : Option Chirps → Option Chirps
  | some c => if c.cause = .cleared then none else some c
  | none => none

/-- What ends when the bay leaves a state: asking on leaving STANDBY (R174); STALE_CLEARANCE and the chirps on leaving
CLEARED (R185, R189). -/
def leaveState (p : Part) : Part :=
  match p.bay.state with
  | .standby => stopAsking p
  | .cleared =>
    setRemark .staleClearance false { p with bay := { p.bay with chirps := stopClearedChirps p.bay.chirps } }
  | _ => p

/-- A change of bay state: the beacon's base pattern starts anew (R188), BAYSTATE is raised (R25) and the planner
recomputes (R102). The same state again is no change. -/
def setBayState (new : BayState) (p : Part) : Part :=
  if p.bay.state = new then p
  else
    let old := p.bay.state
    let p := leaveState p
    recompute (.bayState old) (raise .baystate { p with bay := { p.bay with state := new, patternFrom := p.osc } })

/-! ## Hold reasons (R178) -/

/-- The sweep is fresh: dated, and completed within the last 60 minutes (R155). -/
def Part.sweepFresh (p : Part) : Bool :=
  match completionAge p.clock.minute p.sweep.last with
  | some a => a < 60
  | none => false

/-- The read is fresh: dated, and completed within the last 45 minutes (R169). -/
def Part.readFresh (p : Part) : Bool :=
  match completionAge p.clock.minute p.faults.lastRead with
  | some a => a < 45
  | none => false

/-- A COACH entry of class BLOCK is held (R160). -/
def Part.coachBlock (p : Part) : Bool := p.faults.coach.any fun e => e.cls == .block

/-- A fitted lamp that failed: LOW or HIGH. -/
def Lamp.failing (l : Lamp) : Bool := l.fit.isSome && (l.verdict == .low || l.verdict == .high)

/-- A fitted lamp that is UNKNOWN. -/
def Lamp.unknown (l : Lamp) : Bool := l.fit.isSome && l.verdict == .unknown

/-- Whether the lamps stand unchecked, but for the window clause (R178). -/
def Part.sweepPending (p : Part) : Bool := !Part.sweepFresh p || p.lamps.any Lamp.unknown

/-- The hold-reason set as judged now, its latched reasons as they stand (R178). -/
def Part.judgedReasons (p : Part) : Reasons :=
  let view := Part.laneView p
  let lane := p.bay.window && !p.bay.lanePass
  { p.bay.reasons with
    faultBlock := Part.coachBlock p
    lampFail := p.lamps.any Lamp.failing
    lampUnchecked := p.bay.window && Part.sweepPending p
    faultsStale := p.bay.window && !Part.readFresh p
    linkLost := p.link.state == .lost
    chainFault := p.measure.chain != .good
    laneBlocked := lane && view.any (· == .occupied)
    laneUnknown := lane && view.any (· == .unknown) && !view.any (· == .occupied) }

/-! ## The clearance evaluation (R179) -/

/-- Entry to RELEASING (R183): a lane pass is consumed, RELEASE is placed, a running sweep aborts and an operation of the
fault list is cut short, also where either would complete at the same moment (R170, notes/assumptions/36). -/
def enterReleasing (p : Part) : Part :=
  let p := place .bay .release { p with bay := { p.bay with lanePass := false } }
  setBayState .releasing (operationEnds (sweepAbort true p))

/-- The states of the clearance evaluation. -/
def openState : BayState → Bool
  | .prepare => true
  | .ready => true
  | .held => true
  | _ => false

/-- The hold-reason set is judged. -/
def judge (p : Part) : Part := setReasons (Part.judgedReasons p) p

/-- The rows of the evaluation's table, for a set just judged. -/
def placeBay (p : Part) : Part :=
  if Reasons.any p.bay.reasons then setBayState .held p
  else if Part.sweepPending p || !Part.readFresh p then setBayState .prepare p
  else
    let p := setBayState .ready p
    if p.bay.window && p.link.holdConfirmed then enterReleasing p else p

/-- The clearance evaluation. In STANDBY the set is judged and the bay stays. A bay in EMPTY, COUPLED, RELEASING or CLEARED takes
none (R179); what a lane view that changes at the moment of an entry to RELEASING does is `laneViewChanged`. -/
def evaluate (p : Part) : Part :=
  match p.bay.state with
  | .standby => judge p
  | .prepare | .ready | .held => placeBay (judge p)
  | .empty | .coupled | .releasing | .cleared => p

/-! ## The roster copy and the lookup -/

/-- The bay's watches. -/
def setWatches (w : Watch) (p : Part) : Part :=
  { p with bay := { p.bay with readWatch := w, sweepWatch := w, windowWatch := w } }

/-- A roster copy held with the clock VALID or UNCONFIRMED moves the bay from STANDBY to PREPARE (R177). -/
def tryPrepare (p : Part) : Part :=
  if p.bay.state = .standby && p.bay.roster.isSome && p.clock.status != .invalid then
    evaluate (setBayState .prepare (setWatches .armed p))
  else p

/-- The copy of an entry. -/
def RosterEntry.copy (e : RosterEntry) : RosterCopy := { departure := e.departure, target := e.target, run := e.run }

/-- A roster copy arrives where none was held (R172, R174, R177). -/
def copyArrives (c : RosterCopy) (p : Part) : Part :=
  recompute (.roster none) (tryPrepare (stopAsking { p with bay := { p.bay with roster := some c } }))

/-- The cache looks up the bay's coach while the bay is in STANDBY with an identity and no roster copy (R174). -/
def rosterLookup (p : Part) : Part :=
  match p.bay.state, p.bay.identity, p.bay.roster with
  | .standby, some d, none =>
    match p.cache.entries.find? fun e => e.coach == d.coach with
    | some e => copyArrives (RosterEntry.copy e) p
    | none => raise .ask { p with cache := { p.cache with want := some d.coach, askCount := 0 } }
  | _, _, _ => p

/-- The bay enters STANDBY: the window closes, the latched reasons are kept and the judged reasons judged afresh (R179,
R180). The watches are as they were. -/
def standBy (p : Part) : Part := judge (setBayState .standby { p with bay := { p.bay with window := false } })

/-- The bay enters STANDBY with its watches not begun: on a first identity, and on a cancel in PREPARE, READY or HELD
(R177). -/
def toStandby (p : Part) : Part := standBy (setWatches .notBegun p)

/-! ## Watches, minutes and checks (R180) -/

/-- Whether an age is absent or above a limit. -/
def ageAbove (limit : Nat) : Option Nat → Bool
  | some a => limit < a
  | none => true

/-- Requests a full read where `due`. -/
def requestReadIf (due : Bool) (p : Part) : Part := if due then faultRequest .read p else p

/-- Requests a sweep where `due`. -/
def requestSweepIf (due : Bool) (p : Part) : Part := if due then sweepRequest p else p

/-- The three watches are evaluated. -/
def runWatches (p : Part) : Part :=
  match Part.minutesToDeparture p with
  | none => p
  | some m =>
    let read := evaluateWatch p.bay.readWatch m 30
    let sweep := evaluateWatch p.bay.sweepWatch m 20
    let window := evaluateWatch p.bay.windowWatch m 5
    let readDue := ageAbove 15 (completionAge p.clock.minute p.faults.lastRead)
    let sweepDue := ageAbove 29 (completionAge p.clock.minute p.sweep.last)
    let p := { p with bay := { p.bay with
      readWatch := read.1, sweepWatch := sweep.1, windowWatch := window.1, window := p.bay.window || window.2 } }
    requestSweepIf (sweep.2 && sweepDue) (requestReadIf (read.2 && readDue) p)

/-- The end of the clearance count (R185): it stops at 15 and STALE_CLEARANCE is set. -/
def clearanceCheck (p : Part) : Part := if p.bay.clearance = 15 then setRemark .staleClearance true p else p

/-- A minute in CLEARED (R185). -/
def clearanceMinute (p : Part) : Part :=
  if p.bay.clearance < 15 then clearanceCheck { p with bay := { p.bay with clearance := p.bay.clearance + 1 } } else p

/-- A minute event's watches have run over a bay whose window was open (`before`) or not: that they opened it is noted, unless a lane
pass is held, under which no lane reason is judged (R178, R190, notes/assumptions/33). -/
def noteOpening (before : Bool) (p : Part) : Part :=
  if !before && p.bay.window && !p.bay.lanePass then { p with bay := { p.bay with openedAt := some p.osc } } else p

/-- A minute event at the bay controller. -/
def bayMinute (p : Part) : Part :=
  match p.bay.state with
  | .standby => evaluate p
  | .prepare | .ready | .held => evaluate (noteOpening p.bay.window (runWatches p))
  | .cleared => clearanceMinute p
  | .empty | .coupled | .releasing => p

/-- The end of the ask count (R174): at 5 ASK is raised again and the count returns to 0. -/
def askCheck (p : Part) : Part :=
  if 5 ≤ p.cache.askCount then raise .ask { p with cache := { p.cache with askCount := 0 } } else p

/-- A minute event at the roster cache (R173, R174). -/
def cacheMinute (p : Part) : Part :=
  let p := { p with cache := { p.cache with entries := purgeRoster p.clock.minute p.cache.entries } }
  if p.cache.want.isSome then askCheck { p with cache := { p.cache with askCount := p.cache.askCount + 1 } } else p

/-- A minute event: to the planner, the roster cache and the bay controller (R6). -/
def minuteEvent (p : Part) : Part := bayMinute (cacheMinute (recompute .minute p))

/-! ## Changes of the roster copy (R172, R177, R180) -/

/-- The window closes where the new departure leaves M above 30. -/
def closeWindowIfEarly (p : Part) : Part :=
  match Part.minutesToDeparture p with
  | some m => if 30 < m then { p with bay := { p.bay with window := false } } else p
  | none => p

/-- A frame that names the bay's coach sets the roster copy. -/
def setCopy (c : RosterCopy) (p : Part) : Part :=
  match p.bay.roster with
  | none =>
    if p.bay.state = .standby then copyArrives c p
    else recompute (.roster none) { p with bay := { p.bay with roster := some c } }
  | some old =>
    if old = c then p
    else
      let p := { p with bay := { p.bay with roster := some c } }
      let p := if openState p.bay.state then evaluate (runWatches (closeWindowIfEarly p)) else evaluate p
      recompute (.roster (some old)) p

/-- A cancel removes the roster copy. -/
def removeCopy (p : Part) : Part :=
  match p.bay.roster with
  | none => p
  | some old =>
    let p := { p with bay := { p.bay with roster := none } }
    let p := if openState p.bay.state then rosterLookup (toStandby p) else p
    recompute (.roster (some old)) p

/-! ## Release, clearance and revocation (R182 to R186) -/

/-- The latched reasons that a return from RELEASING or CLEARED sets. -/
structure ReturnReasons where
  orderHold      : Bool := false
  releaseRefused : Bool := false
  deriving DecidableEq, Repr

/-- The return from RELEASING or CLEARED to HELD, or to STANDBY where no roster copy is held (R184 to R186). The watches
are kept (R186); in STANDBY the window closes all the same (R179, R180, notes/assumptions/32). -/
def returnToHeld (r : ReturnReasons) (p : Part) : Part :=
  let p := { p with bay := { p.bay with
    revocation := .none
    reasons := { orderHold := r.orderHold, releaseRefused := r.releaseRefused } } }
  if p.bay.roster.isSome then evaluate (setBayState .held p) else rosterLookup (standBy p)

/-- Whether the bay entered RELEASING at this very moment by the window watch's minute event, and a lane view that has now changed
is no longer clear: RELEASE still waits and no revocation has begun (R190, notes/assumptions/33). -/
def Part.entryRevised (p : Part) : Bool :=
  p.bay.state == .releasing && p.bay.openedAt == some p.osc && p.link.slots.bay == some { code := .release }
    && p.bay.revocation == .none && !Part.laneClear p

/-- A changed lane view reaches the bay controller (R47, R179). Where it meets the window watch's minute event that has just taken
the bay into RELEASING by the view before, the bay ends in the state that the new view gives: RELEASE is withdrawn and the bay is
HELD again, by the lane reason now judged (R190, notes/assumptions/33). -/
def laneViewChanged (p : Part) : Part :=
  if Part.entryRevised p then returnToHeld {} (setSlot .bay none p) else evaluate p

/-- The RELEASE fails, is refused or is withdrawn (R184): a DEFERRED revocation ends with ORDER_HOLD (R193). -/
def releaseEnds (refused : Bool) (p : Part) : Part :=
  let deferred := p.bay.revocation == .deferred
  let p := returnToHeld { orderHold := deferred, releaseRefused := refused } p
  if deferred then revocationEnd .taken jobLimit p else p

/-- Entry to CLEARED (R185); a DEFERRED revocation becomes REQUESTED there (R186). -/
def enterCleared (p : Part) : Part :=
  let p := immediateZero p
  let p := { p with bay := { p.bay with clearance := 0, chirps := some { cause := .cleared, start := p.osc } } }
  let p := setBayState .cleared p
  match p.bay.revocation with
  | .deferred => place .bay .hold { p with bay := { p.bay with revocation := .requested } }
  | _ => p

/-- How a command of the bay controller ended. ENDED acts on nothing and has no case. -/
inductive BayOutcome where
  | answered
  | refused
  deriving DecidableEq, Repr

/-- The states in which a HOLD's outcome acts on YARD_HOLD_REFUSED. -/
def heldCoach : BayState → Bool
  | .standby => true
  | .prepare => true
  | .ready => true
  | .held => true
  | _ => false

/-- The outcome of a HOLD (R182). Its FAILED acts through the LOST that follows. -/
def holdOutcome (o : BayOutcome) (p : Part) : Part :=
  match p.bay.state, o with
  | .standby, .answered | .prepare, .answered | .ready, .answered | .held, .answered =>
    let p := { p with bay := { p.bay with retry := none, holdAckAt := some p.osc } }
    evaluate (setReasons { p.bay.reasons with yardHoldRefused := false } p)
  | .standby, .refused | .prepare, .refused | .ready, .refused | .held, .refused =>
    let p := { p with bay := { p.bay with retry := some (p.osc + holdRetryPeriod) } }
    evaluate (setReasons { p.bay.reasons with yardHoldRefused := true } p)
  | .cleared, .answered =>
    if p.bay.revocation = .requested then
      revocationEnd .taken jobLimit (returnToHeld { orderHold := true } p)
    else place .bay .release p
  | .cleared, .refused =>
    if p.bay.revocation = .requested then
      revocationEnd (.refused .moving) jobLimit { p with bay := { p.bay with revocation := .none } }
    else p
  | .empty, _ | .coupled, _ | .releasing, _ => p

/-- The outcome of a RELEASE (R184, R185). A refusal in CLEARED while a revocation is REQUESTED ends it with ORDER_HOLD
(notes/assumptions/12). -/
def releaseOutcome (o : BayOutcome) (p : Part) : Part :=
  match p.bay.state, o with
  | .releasing, .answered => enterCleared p
  | .releasing, .refused => releaseEnds true p
  | .cleared, .refused =>
    let requested := p.bay.revocation == .requested
    let p := returnToHeld { orderHold := requested, releaseRefused := true } p
    if requested then revocationEnd .taken jobLimit p else p
  | _, _ => p

/-- The link tells the bay controller of LOST (R178, R184). -/
def bayLinkLost (p : Part) : Part :=
  match p.bay.state with
  | .releasing => releaseEnds false (setSlot .bay none p)
  | _ => evaluate p

/-- The link tells the bay controller that a LAMPS was refused NOT_HELD (R182). -/
def bayNotHeld (p : Part) : Part := if heldCoach p.bay.state then place .bay .hold p else p

/-- A depart button press (R181). In RELEASING and CLEARED it has no effect (notes/assumptions/11). -/
def departPress (p : Part) : Part :=
  let late := match Part.minutesToDeparture p with
    | some m => m ≤ 30
    | none => false
  if closedToChecks p.bay.state then p
  else if openState p.bay.state && late then
    let p := { p with bay := { p.bay with window := true } }
    let p := requestSweepIf (p.lamps.any Lamp.failing || Part.sweepPending p) p
    let p := requestReadIf (Part.coachBlock p || !Part.readFresh p) p
    let p := setReasons { p.bay.reasons with releaseRefused := false } p
    let p := if p.bay.reasons.yardHoldRefused then
        place .bay .hold { p with bay := { p.bay with retry := some (p.osc + holdRetryPeriod) } }
      else p
    evaluate p
  else { p with bay := { p.bay with tooEarly := some p.osc } }

/-! ## Identity (R177) -/

/-- The lamp table of a first identity from position `p` on, the nominals taken in position order (R142). -/
def lampRecords (fitted led : Word16) : Nat → Nat → List Nat → List Lamp
  | 0, _, _ => []
  | n + 1, p, ns =>
    if fitted.getLsbD p then
      { position := p
        fit := some (if led.getLsbD p then .led else .filament, ns.headD 0)
        verdict := .unknown } :: lampRecords fitted led n (p + 1) ns.tail
    else { position := p } :: lampRecords fitted led n (p + 1) ns

/-- A first identity (R138, R177): held in the bay record, the lamp table and the fault memory size set up, the bay in
STANDBY, HOLD placed, a full read requested and the coach looked up. -/
def firstIdentity (d : Identity) (p : Part) : Part :=
  let p := { p with
    bay := { p.bay with identity := some d }
    lamps := lampRecords d.fitted d.led 16 0 d.nominals
    faults := { p.faults with memory := some d.memory } }
  rosterLookup (faultRequest .read (place .bay .hold (toStandby p)))

/-! ## Clearing the bay (R176, R177, R187) -/

/-- The coach link with every item at its start-up value but the beat (R122, R131). -/
def linkDown (p : Part) : Part := { p with link := { beat := p.link.beat } }

/-- The beat in progress at `now`, where the last one that was looked at began at `beat`. -/
def currentBeat (beat now : Moment) : Moment := beat + beatPeriod * ((now - beat) / beatPeriod)

/-- The beat after the one in progress at `now` (R141); one that has still to begin is that beat already. -/
def followingBeat (beat now : Moment) : Moment := if now < beat then beat else currentBeat beat now + beatPeriod

/-- Entry to STARTING (R132). The first beat begins now, or follows the beat in progress where the clock runs (R123,
R141). -/
def linkStart (p : Part) : Part :=
  let beat := if p.link.state = .down then p.osc else followingBeat p.link.beat p.osc
  { p with link := {
      state := .starting, startTimer := some (p.osc + startTimerPeriod), beat := beat
      slots := { keeper := some { code := .ping } } } }

/-- The decouple flag that a bay in this state leaves behind (R176). -/
def decoupleFlagOf : BayState → DecoupleFlag
  | .cleared => .departed
  | _ => .unplanned

/-- The cache removes the entry of the coach that departed from CLEARED (R176). -/
def forgetDeparted (p : Part) : Part :=
  match p.bay.state, p.bay.identity with
  | .cleared, some d => { p with cache := { p.cache with entries := removeRoster d.coach p.cache.entries } }
  | _, _ => p

/-- The bay record and the bay controller's state take their values of R175. -/
def clearRecord (flag : DecoupleFlag) (p : Part) : Part :=
  { p with bay := { p.bay with
      identity := none, roster := none, reasons := {}, window := false, openedAt := none, holdAckAt := none
      readWatch := .notBegun, sweepWatch := .notBegun, windowWatch := .notBegun
      lanePass := false, revocation := .none, decoupleFlag := flag, retry := none, clearance := 0 } }

/-- The other blocks' part of a decouple, a teardown or a bay reset. -/
def clearBlocks (p : Part) : Part := resetCabin (clearFaults (clearSweep (immediateZero p)))

/-- Three chirps on UNPLANNED (R189). -/
def unplannedChirps (flag : DecoupleFlag) (p : Part) : Part :=
  if flag = .unplanned then { p with bay := { p.bay with chirps := some { cause := .unplanned, start := p.osc } } } else p

/-- What a decouple and the teardown on a coach change have in common, to the entry to EMPTY (R176, R177). -/
def tearDown (p : Part) : Part :=
  let flag := decoupleFlagOf p.bay.state
  let p := cabinNotOwed (clearBlocks (forgetDeparted p))
  let p := clearRecord flag (revocationEnd (.refused .wrongState) jobLimit p)
  unplannedChirps flag (setBayState .empty p)

/-- A decouple (R176). -/
def decoupled (p : Part) : Part := tearDown (linkDown { p with bay := { p.bay with couple := false } })

/-- A coach change (R140, R177). -/
def coachChange (d : Identity) (p : Part) : Part :=
  let p := withdrawLamps (setSlot .faults none (setSlot .bay none p))
  firstIdentity d (setBayState .coupled (tearDown p))

/-- A bay reset (R187). The order's own job is still to be queued. -/
def bayReset (p : Part) : Part :=
  let p := if p.bay.couple then linkStart p else p
  let p := revocationEnd (.refused .wrongState) (jobLimit - 1) (clearBlocks p)
  let p := clearRecord .none { p with bay := { p.bay with tooEarly := none, chirps := none } }
  let p := setBayState .empty p
  if p.bay.couple then setBayState .coupled p else p

end Sys2Proof.Machine
end

