-- ==== Sys2Proof/Machine/YardCore.lean ====
section
/-! DEFINITION. The yard line interface's shared operations (chapter 2): a frame that ends on the line, number clashes, the
hand-off by sender, and the end of the own attempts. -/

namespace Sys2Proof.Machine

/-! ## Reception (R28 to R31) -/

/-- The moment at which a transmission completes: the end of its last check bit (R23). -/
def Transmission.done (t : Transmission) : Moment := t.start + bitTime * frameBitCount t.payload.length

/-- The moment at which a frame of `bits` bits can have ended: its start bit is that of the frame the station lost to or
abandoned, or comes after the quiet gap (R13, R17, R18). While the station transmits, another's frame can only end at the
moment at which the own frame completes (notes/assumptions/8). -/
def Part.frameEnd (p : Part) (bits : Nat) : Moment :=
  match p.line.tx with
  | some t => Transmission.done t
  | none => p.line.receiving.getD (p.line.quietFrom + quietGap) + bitTime * bits

/-- The line when a frame has ended at `now`: the quiet gap is counted from there. A transmission goes on to its own end. -/
def Part.lineAfter (p : Part) (now : Moment) : Line :=
  if p.line.tx.isSome then p.line else { p.line with quietFrom := now, receiving := none }

/-- A frame of `bits` bits ends on the line: time has come to its end. -/
def frameEnds (bits : Nat) (p : Part) : Part :=
  let now := max p.osc (Part.frameEnd p bits)
  { p with osc := now, line := Part.lineAfter p now }

/-- A number clash (R30): the frame is ignored. The first one sets the remark and starts the overlay. -/
def numberClash (p : Part) : Part :=
  if p.remarks.numberClash then p
  else setRemark .numberClash true { p with bay := { p.bay with clashFrom := some p.osc } }

/-- A good frame of `n` payload bytes is read. Under the own number it is a number clash (R30), or, while the station
transmits, its own frame, which is handed to no block (R29). Another's is handed on; one that arrives during a transmission is
taken at the moment at which that completes, before the completion (R191, R196, notes/assumptions/8). -/
def receive (sender : StationNo) (n : Nat) (hand : Part → Part) (p : Part) : Part :=
  if sender.toNat = p.latch.station then
    if p.line.tx.isSome then p else numberClash (frameEnds (frameBitCount n) p)
  else hand (frameEnds (frameBitCount n) p)

/-- A kind that is taken from bay posts only (R31). -/
def fromBayPost (sender : StationNo) (hand : Part → Part) (p : Part) : Part :=
  if validStation sender.toNat then hand p else p

/-- A corrupt frame is counted, to at most 65535 (R28). -/
def countCorrupt (p : Part) : Part := { p with line := { p.line with corrupt := min 65535 (p.line.corrupt + 1) } }

/-! ## The end of an attempt (R17, R18, R22, R23, R26) -/

/-- The bits of the frame being transmitted. -/
def Part.drivenBits (p : Part) (t : Transmission) : List Bool :=
  frameBits (sendKindCode t.kind) p.latch.station t.payload

/-- Bit `i` of the frame being transmitted has been read back: time has come to its end (R13 gives no moment within the bit,
notes/assumptions/34). -/
def bitRead (t : Transmission) (i : Nat) (p : Part) : Part := advanceTo (t.start + bitTime * (i + 1)) p

/-- The attempt ends without completion: the flag stays pending, the re-raise mark is removed, and the frame on the line is
received from its start bit on (R17, R18, R22); that this holds too where the start bit itself was read recessive is the model's
choice (notes/assumptions/38). -/
def attemptEnds (t : Transmission) (p : Part) : Part :=
  { p with line := { p.line with
      tx := none
      flags := SendFlags.put p.line.flags t.kind true
      marks := SendFlags.put p.line.marks t.kind false
      quietFrom := p.osc
      receiving := some t.start } }

/-- The fault count after one more fault; at 16 the station is MUTED for 60 s and the share unit is told (R26, R27). -/
def countFault (p : Part) : Part :=
  if p.line.faults + 1 < 16 then { p with line := { p.line with faults := p.line.faults + 1 } }
  else { p with
    line := { p.line with faults := 16, muted := some (p.osc + mutedPeriod) }
    share := { p.share with mutedHeld := true } }

/-- A frame completes (R22, R23): the fault count is 0, and the kind's flag is pending again only by its re-raise mark. -/
def frameCompletes (t : Transmission) (p : Part) : Part :=
  let p := advanceTo (Transmission.done t) p
  { p with line := { p.line with
      tx := none
      faults := 0
      flags := SendFlags.put p.line.flags t.kind (SendFlags.get p.line.marks t.kind)
      marks := SendFlags.put p.line.marks t.kind false
      quietFrom := p.osc } }

/-- A completion of kind `k`: the owner's notice carries the frame as sent. -/
def completion (k : SendKind) (notice : Transmission → Part → Part) (p : Part) : Part :=
  match p.line.tx with
  | some t => if t.kind = k then notice t (frameCompletes t p) else p
  | none => p

end Sys2Proof.Machine
end

