-- ==== Sys2Proof/Machine/BayCommands.lean ====
section
/-! DEFINITION. Chapter 11: the ROSTER frames, couple sense, the depart button, and the bay controller's timers. -/

namespace Sys2Proof.Machine

/-! ## ROSTER frames (R172, R198) -/

/-- The departure minute that means cancel. -/
def cancelMinute : Nat := 2047

/-- Whether a frame's coach number is that of the identity held. -/
def Part.namesCoach (p : Part) (coach : Nat) : Bool := p.bay.identity.any fun d => d.coach == coach

/-- A cancel: the cache first, then the roster copy (R172). -/
def takeCancel (coach : Nat) (p : Part) : Part :=
  let p := { p with cache := { p.cache with entries := removeRoster coach p.cache.entries } }
  if Part.namesCoach p coach then removeCopy p else p

/-- A roster entry in range: the cache first, with a lookup where an entry is stored (R174), then the roster copy. -/
def takeEntry (e : RosterEntry) (p : Part) : Part :=
  let taken := takeRoster p.clock.minute e p.cache.entries
  let p := { p with cache := { p.cache with entries := taken.1 } }
  let p := if taken.2 then rosterLookup p else p
  if Part.namesCoach p e.coach then setCopy (RosterEntry.copy e) p else p

/-- The fields of a ROSTER frame are judged (R198): coach number 0 and a departure of no minute are ignored. -/
def takeRosterFrame (b : RosterPayload) (p : Part) : Part :=
  if b.coach = 0 then p
  else if b.departure.toNat = cancelMinute then takeCancel b.coach.toNat p
  else if b.departure.toNat ≤ 1439 then
    takeEntry { coach := b.coach.toNat, departure := b.departure.toNat, target := b.target.toNat, run := b.run.toNat } p
  else p

/-- ROSTER_FRAME (R172). -/
def execRosterFrame (sender : StationNo) (b : RosterPayload) (s : State) : Host.Outcome State Fault Refusal :=
  act (receive sender 7 (takeRosterFrame b)) s

/-- ROSTER_CANCEL (R172). -/
def execRosterCancel (sender : StationNo) (coach : Word16) (s : State) : Host.Outcome State Fault Refusal :=
  act (receive sender 7 (takeRosterFrame { coach := coach, departure := 2047#16, target := 0, run := 0 })) s

/-- The ask count reaches its end while the cache wants a number (R174, notes/assumptions/4). -/
def askCountEnds (p : Part) : Part :=
  if p.cache.want.isSome then askCheck { p with cache := { p.cache with askCount := 5 } } else p

/-- ASK_COUNT_EXPIRY (R174). -/
def execAskCountExpiry (s : State) : Host.Outcome State Fault Refusal := act askCountEnds s

/-! ## Couple sense (R176) -/

/-- Couple sense is first taken 50 ms after start-up (R176). -/
def firstCouple : Moment := 50000

/-- Couple sense is taken as present in EMPTY. -/
def coupleRises (p : Part) : Part :=
  if p.bay.couple = false ∧ p.bay.state = .empty then
    let p := advanceTo firstCouple p
    let p := { p with bay := { p.bay with couple := true, decoupleFlag := .none } }
    setBayState .coupled (linkStart p)
  else p

/-- COUPLE_SENSE_RISE (R176). -/
def execCoupleSenseRise (s : State) : Host.Outcome State Fault Refusal := act coupleRises s

/-- Couple sense is taken as absent. -/
def coupleFalls (p : Part) : Part := if p.bay.couple then decoupled p else p

/-- DECOUPLE (R176). -/
def execDecouple (s : State) : Host.Outcome State Fault Refusal := act coupleFalls s

/-! ## The depart button and the timers -/

/-- DEPART_BUTTON_PRESS (R181). -/
def execDepartButtonPress (s : State) : Host.Outcome State Fault Refusal := act departPress s

/-- The hold retry timer expires (R182): with YARD_HOLD_REFUSED held, HOLD is placed again. -/
def holdRetryExpires (p : Part) : Part :=
  match p.bay.retry with
  | some t =>
    let p := advanceTo t { p with bay := { p.bay with retry := none } }
    if p.bay.reasons.yardHoldRefused then place .bay .hold p else p
  | none => p

/-- HOLD_RETRY_EXPIRY (R182). -/
def execHoldRetryExpiry (s : State) : Host.Outcome State Fault Refusal := act holdRetryExpires s

/-- The clearance count reaches its end in CLEARED (R185, notes/assumptions/4). -/
def clearanceCountEnds (p : Part) : Part :=
  if p.bay.state = .cleared ∧ p.bay.clearance < 15 then
    clearanceCheck { p with bay := { p.bay with clearance := 15 } }
  else p

/-- CLEARANCE_COUNT_EXPIRY (R185). -/
def execClearanceCountExpiry (s : State) : Host.Outcome State Fault Refusal := act clearanceCountEnds s

/-- The too-early overlay ends (R188). -/
def tooEarlyEnds (p : Part) : Part :=
  match p.bay.tooEarly with
  | some t => advanceTo (t + tooEarlyPeriod) { p with bay := { p.bay with tooEarly := none } }
  | none => p

/-- TOO_EARLY_OVERLAY_END (R188). -/
def execTooEarlyOverlayEnd (s : State) : Host.Outcome State Fault Refusal := act tooEarlyEnds s

/-- The length of a run of chirps (R189): 20 chirps or three, two a second. -/
def chirpRun : ChirpCause → Moment
  | .cleared => 20 * halfSecond
  | .unplanned => 3 * halfSecond

/-- A run of chirps ends (R189). -/
def chirpsEnd (p : Part) : Part :=
  match p.bay.chirps with
  | some c => advanceTo (c.start + chirpRun c.cause) { p with bay := { p.bay with chirps := none } }
  | none => p

/-- SOUNDER_RUN_END (R189). -/
def execSounderRunEnd (s : State) : Host.Outcome State Fault Refusal := act chirpsEnd s

end Sys2Proof.Machine
end

