-- ==== Sys2Proof/Machine/FaultList.lean ====
section
/-! DEFINITION. The fault list (chapter 10): merging, classes, the completion of a read, and the outcomes of its commands. -/

namespace Sys2Proof.Machine

/-! ## Merging (R162) -/

/-- The rank of a state: ACTIVE above INTERMITTENT above STORED. -/
def FaultState.rank : FaultState → Nat
  | .stored => 0
  | .intermittent => 1
  | .active => 2

/-- The higher of two states. -/
def FaultState.higher (a b : FaultState) : FaultState := if FaultState.rank a < FaultState.rank b then b else a

/-- The age of two merged records. -/
def mergeAge : Option Nat → Option Nat → Option Nat
  | some a, some b => some (min a b)
  | some a, none => some a
  | none, b => b

/-- Two records of one key become one; the coach order stays that of the first. -/
def Staged.merge (first next : Staged) : Staged :=
  { first with
    state := FaultState.higher first.state next.state
    count := max first.count next.count
    age := mergeAge first.age next.age }

/-- Whether two records have one key. -/
def Staged.sameKey (a b : Staged) : Bool := a.system == b.system && a.code == b.code

/-- A taken record joins the staging set, which stays in coach order. -/
def mergeStaged (r : Staged) : List Staged → List Staged
  | [] => [r]
  | x :: xs => if Staged.sameKey x r then Staged.merge x r :: xs else x :: mergeStaged r xs

/-! ## Classes (R159) -/

/-- The SAFETY systems. -/
def safetySystem (s : Nat) : Bool := s == 1 || s == 2 || s == 3 || s == 4 || s == 6 || s == 13

/-- The WARN systems. -/
def warnSystem (s : Nat) : Bool := s == 0 || s == 5 || s == 7 || s == 9 || s == 11 || s == 12

/-- The class of a merged record. -/
def classOf (r : Staged) : FaultClass :=
  if safetySystem r.system then
    match r.state with
    | .active => .block
    | .intermittent => if 3 ≤ r.count then .block else .warn
    | .stored => .warn
  else if warnSystem r.system then .warn
  else .info

/-- The staged records in class order, in coach order within each class (R163). -/
def inClassOrder (rs : List Staged) : List Staged :=
  (rs.filter fun r => classOf r == .block) ++ (rs.filter fun r => classOf r == .warn)
    ++ (rs.filter fun r => classOf r == .info)

/-- The most COACH entries the list holds (R160). -/
def coachLimit : Nat := 24

/-- The COACH entry of a kept record; a key held before keeps its first-read minute (R163). -/
def entryOf (minute : Nat) (held : List CoachEntry) (r : Staged) : CoachEntry where
  record    := r
  cls       := classOf r
  firstRead := match held.find? fun e => Staged.sameKey e.record r with
    | some e => e.firstRead
    | none => minute

/-! ## The completion of a read (R163) -/

/-- The read completes; the bay controller is told. -/
def completeRead (p : Part) : Part :=
  let f := p.faults
  let dropped := f.staging.length - coachLimit
  let kept := (inClassOrder f.staging).take coachLimit
  evaluate <| setRemark .faultsTruncated (0 < dropped) { p with faults := { f with
    coach := kept.map (entryOf p.clock.minute f.coach)
    lastRead := some (Part.completionNow p), lastRejected := f.rejected, lastDropped := dropped
    staging := [], toRead := none, nextIndex := none, status := .idle, kind := none } }

/-! ## The outcomes of the fault list's commands (R162, R164) -/

/-- How a command of the fault list ended. ENDED finds its operation cut short and has no case. -/
inductive FaultOutcome where
  | erased
  | count (n : Nat)
  | record (words : List Word16)
  | noRecord
  | failed
  deriving DecidableEq, Repr

/-- The command whose outcome an operation waits for. -/
def OpStatus.command : OpStatus → Option CommandCode
  | .clearing => some .fclear
  | .counting => some .fcount
  | .reading => some .fread
  | _ => none

/-- FREAD is placed with an index. -/
def placeRead (index : Nat) (p : Part) : Part :=
  setSlot .faults (some { code := .fread, arg := byteOf index })
    { p with faults := { p.faults with status := .reading, nextIndex := some index } }

/-- The records to read of a count: no more than the fault memory size (R162). -/
def Part.recordsToRead (p : Part) (n : Nat) : Nat := min n (p.faults.memory.getD 0)

/-- A record has been handled: the next index, or the end of the read (R162). -/
def nextRecord (p : Part) : Part :=
  let index := p.faults.nextIndex.getD 0 + 1
  if p.faults.toRead.getD 0 ≤ index then completeRead p else placeRead index p

/-- A record is judged, and merged where it is taken (R158). -/
def takeRecord (words : List Word16) (p : Part) : Part :=
  nextRecord <| match recordOf (p.faults.nextIndex.getD 0) words with
    | some r => { p with faults := { p.faults with staging := mergeStaged r p.faults.staging } }
    | none => { p with faults := { p.faults with rejected := min 255 (p.faults.rejected + 1) } }

/-- The outcome of a command of the fault list. One that its operation no longer waits for is ignored: the operation waits
for another command, or its own command still waits in the slot (R165). -/
def faultOutcome (code : CommandCode) (o : FaultOutcome) (p : Part) : Part :=
  if OpStatus.command p.faults.status = some code ∧ p.link.slots.faults = none then
    match o with
    | .erased =>
      place .faults .fcount { p with faults := { p.faults with kind := some .read, status := .counting } }
    | .count n =>
      let records := Part.recordsToRead p n
      let p := { p with faults := { p.faults with toRead := some records } }
      if records = 0 then completeRead p else placeRead 0 p
    | .record words => takeRecord words p
    | .noRecord => completeRead p
    | .failed => waitOperation p.faults.kind p
  else p

end Sys2Proof.Machine
end

