-- ==== Sys2Proof/Machine/LampSweep.lean ====
section
/-! DEFINITION. The lamp sweep (chapter 9): energising, settling, judging, the second pass, the verdicts and the completion,
with the BAY entries that follow from it (R168). -/

namespace Sys2Proof.Machine

/-! ## Groups and masks (R146) -/

/-- The group of a position. -/
def groupOf (position : Nat) : Nat := position / 4

/-- The mask that names positions of a group: bit k for position 4 × group + k. -/
def maskOf (group : Nat) (positions : List Nat) : BitVec 4 :=
  BitVec.ofNat 4 (bitsOf ((List.range 4).map fun k => positions.contains (4 * group + k)))

/-- The positions that a mask names, lowest first. -/
def namedPositions (group : Nat) (mask : BitVec 4) : List Nat :=
  ((List.range 4).filter fun k => mask.getLsbD k).map fun k => 4 * group + k

/-- The fitted positions. -/
def Part.fitted (p : Part) : List Nat := (p.lamps.filter fun l => l.fit.isSome).map (·.position)

/-- A judgement that fails a lamp. -/
def Judgement.fails : Judgement → Bool
  | .pass => false
  | _ => true

/-- The positions that failed in pass 1 (R150). -/
def Part.failed (p : Part) : List Nat := (p.sweep.work.filter fun w => Judgement.fails w.first.2).map (·.position)

/-- The positions that a pass measures (R146). -/
def Part.passPositions (p : Part) : Pass → List Nat
  | .first => Part.fitted p
  | .second => Part.failed p

/-- The lowest group from `from_` on that holds one of the positions. -/
def nextGroup (positions : List Nat) (from_ : Nat) : Option Nat :=
  (List.range 4).find? fun g => from_ ≤ g && positions.any fun q => groupOf q == g

/-! ## Energising and the ending (R146, R149) -/

/-- The phase of a running sweep changes. -/
def setPhase (pass : Pass) (phase : SweepPhase) (p : Part) : Part :=
  { p with sweep := { p.sweep with status := .running pass phase } }

/-- A group is energised (R146). -/
def energise (pass : Pass) (group : Nat) (p : Part) : Part :=
  let mask := maskOf group (Part.passPositions p pass)
  placeLamps (lampsArg group mask) (setPhase pass (.energising group mask) p)

/-- The sweep goes to its ending (R149). -/
def endSweep (pass : Pass) (p : Part) : Part := placeLamps (lampsArg 0 0) (setPhase pass .ending p)

/-- The sweep moves on when a group is done, `from_` being the next group's number (R149, R150). -/
def moveOn (pass : Pass) (from_ : Nat) (p : Part) : Part :=
  match nextGroup (Part.passPositions p pass) from_ with
  | some g => energise pass g p
  | none =>
    match pass with
    | .first =>
      match nextGroup (Part.failed p) 0 with
      | some g => energise .second g p
      | none => endSweep .first p
    | .second => endSweep .second p

/-! ## The start (R145) -/

/-- Why a REQUESTED sweep may not start, from the first condition that does not hold. -/
def Part.sweepBar (p : Part) : Option DropReason :=
  if closedToChecks p.bay.state then some .wrongState
  else if p.link.state != .up then some .linkDown
  else if !p.link.holdConfirmed then some .notHeld
  else if p.measure.chain != .good then some .chainFault
  else none

/-- Whether a LAMPS is in flight. -/
def Part.lampsInFlight (p : Part) : Bool :=
  match p.link.inFlight with
  | some f => f.requester == .sweep
  | none => false

/-- A REQUESTED sweep starts at this boundary. -/
def startSweep (p : Part) : Part :=
  moveOn .first 0 { p with
    sweep := { p.sweep with work := [] }
    heat := { p.heat with sweepRunning := true } }

/-- The start is judged at a boundary; while a LAMPS of an aborted sweep or the lights-off request is in flight it is not
judged. The second component says that a sweep starts. -/
def judgeSweepStart (p : Part) : Part × Bool :=
  if p.sweep.status = .requested && !Part.lampsInFlight p then
    match Part.sweepBar p with
    | some r => ({ p with sweep := { p.sweep with status := .dropped r } }, false)
    | none => (startSweep p, true)
  else (p, false)

/-! ## Settling and judging (R147, R148) -/

/-- The settle wait of a group: that of a filament lamp where any is named (R147). -/
def Part.settleWait (p : Part) (group : Nat) (mask : BitVec 4) : Moment :=
  if p.lamps.any fun l => (namedPositions group mask).contains l.position
      && (match l.fit with
        | some (.filament, _) => true
        | _ => false) then filamentSettlePeriod
  else ledSettlePeriod

/-- The judgement of a reading against its nominal (R148). -/
def judgeLamp (nominal code : Nat) : Judgement :=
  if 1020 ≤ code then .high
  else if nominal * 3 / 2 < code then .high
  else if code < nominal * 5 / 8 then .low
  else .pass

/-- The nominal current of a position. -/
def Part.nominalOf (p : Part) (position : Nat) : Nat :=
  match p.lamps.find? fun l => l.position == position with
  | some l => match l.fit with
    | some f => f.2
    | none => 0
  | none => 0

/-- A reading joins the working verdicts (R148). -/
def recordReading (pass : Pass) (position : Nat) (reading : Nat × Judgement) (work : List Work) : List Work :=
  match pass with
  | .first => work ++ [{ position := position, first := reading }]
  | .second => work.map fun w => if w.position = position then { w with second := some reading } else w

/-- A lamp code is handed to the sweep (R97, R148); with the last marked position of the group the sweep moves on
(R149). -/
def takeLampCode (position code : Nat) (p : Part) : Part :=
  match p.sweep.status with
  | .running pass (.converting group _) =>
    let reading := (code, judgeLamp (Part.nominalOf p position) code)
    let p := { p with sweep := { p.sweep with work := recordReading pass position reading p.sweep.work } }
    if p.measure.marks.isEmpty then moveOn pass (group + 1) p else p
  | _ => p

/-- The settle timer expires (R147): the named positions are marked settled. -/
def settleExpires (p : Part) : Part :=
  match p.sweep.settle, p.sweep.status with
  | some t, .running pass (.settling group mask) =>
    let p := advanceTo t (setPhase pass (.converting group mask) p)
    { p with
      sweep := { p.sweep with settle := none }
      measure := { p.measure with marks := namedPositions group mask } }
  | _, _ => p

/-- SETTLE_TIMER_EXPIRY (R147). -/
def execSettleTimerExpiry (s : State) : Host.Outcome State Fault Refusal := act settleExpires s

/-! ## Completion (R150 to R152, R168) -/

/-- The verdict and decisive reading of working verdicts (R150). -/
def verdictOf (w : Work) : Verdict × Option Nat :=
  match w.first.2, w.second with
  | .pass, _ => (.ok, none)
  | _, some (_, .pass) => (.flicker, some w.first.1)
  | _, some (i, .low) => (.low, some i)
  | _, some (i, .high) => (.high, some i)
  | .low, none => (.low, some w.first.1)
  | .high, none => (.high, some w.first.1)

/-- The record of a lamp after the completion: fitted positions take verdict, reading and minute (R151). -/
def writeLamp (work : List Work) (minute : Nat) (l : Lamp) : Lamp :=
  match l.fit, work.find? fun w => w.position == l.position with
  | some _, some w => { l with verdict := (verdictOf w).1, reading := (verdictOf w).2, minute := some minute }
  | _, _ => l

/-- The class that an instruction asks for; none for OK (R152). -/
def instructionOf : Verdict → Option FaultClass
  | .low => some .block
  | .high => some .block
  | .flicker => some .warn
  | _ => none

/-- One instruction's result on the BAY entry of its position (R168). -/
def bayEntryOf (minute : Nat) (held : List BayEntry) (l : Lamp) : Option BayEntry :=
  match l.fit, instructionOf l.verdict with
  | some _, some c =>
    some { position := l.position, cls := c, reading := l.reading.getD 0
           firstRead := match held.find? fun e => e.position == l.position with
             | some e => e.firstRead
             | none => minute }
  | _, _ => none

/-- The BAY entries after the instructions of a completion, in ascending position (R168). -/
def bayEntries (minute : Nat) (held : List BayEntry) (lamps : List Lamp) : List BayEntry :=
  lamps.filterMap (bayEntryOf minute held)

/-- The completion of a sweep (R151). -/
def completeSweep (p : Part) : Part :=
  let minute := p.clock.minute
  let lamps := p.lamps.map (writeLamp p.sweep.work minute)
  evaluate { p with
    lamps := lamps
    sweep := { p.sweep with status := .complete, settle := none, work := [], last := some (Part.completionNow p) }
    faults := { p.faults with bay := bayEntries minute p.faults.bay lamps }
    heat := { p.heat with sweepRunning := false } }

/-! ## The outcomes of LAMPS (R146, R149, R154) -/

/-- How a LAMPS ended. ENDED finds the sweep already ended and has no case. -/
inductive LampsOutcome where
  | answered
  | notHeld
  | failed
  deriving DecidableEq, Repr

/-- The outcome of a LAMPS, as the sweep takes it. While the lights-off request is in flight it is that one's. -/
def lampsOutcome (o : LampsOutcome) (p : Part) : Part :=
  if p.sweep.lightsOff = .inFlight then { p with sweep := { p.sweep with lightsOff := .notPlaced } }
  else match p.sweep.status, o with
    | .running pass (.energising group mask), .answered =>
      let wait := Part.settleWait p group mask
      let p := setPhase pass (.settling group mask) p
      { p with sweep := { p.sweep with settle := some (p.osc + wait) } }
    | .running _ .ending, .answered => completeSweep p
    | .running _ _, .notHeld => sweepAbort true p
    | .running _ _, .failed => sweepAbort false p
    | _, _ => p

end Sys2Proof.Machine
end

