-- ==== Sys2Proof/Machine/CoachLink.lean ====
section
/-! DEFINITION. The coach link (chapter 8): beats, the arbiter, answers and their failure, link states and identity. -/

namespace Sys2Proof.Machine

/-! ## Entering UP and LOST (R133, R134) -/

/-- Entry to UP: the keeper places IDENT and the keep-alive timer starts. -/
def enterUp (p : Part) : Part :=
  place .keeper .ident { p with link := { p.link with
    state := .up, identConfirmed := false, startTimer := none, lostTimer := none
    keepAlive := some (p.osc + keepAlivePeriod) } }

/-- Entry to LOST: no command is in flight, the keeper's slot is emptied, and the lamp sweep, the fault list and the bay
controller are told. -/
def enterLost (p : Part) : Part :=
  let p := setSlot .keeper none { p with link := { p.link with
    state := .lost, identConfirmed := false, holdConfirmed := false, inFlight := none, recovery := none
    waitCount := 0, gathered := [], startTimer := none, keepAlive := none
    lostTimer := some (p.osc + lostPingPeriod) } }
  bayLinkLost (operationWaits (sweepAbort false p))

/-! ## Identity (R137 to R140) -/

/-- A record that passed the checks: a first identity, the same coach, or a coach change. -/
def acceptIdentity (d : Identity) (p : Part) : Part :=
  let p := { p with link := { p.link with identConfirmed := true } }
  match p.bay.identity with
  | none => firstIdentity d p
  | some held =>
    if held.coach = d.coach then operationResumes (evaluate (place .bay .hold p)) else coachChange d p

/-! ## Outcomes (R129, R130) -/

/-- The command leaves flight. -/
def leaveFlight (p : Part) : Part :=
  { p with link := { p.link with inFlight := none, waitCount := 0, gathered := [] } }

/-- Hold confirmed becomes yes or no. -/
def setHold (v : Bool) (p : Part) : Part := { p with link := { p.link with holdConfirmed := v } }

/-- A command ends ANSWERED by an ACK. -/
def ackOutcome (c : Command) (p : Part) : Part :=
  match c.code with
  | .ping => if p.link.state = .up then p else enterUp p
  | .hold => holdOutcome .answered (setHold true p)
  | .release => releaseOutcome .answered (setHold false p)
  | .lamps => lampsOutcome .answered p
  | .fclear => faultOutcome .fclear .erased p
  | .ident | .fcount | .fread => p

/-- A command ends ANSWERED by a LAST with the words gathered; IDENT is answered by its identity. -/
def lastOutcome (c : Command) (words : List Word16) (p : Part) : Part :=
  match c.code with
  | .fcount => faultOutcome .fcount (.count (words.head?.map BitVec.toNat |>.getD 0)) p
  | .fread => faultOutcome .fread (.record words) p
  | _ => p

/-- A command ends REFUSED. A HOLD refused MOVING ends no running sweep (R145, R153, notes/assumptions/35). -/
def refuseOutcome (c : Command) (p : Part) : Part :=
  match c.code with
  | .hold => holdOutcome .refused (setHold false p)
  | .release => releaseOutcome .refused p
  | .lamps => bayNotHeld (lampsOutcome .notHeld (setHold false p))
  | .fread => faultOutcome .fread .noRecord p
  | _ => p

/-- A command ends FAILED in UP: its requester is told (R128, R129). The bay controller acts at the LOST that follows. -/
def failedOutcome (c : Command) (p : Part) : Part :=
  match c.code with
  | .lamps => lampsOutcome .failed p
  | .fcount => faultOutcome .fcount .failed p
  | .fread => faultOutcome .fread .failed p
  | .fclear => faultOutcome .fclear .failed p
  | _ => p

/-! ## Failure (R128) -/

/-- The command in flight fails. -/
def failCommand (f : InFlight) (p : Part) : Part :=
  match p.link.state, f.attempt with
  | .up, .first =>
    { p with link := { p.link with
        inFlight := some { f with phase := .recovering }
        waitCount := 0, gathered := [], recovery := some p.link.beat } }
  | .up, .second => enterLost (failedOutcome f.command (leaveFlight p))
  | .starting, _ => { leaveFlight p with link := { (leaveFlight p).link with recovery := some p.link.beat } }
  | .lost, _ | .down, _ => leaveFlight p

/-! ## Answers (R126, R127) -/

/-- The most words that an answer may gather (R127). -/
def mostWords : CommandCode → Nat
  | .ident => 21
  | .fcount => 1
  | .fread => 7
  | _ => 0

/-- Whether an ACK as the first answer word fits. -/
def takesAck : CommandCode → Bool
  | .ping => true
  | .hold => true
  | .release => true
  | .lamps => true
  | .fclear => true
  | _ => false

/-- Whether a REFUSE of a reason as the first answer word fits. -/
def takesRefuse : CommandCode → Option RefuseReason → Bool
  | .hold, some .moving => true
  | .release, some _ => true
  | .lamps, some .notHeld => true
  | .fread, some .noRecord => true
  | _, _ => false

/-- Whether a LAST that completes these words fits. -/
def takesLast (c : CommandCode) (words : List Word16) : Bool :=
  match c with
  | .ident => 5 ≤ words.length && words.length ≤ 21
  | .fcount => words.length == 1 && words.all fun w => w.toNat ≤ 255
  | .fread => 2 ≤ words.length && words.length ≤ 7
  | _ => false

/-- The end of an answer restarts the keep-alive timer while the link is UP (R126). -/
def answerEnds (p : Part) : Part :=
  if p.link.state = .up then { p with link := { p.link with keepAlive := some (p.osc + keepAlivePeriod) } } else p

/-- WAIT or IDLE: the wait count rises, and at 64 the command fails. -/
def takeWait (f : InFlight) (p : Part) : Part :=
  let n := p.link.waitCount + 1
  if n < 64 then { p with link := { p.link with waitCount := n } } else failCommand f p

/-- DATA: the word is gathered, or the answer is a misfit. -/
def takeData (f : InFlight) (w : Word16) (p : Part) : Part :=
  if p.link.gathered.length < mostWords f.command.code then
    { p with link := { p.link with
        waitCount := 0, gathered := p.link.gathered ++ [w], inFlight := some { f with phase := .answering } } }
  else failCommand f p

/-- LAST: the answer ends and is judged; an identity record is checked too. -/
def takeLast (f : InFlight) (w : Word16) (p : Part) : Part :=
  let words := p.link.gathered ++ [w]
  let p := answerEnds p
  if takesLast f.command.code words then
    if f.command.code = .ident then
      match identityOf words with
      | some d => acceptIdentity d (leaveFlight p)
      | none => failCommand f p
    else lastOutcome f.command words (leaveFlight p)
  else failCommand f p

/-- ACK: the answer ends and is judged. -/
def takeAck (f : InFlight) (p : Part) : Part :=
  let fits := takesAck f.command.code && p.link.gathered.isEmpty
  let p := answerEnds p
  if fits then ackOutcome f.command (leaveFlight p) else failCommand f p

/-- REFUSE: the answer ends and is judged. -/
def takeRefuse (f : InFlight) (reason : Word16) (p : Part) : Part :=
  let fits := takesRefuse f.command.code (refuseReasonOf reason) && p.link.gathered.isEmpty
  let p := answerEnds p
  if fits then refuseOutcome f.command (leaveFlight p) else failCommand f p

/-- A judged word acts on the command in flight (R126). -/
def takeWord (f : InFlight) (w : CoachWord) (p : Part) : Part :=
  match w with
  | .idle | .wait => takeWait f p
  | .data x => takeData f x p
  | .last x => takeLast f x p
  | .ack => takeAck f p
  | .refuse r => takeRefuse f r p
  | .garbled => failCommand f p

/-! ## Beats (R123, R124) -/

/-- The beat of the coach's next word: the beat in progress while its word has not come, so that the first beat of STARTING
has a word of its own (R123, section 8.7); otherwise the first later beat that begins at `now` or later
(notes/assumptions/31). -/
def wordBeat (l : Link) (now : Moment) : Moment :=
  if l.heard = false ∧ now < l.beat + beatPeriod then l.beat
  else l.beat + beatPeriod * max 1 (ceilDiv (now - l.beat) beatPeriod)

/-- The coach's word of the beat at `b` has come; the station word is NOP unless a command is chosen. -/
def beatHeard (b : Moment) (p : Part) : Part :=
  { p with osc := max p.osc b, link := { p.link with beat := b, heard := true, stationWord := nopWord } }

/-- A beat opens with the coach's word. -/
def beatOpens (p : Part) : Part := beatHeard (wordBeat p.link p.osc) p

/-- Whether a word is judged: a command is in flight and awaits its answer (R124). -/
def InFlight.listens (f : InFlight) : Bool := f.phase != .recovering

/-- The coach's word of a beat. While the link is DOWN there are no beats. -/
def coachWord (w : CoachWord) (p : Part) : Part :=
  if p.link.state = .down then p
  else
    let p := beatOpens p
    match p.link.inFlight with
    | some f => if InFlight.listens f then takeWord f w p else p
    | none => p

/-- IDLE (R126). -/
def execIdle (s : State) : Host.Outcome State Fault Refusal := act (coachWord .idle) s

/-- WAIT (R126). -/
def execWait (s : State) : Host.Outcome State Fault Refusal := act (coachWord .wait) s

/-- DATA (R126). -/
def execData (w : Word16) (s : State) : Host.Outcome State Fault Refusal := act (coachWord (.data w)) s

/-- LAST (R127). -/
def execLast (w : Word16) (s : State) : Host.Outcome State Fault Refusal := act (coachWord (.last w)) s

/-- ACK (R127). -/
def execAck (s : State) : Host.Outcome State Fault Refusal := act (coachWord .ack) s

/-- REFUSE (R127). -/
def execRefuse (r : Word16) (s : State) : Host.Outcome State Fault Refusal := act (coachWord (.refuse r)) s

/-- GARBLED_WORD (R128): the word is judged by its tag and parity (R199). -/
def execGarbledWord (w : LinkWord) (s : State) : Host.Outcome State Fault Refusal := act (coachWord (judgeWord w)) s

/-- The wait count reaches 64: the WAIT or IDLE words still wanting have come, one a beat (notes/assumptions/4). -/
def waitCountEnds (p : Part) : Part :=
  match p.link.inFlight with
  | some f =>
    if InFlight.listens f then
      let p := beatHeard (wordBeat p.link p.osc + beatPeriod * (63 - p.link.waitCount)) p
      takeWait f { p with link := { p.link with waitCount := 63 } }
    else p
  | none => p

/-- WAIT_COUNT_EXPIRY (R128). -/
def execWaitCountExpiry (s : State) : Host.Outcome State Fault Refusal := act waitCountEnds s

/-! ## The arbiter (R125, R135) -/

/-- The first request that the arbiter finds; in STARTING and LOST, and in UP until identity is confirmed, in the keeper's
slot alone. -/
def Link.found (l : Link) : Option (Requester × Command) :=
  match l.slots.keeper with
  | some c => some (.keeper, c)
  | none =>
    if l.state = .up && l.identConfirmed then
      match l.slots.bay, l.slots.sweep, l.slots.faults with
      | some c, _, _ => some (.bay, c)
      | none, some c, _ => some (.sweep, c)
      | none, none, some c => some (.faults, c)
      | none, none, none => none
    else none

/-- The request that the arbiter sends now, if the link is free. -/
def Link.choice (l : Link) : Option (Requester × Command) :=
  if l.state != .down && l.inFlight.isNone && l.recovery.isNone then Link.found l else none

/-- The lights-off request leaves its slot for flight (R154). -/
def LightsOff.sent : LightsOff → LightsOff
  | .waiting => .inFlight
  | l => l

/-- A command is sent as the station word of the beat in progress, whose coach word has then gone by (R123, R125). The model
sends it in the beat in which it is placed, at whatever moment of that beat (notes/assumptions/31). -/
def sendCommand (who : Requester) (c : Command) (p : Part) : Part :=
  let b := currentBeat p.link.beat p.osc
  let sweep := if who = .sweep then { p.sweep with lightsOff := LightsOff.sent p.sweep.lightsOff } else p.sweep
  setSlot who none { p with
    osc := max p.osc b
    sweep := sweep
    link := { p.link with
      inFlight := some { requester := who, command := c }, waitCount := 0, gathered := []
      beat := b, heard := true, stationWord := cmdWord c } }

/-- The arbiter's choice of a command for a beat's station word: it is sent where it is the arbiter's choice. -/
def chosen (code : CommandCode) (p : Part) : Part :=
  match Link.choice p.link with
  | some (who, c) => if c.code = code then sendCommand who c p else p
  | none => p

/-- PING (R133). -/
def execPing (s : State) : Host.Outcome State Fault Refusal := act (chosen .ping) s

/-- IDENT (R137). -/
def execIdent (s : State) : Host.Outcome State Fault Refusal := act (chosen .ident) s

/-- HOLD (R182). -/
def execHold (s : State) : Host.Outcome State Fault Refusal := act (chosen .hold) s

/-- RELEASE (R184). -/
def execRelease (s : State) : Host.Outcome State Fault Refusal := act (chosen .release) s

/-- LAMPS (R146). -/
def execLamps (s : State) : Host.Outcome State Fault Refusal := act (chosen .lamps) s

/-- FCOUNT (R162). -/
def execFcount (s : State) : Host.Outcome State Fault Refusal := act (chosen .fcount) s

/-- FREAD (R158). -/
def execFread (s : State) : Host.Outcome State Fault Refusal := act (chosen .fread) s

/-- FCLEAR (R164). -/
def execFclear (s : State) : Host.Outcome State Fault Refusal := act (chosen .fclear) s

/-! ## Recovery and timers -/

/-- Time comes to the beat after the eighth recovery beat counted from beat `b` (R128). -/
def recoveryBeat (b : Moment) (p : Part) : Part :=
  let b := max p.link.beat (b + 9 * beatPeriod)
  let p := beatHeard b p
  { p with link := { p.link with recovery := none } }

/-- The recovery beats end (R128, R132): the command is resent in that beat, or a fresh PING is placed. -/
def recoveryEnds (p : Part) : Part :=
  match p.link.recovery, p.link.inFlight with
  | some b, some f =>
    let p := recoveryBeat b p
    { p with link := { p.link with
        inFlight := some { f with attempt := .second, phase := .awaiting }, stationWord := cmdWord f.command } }
  | some b, none => if p.link.state = .starting then place .keeper .ping (recoveryBeat b p) else p
  | none, _ => p

/-- RECOVERY_END (R128). -/
def execRecoveryEnd (s : State) : Host.Outcome State Fault Refusal := act recoveryEnds s

/-- The start timer expires (R132): a PING in flight ends and the link is LOST. -/
def startTimerExpires (p : Part) : Part :=
  match p.link.startTimer, p.link.state with
  | some t, .starting => enterLost (advanceTo t p)
  | _, _ => p

/-- START_TIMER_EXPIRY (R132). -/
def execStartTimerExpiry (s : State) : Host.Outcome State Fault Refusal := act startTimerExpires s

/-- The link waits for the first beat that begins at `now` or later; no word of the one in progress is wanted. -/
def Link.atNextBeat (l : Link) (now : Moment) : Link :=
  if now ≤ l.beat then l
  else { l with beat := l.beat + beatPeriod * ceilDiv (now - l.beat) beatPeriod, heard := false }

/-- The lost PING timer expires (R134): a PING is placed, to be sent at the next beat, and the timer restarts from that
expiry. -/
def lostPingExpires (p : Part) : Part :=
  match p.link.lostTimer, p.link.state with
  | some t, .lost =>
    let p := advanceTo t p
    place .keeper .ping { p with link := { Link.atNextBeat p.link p.osc with lostTimer := some (t + lostPingPeriod) } }
  | _, _ => p

/-- LOST_PING_TIMER_EXPIRY (R134). -/
def execLostPingTimerExpiry (s : State) : Host.Outcome State Fault Refusal := act lostPingExpires s

/-- The keep-alive timer expires (R133): a PING is placed. -/
def keepAliveExpires (p : Part) : Part :=
  match p.link.keepAlive, p.link.state with
  | some t, .up => place .keeper .ping (advanceTo t { p with link := { p.link with keepAlive := none } })
  | _, _ => p

/-- KEEP_ALIVE_EXPIRY (R133). -/
def execKeepAliveExpiry (s : State) : Host.Outcome State Fault Refusal := act keepAliveExpires s

end Sys2Proof.Machine
end

