-- ==== Sys2Proof/Machine/HeatFrame.lean ====
section
/-! DEFINITION. The heat frame and the measurement unit (chapters 5 and 6): boundaries, step starts, the slot arbiter, the
self-test, and the ends of conversions. -/

namespace Sys2Proof.Machine

/-! ## The slot arbiter (R87) -/

/-- The position of a lamp conversion. -/
def Conversion.position : Conversion → Option Nat
  | .lamp q => some q
  | _ => none

/-- The lowest marked position whose conversion has not begun. -/
def Measure.nextLamp (m : Measure) : Option Nat :=
  m.marks.find? fun q => m.converting.bind Conversion.position != some q && m.ending.bind Conversion.position != some q

/-- Whether a conversion is of the low reference. -/
def Conversion.isReflo : Conversion → Bool
  | .reflo => true
  | _ => false

/-- Whether a conversion is of the high reference. -/
def Conversion.isRefhi : Conversion → Bool
  | .refhi _ => true
  | _ => false

/-- Whether a conversion is of a temperature. -/
def Conversion.isTemperature : Conversion → Bool
  | .cabin => true
  | .outside => true
  | _ => false

/-- The conversion that a due self-test asks for (R87). One that was carried over the boundary has begun already (R99). -/
def Measure.selfTestSlot (m : Measure) : Option Conversion :=
  match m.selfTest with
  | .notDue => none
  | .refloPending => if m.ending.any Conversion.isReflo then none else some .reflo
  | .refhiPending => if m.ending.any Conversion.isRefhi then none else some (.refhi (m.reflo.getD 0))

/-- The conversion that the arbiter gives an offered slot (R87). -/
def Part.slotFor (p : Part) : Option Conversion :=
  match Measure.selfTestSlot p.measure with
  | some c => some c
  | none =>
    if p.measure.owedCabin && p.bay.couple then some .cabin
    else if p.measure.owedOutside then some .outside
    else (Measure.nextLamp p.measure).map .lamp

/-- A conversion begins: an owed temperature stops being owed (R87). -/
def Measure.begin (m : Measure) (c : Conversion) : Measure :=
  match c with
  | .cabin => { m with converting := some c, owedCabin := false }
  | .outside => { m with converting := some c, owedOutside := false }
  | _ => { m with converting := some c }

/-- A slot is offered (R82, R85). While the conversion before it has not ended the slot passes idle
(notes/assumptions/15). -/
def offerSlot (p : Part) : Part :=
  if p.measure.converting.isSome then p
  else match Part.slotFor p with
    | some c => { p with measure := Measure.begin p.measure c }
    | none => p

/-! ## Steps (R72, R75) -/

/-- Step `k` begins, on or off by the duty in force (R75). -/
def beginStep (k : Nat) (p : Part) : Part :=
  if k < p.heat.duty then { p with heat := { p.heat with step := k, phase := .on, pin := true } }
  else offerSlot { p with heat := { p.heat with step := k, phase := .off, pin := false } }

/-- The moment at which step `k` of the frame begins (R72). -/
def Heat.stepMoment (h : Heat) (k : Nat) : Moment := h.frameStart + stepPeriod * k

/-- A step other than step 0 begins. The end of step 63 is the boundary and no step start of its own. -/
def stepStarts (p : Part) : Part :=
  if p.heat.step < 63 then
    beginStep (p.heat.step + 1) (advanceTo (Heat.stepMoment p.heat (p.heat.step + 1)) p)
  else p

/-- STEP_START (R75). -/
def execStepStart (s : State) : Host.Outcome State Fault Refusal := act stepStarts s

/-! ## The boundary (R73, R86, R88) -/

/-- A self-test becomes due: REFLO pending, no REFLO code held, the frame count at 0 (R88). -/
def dueSelfTest (m : Measure) : Measure := { m with selfTest := .refloPending, reflo := none, frames := 0 }

/-- The end of the self-test frame count (R86, R88). -/
def selfTestCheck (m : Measure) : Measure := if 16 ≤ m.frames then dueSelfTest m else m

/-- The accounting of the new frame (R86): owed temperatures, frame count, staleness, self-test. -/
def accounting (couple sweepStarts : Bool) (m : Measure) : Measure :=
  let m := { m with
    owedOutside := true, owedCabin := couple, frames := m.frames + 1
    cabin := Channel.age m.cabin, outside := Channel.age m.outside }
  let m := selfTestCheck m
  if sweepStarts || m.chain != .good then dueSelfTest m else m

/-- A conversion of the frame just ended that has not ended yet is kept apart from those of the new frame (R99). -/
def Measure.carryOver (m : Measure) : Measure :=
  if m.ending.isNone then { m with converting := none, ending := m.converting } else m

/-- A heat frame boundary (R73): the sweep's start is judged and the ceiling fixed, the measurement unit's accounting and
the grant step are taken with the shed check after it, the duty shadow moves into force, and step 0 begins. -/
def boundary (p : Part) : Part :=
  let now := p.heat.frameStart + heatFramePeriod
  let p := advanceTo now p
  let p := { p with heat := { p.heat with frameStart := now } }
  let judged := judgeSweepStart p
  let p := judged.1
  let p := { p with
    heat := { p.heat with ceiling := if p.heat.sweepRunning then 56 else 62 }
    measure := accounting p.bay.couple judged.2 (Measure.carryOver p.measure) }
  let p := shedCheck (grantStep p)
  let p := { p with heat := { p.heat with duty := p.heat.shadow } }
  beginStep 0 p

/-- HEAT_FRAME_BOUNDARY (R73). -/
def execHeatFrameBoundary (s : State) : Host.Outcome State Fault Refusal := act boundary s

/-- The self-test frame count reaches its end (R88); a self-test that is due already is not begun anew
(notes/assumptions/4). -/
def selfTestCountEnds (m : Measure) : Measure :=
  match m.selfTest with
  | .notDue => selfTestCheck { m with frames := 16 }
  | _ => { m with frames := 0 }

/-- SELF_TEST_COUNT_EXPIRY (R88). -/
def execSelfTestCountExpiry (s : State) : Host.Outcome State Fault Refusal :=
  act (fun p => { p with measure := selfTestCountEnds p.measure }) s

/-! ## The ends of conversions -/

/-- The conversion of a kind that ends: the one whose step ended with the boundary just taken, or else the one of the step
in progress, whose end brings time to the end of the step (R85, R99). The last component says that it is the former. -/
def takeConversion (kind : Conversion → Bool) (p : Part) : Option (Conversion × Part × Bool) :=
  match p.measure.ending.filter kind, p.measure.converting.filter kind with
  | some c, _ => some (c, { p with measure := { p.measure with ending := none } }, true)
  | none, some c =>
    some (c, advanceTo (Heat.stepMoment p.heat (p.heat.step + 1))
      { p with measure := { p.measure with converting := none } }, false)
  | none, none => none

/-- The end of a REFLO conversion (R89). -/
def refloEnds (code : Code) (p : Part) : Part :=
  match takeConversion Conversion.isReflo p with
  | some (_, p, _) =>
    { p with measure := { p.measure with reflo := some code.toNat, selfTest := .refhiPending } }
  | none => p

/-- REFLO_CONVERSION_END (R89). -/
def execRefloConversionEnd (code : Code) (s : State) : Host.Outcome State Fault Refusal := act (refloEnds code) s

/-- Whether a self-test passes (R89). -/
def selfTestPasses (reflo refhi : Nat) : Bool := reflo ≤ 8 && 1015 ≤ refhi

/-- A change of chain status and what it sets off (R90). UNTESTED to FAULTY is told to no one. -/
def setChain (new : ChainStatus) (p : Part) : Part :=
  let old := p.measure.chain
  let p := { p with measure := { p.measure with chain := new } }
  match old, new with
  | .good, .faulty => evaluate (sweepAbort true p)
  | .faulty, .good | .untested, .good => evaluate p
  | _, _ => p

/-- The end of a REFHI conversion judges its self-test (R89). A self-test that became due at the boundary taken before this
end stays due (R99). -/
def refhiEnds (code : Code) (p : Part) : Part :=
  match takeConversion Conversion.isRefhi p with
  | some (.refhi reflo, p, before) =>
    let p := if before && p.measure.selfTest != .refhiPending then p
      else { p with measure := { p.measure with selfTest := .notDue, reflo := none } }
    setChain (if selfTestPasses reflo code.toNat then .good else .faulty) p
  | _ => p

/-- REFHI_CONVERSION_END (R89). -/
def execRefhiConversionEnd (code : Code) (s : State) : Host.Outcome State Fault Refusal := act (refhiEnds code) s

/-- The end of a CABIN or OUTSIDE conversion (R91): the code is discarded unless the chain is GOOD. -/
def temperatureEnds (code : Code) (p : Part) : Part :=
  match takeConversion Conversion.isTemperature p with
  | some (c, p, _) =>
    if p.measure.chain = .good then
      match c with
      | .cabin => { p with measure := { p.measure with cabin := Channel.take p.measure.cabin code.toNat } }
      | _ => { p with measure := { p.measure with outside := Channel.take p.measure.outside code.toNat } }
    else p
  | none => p

/-- TEMPERATURE_CONVERSION_END (R91). -/
def execTemperatureConversionEnd (code : Code) (s : State) : Host.Outcome State Fault Refusal :=
  act (temperatureEnds code) s

/-- The end of a lamp conversion: its mark is removed and its code handed to the sweep (R97, R148). -/
def lampEnds (code : Code) (p : Part) : Part :=
  match takeConversion Conversion.isLamp p with
  | some (.lamp q, p, _) =>
    takeLampCode q code.toNat
      { p with measure := { p.measure with marks := p.measure.marks.filter fun m => m != q } }
  | _ => p

/-- LAMP_CONVERSION_END (R148). -/
def execLampConversionEnd (code : Code) (s : State) : Host.Outcome State Fault Refusal := act (lampEnds code) s

end Sys2Proof.Machine
end

