-- ==== Sys2Proof/Machine/Identity.lean ====
section
/-! DEFINITION. Chapter 1: START_UP, RESET_ASSERTED, and the minute clock. -/

namespace Sys2Proof.Machine

/-- The part in STRAP FAULT (R3, R4): every block at its start-up value, no send request, no conversion. -/
def Part.strapFault (l : Latch) : Part :=
  let p := Part.initial l
  { p with
    mode := .strapFault
    line := { p.line with flags := {} }
    measure := { p.measure with converting := none } }

/-- START_UP (R1 to R3): the straps are sampled once and everything takes its start-up value. -/
def execStartUp (straps : Straps) (s : State) : Host.Outcome State Fault Refusal :=
  let l := latchOf straps
  .next { s with part := if validStation l.station then Part.initial l else Part.strapFault l }

/-- The part while it is inactive (R1): it drives nothing. What the state holds is read by nothing until the next start-up
(notes/assumptions/22). -/
def Part.inactive (p : Part) : Part :=
  { p with mode := .inactive, line := { p.line with tx := none }, heat := { p.heat with pin := false } }

/-- RESET_ASSERTED (R1). -/
def execResetAsserted (s : State) : Host.Outcome State Fault Refusal := .next { s with part := Part.inactive s.part }

/-! ## The minute clock -/

/-- The minute and second after one more second (R6), and whether the minute rolled over. -/
def nextSecond (minute second : Nat) : (Nat × Nat) × Bool :=
  if second < 59 then ((minute, second + 1), false) else (((minute + 1) % 1440, 0), true)

/-- A second ends (R6); at a rollover one minute event is issued. -/
def secondEnds (p : Part) : Part :=
  let p := advanceTo p.clock.secondEnds p
  let t := nextSecond p.clock.minute p.clock.second
  let p := { p with clock := { p.clock with
    minute := t.1.1, second := t.1.2, secondEnds := p.clock.secondEnds + oneSecond } }
  if t.2 then minuteEvent p else p

/-- SECOND_END (R6). -/
def execSecondEnd (s : State) : Host.Outcome State Fault Refusal := act secondEnds s

/-- A change of clock status goes to the planner and the bay controller (R7). -/
def statusChanged (p : Part) : Part := tryPrepare (recompute .clockStatus p)

/-- The TIME silence timer expires (R7). -/
def timeSilenceExpires (p : Part) : Part :=
  match p.clock.silence with
  | none => p
  | some t => statusChanged (advanceTo t { p with clock := { p.clock with silence := none, status := .unconfirmed } })

/-- TIME_SILENCE_EXPIRY (R7). -/
def execTimeSilenceExpiry (s : State) : Host.Outcome State Fault Refusal := act timeSilenceExpires s

/-- The roster cache's re-sort and purge at a clock shift (R173). -/
def cacheShift (p : Part) : Part :=
  { p with cache := { p.cache with
      entries := purgeRoster p.clock.minute (sortRoster p.clock.minute p.cache.entries) } }

/-- The clock adopts a minute and a second in range (R8, R9). -/
def adoptTime (minute second : Nat) (p : Part) : Part :=
  let shift := p.clock.minute != minute
  let change := p.clock.status != .valid
  let p := { p with clock := {
    minute := minute, second := second, status := .valid
    silence := some (p.osc + timeSilencePeriod), secondEnds := p.osc + oneSecond } }
  let p := if shift then cacheShift p else p
  let p := if change then statusChanged p else p
  if shift then minuteEvent p else p

/-- The fields of a TIME frame are judged (R8, R198). -/
def takeTime (t : TimePayload) (p : Part) : Part :=
  if t.minute.toNat ≤ 1439 ∧ t.second.toNat ≤ 59 then adoptTime t.minute.toNat t.second.toNat p else p

end Sys2Proof.Machine
end

