-- ==== Sys2Proof/Machine/OrderHandler.lean ====
section
/-! DEFINITION. The order handler (chapter 12): orders taken, refused or dropped, and their effects. -/

namespace Sys2Proof.Machine

/-! ## The checks (R192) -/

/-- The reason for which an order of the sweep or the fault list is refused. -/
def Part.checkRefusal (p : Part) (busy : Bool) : Option RefusalReason :=
  if !heldCoach p.bay.state then some .wrongState
  else if p.link.state != .up then some .linkDown
  else if busy then some .busy
  else none

/-- SWEEP is refused. -/
def Part.sweepRefusal (p : Part) : Option RefusalReason :=
  Part.checkRefusal p (SweepStatus.isRunning p.sweep.status)

/-- READFAULTS or CLEARSTORED is refused. -/
def Part.readRefusal (p : Part) : Option RefusalReason := Part.checkRefusal p (p.faults.status != .idle)

/-- Whether the bay is EMPTY or COUPLED, where HOLD, UNHOLD and LANEPASS are refused. -/
def Part.noCoach (p : Part) : Bool := p.bay.state == .empty || p.bay.state == .coupled

/-- HOLD is refused. -/
def Part.holdRefusal (p : Part) : Option RefusalReason :=
  if Part.noCoach p then some .wrongState
  else if p.bay.revocation != .none then some .busy
  else none

/-- UNHOLD or LANEPASS is refused. -/
def Part.stateRefusal (p : Part) : Option RefusalReason := if Part.noCoach p then some .wrongState else none

/-- BAYRESET is refused in RELEASING (R187, R192), but not where a HOLD ACK of this very moment has led there: R190 has the reset clear
everything in either order of the two (notes/assumptions/41). -/
def Part.resetRefusal (p : Part) : Option RefusalReason :=
  if p.bay.state = .releasing && p.bay.holdAckAt != some p.osc then some .wrongState else none

/-! ## Effects (R186) -/

/-- HOLD taken: a hold reason, or the beginning of a revocation, whose outcome is PENDING (R193). -/
def holdEffect (o : Order) (p : Part) : Part :=
  let begun (p : Part) : Part :=
    { p with orders := { p.orders with revocation := some { tag := o.tag, sender := o.sender } } }
  match p.bay.state with
  | .releasing => begun { p with bay := { p.bay with revocation := .deferred } }
  | .cleared => place .bay .hold (begun { p with bay := { p.bay with revocation := .requested } })
  | _ => evaluate (setReasons { p.bay.reasons with orderHold := true } p)

/-- The outcome of a HOLD taken in a bay state (R193). -/
def holdTaken : BayState → JobOutcome
  | .releasing => .pending
  | .cleared => .pending
  | _ => .taken

/-- A revocation is withdrawn by UNHOLD where one runs (R186, R193). -/
def withdrawRevocation (p : Part) : Part :=
  if p.bay.revocation = .none then p
  else revocationEnd (.refused .withdrawn) (jobLimit - 1) { p with bay := { p.bay with revocation := .none } }

/-- UNHOLD taken. -/
def unholdEffect (p : Part) : Part :=
  if closedToChecks p.bay.state then withdrawRevocation p
  else evaluate (setReasons { p.bay.reasons with orderHold := false, releaseRefused := false } p)

/-- LANEPASS taken. The lane reasons are judged no more, so a window opened at this moment meets no lane view
(notes/assumptions/33). -/
def lanepassEffect (p : Part) : Part := evaluate { p with bay := { p.bay with lanePass := true, openedAt := none } }

/-! ## Judging an order (R191) -/

/-- The job of an order. -/
def jobOf (o : Order) (kind : Byte) (show? : Option ShowKind) (outcome : JobOutcome) : Job where
  tag      := o.tag
  kind     := kind
  argument := o.argument
  sender   := o.sender
  show?    := show?
  outcome  := outcome

/-- How an order is judged: the reason for which it is refused, and what it does when taken. -/
structure OrderRule where
  kind    : Byte
  show?   : Option ShowKind := none
  refused : Part → Option RefusalReason := fun _ => none
  taken   : Part → JobOutcome := fun _ => .taken
  effect  : Part → Part := id

/-- An order is taken or refused, and its job queued (R192). -/
def judgeOrder (o : Order) (r : OrderRule) (p : Part) : Part :=
  match r.refused p with
  | some reason => queueJob (jobOf o r.kind r.show? (.refused reason)) p
  | none => queueJob (jobOf o r.kind r.show? (r.taken p)) (r.effect p)

/-- An order that finds the queue full is dropped and counted (R191). -/
def dropOrder (p : Part) : Part :=
  if p.orders.dropped < 255 then
    raise .baystate { p with orders := { p.orders with dropped := p.orders.dropped + 1 } }
  else p

/-- An ORDER frame handed to the order handler (R191). -/
def takeOrder (o : Order) (r : OrderRule) (p : Part) : Part :=
  if o.target.toNat = p.latch.station then
    if p.orders.jobs.length < jobLimit then judgeOrder o r p else dropOrder p
  else p

/-- An ORDER frame ends on the line. -/
def receiveOrder (o : Order) (r : OrderRule) (s : State) : Host.Outcome State Fault Refusal :=
  act (receive o.sender 4 (takeOrder o r)) s

/-! ## The orders -/

/-- SWEEP. -/
def sweepRule : OrderRule := { kind := sweepKind, refused := Part.sweepRefusal, effect := sweepRequest }
/-- READFAULTS. -/
def readfaultsRule : OrderRule :=
  { kind := readfaultsKind, refused := Part.readRefusal, effect := faultRequest .read }
/-- CLEARSTORED. -/
def clearstoredRule : OrderRule :=
  { kind := clearstoredKind, refused := Part.readRefusal, effect := faultRequest .clearAndRead }
/-- HOLD. -/
def holdRule (o : Order) : OrderRule :=
  { kind := holdKind, refused := Part.holdRefusal, taken := fun p => holdTaken p.bay.state, effect := holdEffect o }
/-- UNHOLD. -/
def unholdRule : OrderRule := { kind := unholdKind, refused := Part.stateRefusal, effect := unholdEffect }
/-- LANEPASS. -/
def lanepassRule : OrderRule := { kind := lanepassKind, refused := Part.stateRefusal, effect := lanepassEffect }
/-- BAYRESET. -/
def bayresetRule : OrderRule := { kind := bayresetKind, refused := Part.resetRefusal, effect := bayReset }
/-- An order whose kind code names none of the eight kinds. -/
def badKindRule (kind : Byte) : OrderRule := { kind := kind, refused := fun _ => some .badKind }
/-- SHOW of a kind. -/
def showRule (k : ShowKind) : OrderRule := { kind := showKindCode, show? := some k }

/-- ORDER_SWEEP (R192). -/
def execOrderSweep (o : Order) (s : State) : Host.Outcome State Fault Refusal := receiveOrder o sweepRule s
/-- ORDER_READFAULTS (R192). -/
def execOrderReadfaults (o : Order) (s : State) : Host.Outcome State Fault Refusal := receiveOrder o readfaultsRule s
/-- ORDER_CLEARSTORED (R192). -/
def execOrderClearstored (o : Order) (s : State) : Host.Outcome State Fault Refusal := receiveOrder o clearstoredRule s
/-- ORDER_HOLD (R186). -/
def execOrderHold (o : Order) (s : State) : Host.Outcome State Fault Refusal := receiveOrder o (holdRule o) s
/-- ORDER_UNHOLD (R186). -/
def execOrderUnhold (o : Order) (s : State) : Host.Outcome State Fault Refusal := receiveOrder o unholdRule s
/-- ORDER_LANEPASS (R186). -/
def execOrderLanepass (o : Order) (s : State) : Host.Outcome State Fault Refusal := receiveOrder o lanepassRule s
/-- ORDER_BAYRESET (R187). -/
def execOrderBayreset (o : Order) (s : State) : Host.Outcome State Fault Refusal := receiveOrder o bayresetRule s
/-- ORDER_BAD_KIND (R191). -/
def execOrderBadKind (o : Order) (kind : Byte) (s : State) : Host.Outcome State Fault Refusal :=
  receiveOrder o (badKindRule kind) s
/-- SHOW_SUMMARY (R195). -/
def execShowSummary (o : Order) (s : State) : Host.Outcome State Fault Refusal := receiveOrder o (showRule .summary) s
/-- SHOW_LAMPS (R195). -/
def execShowLamps (o : Order) (s : State) : Host.Outcome State Fault Refusal := receiveOrder o (showRule .lamps) s
/-- SHOW_FAULTS (R195). -/
def execShowFaults (o : Order) (s : State) : Host.Outcome State Fault Refusal := receiveOrder o (showRule .faults) s
/-- SHOW_PEERS (R195). -/
def execShowPeers (o : Order) (s : State) : Host.Outcome State Fault Refusal := receiveOrder o (showRule .peers) s
/-- SHOW_PLAN (R195). -/
def execShowPlan (o : Order) (s : State) : Host.Outcome State Fault Refusal := receiveOrder o (showRule .plan) s
/-- SHOW_COUNTERS (R195). -/
def execShowCounters (o : Order) (s : State) : Host.Outcome State Fault Refusal := receiveOrder o (showRule .counters) s
/-- SHOW_ROSTER (R195). -/
def execShowRoster (o : Order) (s : State) : Host.Outcome State Fault Refusal := receiveOrder o (showRule .roster) s

end Sys2Proof.Machine
end

