-- ==== Sys2Proof/Machine/Peers.lean ====
section
/-! DEFINITION. Chapter 3 and the SHED frame of chapter 4: the arrival and ageing of peers, and the shed lock. -/

namespace Sys2Proof.Machine

/-- The size of the peer table (R33). -/
def peerLimit : Nat := 31

/-! ## The table as a list -/

/-- The entry of a station. -/
def findPeer (station : Nat) (es : List Peer) : Option Peer := es.find? fun e => e.station == station

/-- Deletes the entry of a station. -/
def deletePeer (station : Nat) (es : List Peer) : List Peer := es.filter fun e => e.station != station

/-- Writes an entry in its place: ascending station number, one entry a station (R33). -/
def storePeer (e : Peer) : List Peer → List Peer
  | [] => [e]
  | x :: xs =>
    if e.station < x.station then e :: x :: xs
    else if e.station = x.station then e :: xs
    else x :: storePeer e xs

/-- The GHOST with the oldest last-heard time (R38). -/
def oldestGhost : List Peer → Option Peer
  | [] => none
  | e :: es =>
    match oldestGhost es with
    | none => if e.status = .ghost then some e else none
    | some g => if e.status = .ghost ∧ e.lastHeard ≤ g.lastHeard then some e else some g

/-! ## What follows a change of the table -/

/-- After a change: FEEDER_MISMATCH and LANE_CLASH are judged (R44, R46), and a changed lane view reaches the bay
controller (R47). `before` is the lane view before the change. -/
def afterPeers (before : List Position) (p : Part) : Part :=
  let p := setRemark .feederMismatch (Part.feederLimitInUse p != Part.ownLimit p) p
  let p := setRemark .laneClash (Part.laneClashes p) p
  if Part.laneView p = before then p else laneViewChanged p

/-- Peer overflow begins (R39): the remark is set and the share unit is told. Where it holds already, nothing changes. -/
def overflowBegins (p : Part) : Part :=
  if p.peers.overflow then p
  else setRemark .peerOverflow true
    { p with peers := { p.peers with overflow := true }, share := { p.share with overflowHeld := true } }

/-- A deletion by ageing or disqualification ends peer overflow (R39). -/
def overflowEnds (p : Part) : Part :=
  if p.peers.overflow then
    setRemark .peerOverflow false
      { p with peers := { p.peers with overflow := false }, share := { p.share with overflowHeld := false } }
  else p

/-- The entries of the table become `es`. -/
def setEntries (es : List Peer) (p : Part) : Part := { p with peers := { p.peers with entries := es } }

/-- An entry is deleted by ageing or disqualification. -/
def deletionOf (station : Nat) (p : Part) : Part :=
  afterPeers (Part.laneView p) (overflowEnds (setEntries (deletePeer station p.peers.entries) p))

/-- An entry is written. -/
def writePeer (e : Peer) (p : Part) : Part :=
  afterPeers (Part.laneView p) (setEntries (storePeer e p.peers.entries) p)

/-! ## Arrival (R35 to R38) -/

/-- The part of a frame that its kind writes (R34). -/
inductive PeerPart where
  | load (l : PeerLoad)
  | bay (s : BayState)
  deriving DecidableEq, Repr

/-- What LOAD and BAYSTATE have in common, and the part of the kind (R34). -/
structure PeerFields where
  station : Nat
  lane    : Nat
  depth   : Nat
  group   : Nat
  cls     : Nat
  part    : PeerPart
  deriving DecidableEq, Repr

/-- Whether a frame qualifies (R35). -/
def Part.qualifies (p : Part) (f : PeerFields) : Bool :=
  f.group == p.latch.group || (f.lane == p.latch.lane && p.latch.lane != 0)

/-- The load of an entry after a frame (R34). -/
def PeerFields.loadAfter (f : PeerFields) (held : Option PeerLoad) : Option PeerLoad :=
  match f.part with
  | .load l => some l
  | .bay _ => held

/-- The bay state of an entry after a frame (R34). -/
def PeerFields.bayAfter (f : PeerFields) (held : Option BayState) : Option BayState :=
  match f.part with
  | .load _ => held
  | .bay s => some s

/-- The entry that a qualifying frame writes, over what is held of the peer (R34, R36, R37). -/
def PeerFields.entry (f : PeerFields) (held : Option Peer) (now : Moment) : Peer where
  station   := f.station
  lane      := f.lane
  depth     := f.depth
  group     := f.group
  cls       := f.cls
  status    := .live
  bayState  := PeerFields.bayAfter f (held.bind (·.bayState))
  load      := PeerFields.loadAfter f (held.bind (·.load))
  lastHeard := now

/-- The arrival of a LOAD or BAYSTATE at the peer table (R36 to R38). -/
def peerArrives (f : PeerFields) (p : Part) : Part :=
  match findPeer f.station p.peers.entries, Part.qualifies p f with
  | some e, true => writePeer (PeerFields.entry f (some e) p.osc) p
  | some _, false => deletionOf f.station p
  | none, true =>
    if p.peers.entries.length < peerLimit then writePeer (PeerFields.entry f none p.osc) p
    else match oldestGhost p.peers.entries with
      | some g =>
        afterPeers (Part.laneView p)
          (setEntries (storePeer (PeerFields.entry f none p.osc) (deletePeer g.station p.peers.entries)) p)
      | none => overflowBegins p
  | none, false => p

/-- The fields of a LOAD, in range (R198). -/
def loadFields (sender : StationNo) (b : LoadPayload) : Option PeerFields :=
  if b.lane.toNat ≤ 15 ∧ b.demand.toNat ≤ 63 ∧ b.draw.toNat ≤ 63 then
    some { station := sender.toNat, lane := b.lane.toNat, depth := placeDepth b.place, group := placeGroup b.place
           cls := placeClass b.place
           part := .load { demand := b.demand.toNat, draw := b.draw.toNat, urgency := planUrgency b.plan } }
  else none

/-- The fields of a BAYSTATE, in range (R198). -/
def baystateFields (sender : StationNo) (b : BaystatePayload) : Option PeerFields :=
  if b.lane.toNat ≤ 15 then
    (bayStateOf b.bayState.toNat).map fun s =>
      { station := sender.toNat, lane := b.lane.toNat, depth := placeDepth b.place, group := placeGroup b.place
        cls := placeClass b.place, part := .bay s }
  else none

/-- A frame in range arrives at the peer table; one out of range has no effect on it (R198). -/
def arrivesIfGood (f : Option PeerFields) (p : Part) : Part :=
  match f with
  | some f => peerArrives f p
  | none => p

/-- LOAD_FRAME (R36): the arrival, then the LOAD-received notice and its shed check (R42, R62). -/
def execLoadFrame (sender : StationNo) (b : LoadPayload) (s : State) : Host.Outcome State Fault Refusal :=
  act (receive sender 5 (fromBayPost sender fun p => shedCheck (arrivesIfGood (loadFields sender b) p))) s

/-- BAYSTATE_FRAME (R35). -/
def execBaystateFrame (sender : StationNo) (b : BaystatePayload) (s : State) : Host.Outcome State Fault Refusal :=
  act (receive sender 13 (fromBayPost sender (arrivesIfGood (baystateFields sender b)))) s

/-! ## Ageing (R40, R41) -/

/-- Whether an entry reports a draw above 0. -/
def Peer.draws (e : Peer) : Bool :=
  match e.load with
  | some l => 0 < l.draw
  | none => false

/-- 60 s have passed since a LIVE entry was heard (R40). -/
def peerAges (station : Nat) (p : Part) : Part :=
  match findPeer station p.peers.entries with
  | some e =>
    if e.status = .live then
      let p := advanceTo (e.lastHeard + peerAgeingPeriod) p
      if Peer.draws e then writePeer { e with status := .ghost } p else deletionOf station p
    else p
  | none => p

/-- PEER_AGEING_60S (R40). -/
def execPeerAgeing60s (station : StationNo) (s : State) : Host.Outcome State Fault Refusal :=
  act (peerAges station.toNat) s

/-- 180 s have passed since a GHOST was heard (R41). -/
def ghostAges (station : Nat) (p : Part) : Part :=
  match findPeer station p.peers.entries with
  | some e =>
    if e.status = .ghost then deletionOf station (advanceTo (e.lastHeard + ghostAgeingPeriod) p) else p
  | none => p

/-- GHOST_AGEING_180S (R41). -/
def execGhostAgeing180s (station : StationNo) (s : State) : Host.Outcome State Fault Refusal :=
  act (ghostAges station.toNat) s

/-! ## The shed lock (R64, R65) -/

/-- A SHED handed to the share unit (R64). -/
def takeShed (b : ShedPayload) (p : Part) : Part := if shedGroup b.group = p.latch.group then lockShed p else p

/-- SHED_FRAME (R64). -/
def execShedFrame (sender : StationNo) (b : ShedPayload) (s : State) : Host.Outcome State Fault Refusal :=
  act (receive sender 3 (fromBayPost sender (takeShed b))) s

/-- The shed lock runs out (R65). -/
def shedLockEnds (p : Part) : Part :=
  match p.share.shedLock with
  | some t => advanceTo t { p with share := { p.share with shedLock := none } }
  | none => p

/-- SHED_LOCK_END (R65). -/
def execShedLockEnd (s : State) : Host.Outcome State Fault Refusal := act shedLockEnds s

end Sys2Proof.Machine
end

