-- ==== Sys2Proof/Machine/Reports.lean ====
section
/-! DEFINITION. The content of the frames the part sends: payloads of section 13.1 and REPORT items of section 13.3. -/

namespace Sys2Proof.Machine

/-! ## SHED, LOAD, BAYSTATE, ASK -/

/-- SHED: the own group and the observed sum (R21, R66). -/
def Part.shedPayload (p : Part) : List Byte := byteOf p.latch.group :: bytesOf (Part.observedSum p)

/-- LOAD bytes 0 and 1: lane, depth, group, class. -/
def Part.placePayload (p : Part) : List Byte := [byteOf p.latch.lane, placeByte p.latch.depth p.latch.group p.latch.cls]

/-- LOAD: the values held for the boundary just past (R21, R60). -/
def Part.loadPayload (p : Part) : List Byte :=
  Part.placePayload p
    ++ [byteOf p.share.demand, byteOf p.share.draw, byteOf (plannerModeCode p.share.mode * 16 + p.share.urgency)]

/-- The bay record's coach number; 0 when no identity is held. -/
def Part.coachNumber (p : Part) : Nat := match p.bay.identity with
  | some d => d.coach
  | none => 0

/-- M in a field of `width` bits; the lowest value of the field when no roster copy is held. -/
def minutesField (width : Nat) : Option Int → Nat
  | some m => twosComplement width m
  | none => 2 ^ (width - 1)

/-- BAYSTATE byte 12: the flags. -/
def Part.bayFlags (p : Part) : Nat :=
  decoupleFlagCode p.bay.decoupleFlag * 16 + revocationCode p.bay.revocation * 4 + p.bay.lanePass.toNat * 2
    + p.bay.window.toNat

/-- BAYSTATE (R21, R175). -/
def Part.baystatePayload (p : Part) : List Byte :=
  Part.placePayload p ++ [byteOf (bayStateCode p.bay.state)] ++ bytesOf (Part.coachNumber p)
    ++ bytesOf (reasonsCode p.bay.reasons) ++ bytesOf (remarksCode p.remarks)
    ++ bytesOf (minutesField 16 (Part.minutesToDeparture p)) ++ [byteOf p.orders.dropped, byteOf (Part.bayFlags p)]

/-! ## The fault list in its order (R160) -/

/-- An entry of the fault list. -/
inductive FaultEntry where
  | coach (e : CoachEntry)
  | bay (e : BayEntry)
  deriving DecidableEq, Repr

/-- The entries of one class: COACH before BAY. -/
def Faults.ofClass (f : Faults) (c : FaultClass) : List FaultEntry :=
  (f.coach.filter fun e => e.cls == c).map FaultEntry.coach ++ (f.bay.filter fun e => e.cls == c).map FaultEntry.bay

/-- The fault list in its order: BLOCK, WARN, INFO. COACH entries stand in ascending coach order within a class and BAY
entries in ascending position, as `Faults` holds them. -/
def Faults.listed (f : Faults) : List FaultEntry :=
  Faults.ofClass f .block ++ Faults.ofClass f .warn ++ Faults.ofClass f .info

/-! ## REPORT items -/

/-- The kind and content of an item; the content is filled up with 0 to ten bytes (R197). -/
structure Item where
  kind    : Nat
  content : List Byte
  deriving DecidableEq, Repr

/-- Fills a list up to `n` bytes. -/
def padded (n : Nat) (bs : List Byte) : List Byte := (bs ++ List.replicate n 0).take n

/-- OUTCOME. -/
def outcomeItem (j : Job) : Item where
  kind    := 0
  content := [j.kind, byteOf (outcomeCode j.outcome), byteOf (reasonCode j.outcome)]

/-- SUMMARY. -/
def Part.summaryItem (p : Part) : Item where
  kind    := 1
  content :=
    [byteOf (chainStatusCode p.measure.chain * 64 + p.link.holdConfirmed.toNat * 32
      + linkStateCode p.link.state * 8 + bayStateCode p.bay.state)]
    ++ bytesOf (Part.coachNumber p)
    ++ bytesOf ((p.heat.ceiling == 56).toNat * 32768 + sweepCode p.sweep.status * 2048 + reasonsCode p.bay.reasons)
    ++ bytesOf (p.heat.duty * 512 + remarksCode p.remarks)
    ++ bytesOf (opStatusCode p.faults.status * 4096 + minutesField 12 (Part.minutesToDeparture p))
    ++ [byteOf p.share.ga]

/-- LAMP, for a fitted position. -/
def Part.lampItem (p : Part) (l : Lamp) : Item where
  kind    := 2
  content :=
    let fit := l.fit.getD (.filament, 0)
    [byteOf (verdictCode l.verdict * 32 + (fit.1 == .led).toNat * 16 + l.position)]
    ++ bytesOf fit.2 ++ bytesOf (l.reading.getD 65535) ++ bytesOf (l.minute.getD 65535)
    ++ [byteOf (sweepCode p.sweep.status)]

/-- FAULT bytes 0 to 7 of a COACH entry. -/
def coachEntryBytes (e : CoachEntry) : List Byte :=
  bytesOf (e.record.age.isSome.toNat * 32768 + faultStateCode e.record.state * 8192 + classCode e.cls * 2048
    + e.firstRead)
  ++ bytesOf (e.record.system * 4096 + e.record.code) ++ [byteOf e.record.count]
  ++ bytesOf (e.record.age.getD 0) ++ [byteOf e.record.order]

/-- FAULT bytes 0 to 7 of a BAY entry: state ACTIVE, system 14, count 1. -/
def bayEntryBytes (e : BayEntry) : List Byte :=
  bytesOf (faultStateCode .active * 8192 + classCode e.cls * 2048 + e.firstRead)
  ++ bytesOf (14 * 4096 + e.position) ++ [byteOf 1] ++ bytesOf e.reading ++ [byteOf e.position]

/-- FAULT. -/
def Part.faultItem (p : Part) (e : FaultEntry) : Item where
  kind    := 3
  content := (match e with
    | .coach c => coachEntryBytes c
    | .bay b => bayEntryBytes b) ++ [byteOf p.faults.lastRejected, byteOf p.faults.lastDropped]

/-- PEER. The bay state bits are 0 when the bay state is absent (notes/assumptions/29). The age since last heard is in whole seconds,
rounded down, and 179 at most: the model's choice (notes/assumptions/42). -/
def Part.peerItem (p : Part) (e : Peer) : Item where
  kind    := 4
  content :=
    let load := e.load.getD { demand := 0, draw := 0, urgency := 0 }
    [byteOf e.station, placeByte e.depth e.group e.cls, byteOf e.lane,
      byteOf ((e.status == .ghost).toNat * 128 + e.bayState.isSome.toNat * 64 + e.load.isSome.toNat * 32
        + match e.bayState with
          | some s => bayStateCode s
          | none => 0),
      byteOf load.demand, byteOf load.draw, byteOf load.urgency,
      byteOf (min 179 ((p.osc - e.lastHeard) / oneSecond))]

/-- A reading field: the value computed from the ring whatever its cause, 0 when the cause is NO READING (section 13.3), and 0
too when the cause is SHORT or OPEN and the ring is empty (notes/assumptions/28). -/
def readingField (c : Channel) : Nat :=
  causeCode (Channel.cause c) * 2048
    + if Channel.cause c = .noReading then 0 else twosComplement 11 ((Channel.reading c).getD 0)

/-- PLAN. -/
def Part.planItem (p : Part) : Item where
  kind    := 5
  content :=
    [byteOf (p.plan.target.getD 0), byteOf (p.plan.lead.getD 255)]
    ++ bytesOf ((p.plan.basis == .fixed).toNat * 32768 + watchCode p.plan.watch * 8192
      + plannerModeCode p.plan.mode * 2048 + p.plan.start.getD 2047)
    ++ [byteOf (p.plan.begun.toNat * 128 + p.plan.frost.toNat * 64 + p.plan.demand),
      byteOf (p.remarks.cabinSensor.toNat * 128 + p.plan.clearanceCold.toNat * 64 + p.plan.planCold.toNat * 32
        + p.plan.maintain.toNat * 16 + p.plan.urgency)]
    ++ bytesOf (p.remarks.outsideSensor.toNat * 16384 + readingField p.measure.cabin)
    ++ bytesOf (readingField p.measure.outside)

/-- COUNTERS. -/
def Part.countersItem (p : Part) : Item where
  kind    := 6
  content := bytesOf p.line.corrupt
    ++ [byteOf (p.line.muted.isSome.toNat * 128 + p.line.faults), byteOf p.orders.dropped, byteOf p.orders.jobs.length]

/-- NONE: the collection was empty when the total was fixed. -/
def noneItem : Item := { kind := 7, content := [] }

/-- GONE: the collection has no member that stands there. -/
def goneItem : Item := { kind := 8, content := [] }

/-- ROSTER. -/
def Part.rosterItem (p : Part) (e : RosterEntry) : Item where
  kind    := 9
  content := bytesOf e.coach ++ bytesOf e.departure ++ [byteOf e.target] ++ bytesOf e.run
    ++ bytesOf (twosComplement 16 (minutesTo p.clock.minute e.departure))

/-- The members that a SHOW kind reports, in the collection's order, each as its item (R195). -/
def Part.membersOf (p : Part) : ShowKind → List Item
  | .summary => [Part.summaryItem p]
  | .lamps => (p.lamps.filter fun l => l.fit.isSome).map (Part.lampItem p)
  | .faults => (Faults.listed p.faults).map (Part.faultItem p)
  | .peers => p.peers.entries.map (Part.peerItem p)
  | .plan => [Part.planItem p]
  | .counters => [Part.countersItem p]
  | .roster => p.cache.entries.map (Part.rosterItem p)

/-- The SHOW kind whose items a job reports. A job whose order was refused or was no SHOW has one item, its outcome. -/
def Job.shown (j : Job) : Option ShowKind :=
  match j.outcome with
  | .taken => j.show?
  | _ => none

/-- The job once its item total is fixed, at the composition of its first item (R195). -/
def Part.fixTotal (p : Part) (j : Job) : Job :=
  match j.total, Job.shown j with
  | some _, _ => j
  | none, some k =>
    let n := (Part.membersOf p k).length
    { j with total := some (max 1 n), bare := n == 0 }
  | none, none => { j with total := some 1 }

/-- The item at a job's cursor, its total fixed (R195). -/
def Part.itemOf (p : Part) (j : Job) : Item :=
  match Job.shown j with
  | some k => if j.bare then noneItem else (Part.membersOf p k)[j.cursor]?.getD goneItem
  | none => outcomeItem j

/-- The payload of a REPORT for a job whose total is fixed (section 13.1). -/
def Part.reportPayload (p : Part) (j : Job) : List Byte :=
  let item := Part.itemOf p j
  [byteOf j.sender.toNat, j.tag, byteOf j.cursor, byteOf (j.total.getD 1), byteOf item.kind] ++ padded 10 item.content

end Sys2Proof.Machine
end

