-- ==== Sys2Proof/Machine/YardLine.lean ====
section
/-! DEFINITION. Chapter 2: the commands of the yard line interface, and the TIME, ASK and REPORT frames. -/

namespace Sys2Proof.Machine

/-! ## Starting a frame (R16, R20, R21) -/

/-- The first pending kind of lowest code; ASK counts only while the cache wants a number (R20). -/
def Part.nextKind (p : Part) : Option SendKind :=
  if p.line.flags.shed then some .shed
  else if p.line.flags.load then some .load
  else if p.line.flags.baystate then some .baystate
  else if p.line.flags.ask && p.cache.want.isSome then some .ask
  else if Part.reportPending p then some .report
  else none

/-- Whether the choice passes over ASK, whose flag is cleared without a frame (R20). -/
def Part.passesAsk (p : Part) : Bool :=
  !p.line.flags.shed && !p.line.flags.load && !p.line.flags.baystate && p.line.flags.ask && p.cache.want.isNone

/-- The head job's total is fixed at the composition of its first item (R195). -/
def fixHeadTotal (p : Part) : Part :=
  match p.orders.jobs with
  | j :: js => { p with orders := { p.orders with jobs := Part.fixTotal p j :: js } }
  | [] => p

/-- The payload of a kind, composed from the owners' state now (R21). -/
def Part.compose (p : Part) : SendKind → List Byte
  | .shed => Part.shedPayload p
  | .load => Part.loadPayload p
  | .baystate => Part.baystatePayload p
  | .ask => bytesOf (p.cache.want.getD 0)
  | .report => match p.orders.jobs with
    | j :: _ => Part.reportPayload p j
    | [] => []

/-- The station drives its start bit. -/
def beginFrame (k : SendKind) (p : Part) : Part :=
  let p := if k = .report then fixHeadTotal p else p
  { p with line := { p.line with
      tx := some { kind := k, payload := Part.compose p k, start := p.osc }
      receiving := none } }

/-- Whether R16 lets the station begin after a quiet gap: it neither transmits nor is MUTED, and the frame that it lost to or
abandoned is no longer on the line. Two points are the model's choice: 11 recessive bits inside that frame are no quiet gap at which
the station may begin, only those after its end are (R13, R28, notes/assumptions/40), and a frame abandoned at its start bit counts as
on the line until a frame has ended (notes/assumptions/38). -/
def Part.mayBegin (p : Part) : Bool := p.line.tx.isNone && p.line.muted.isNone && p.line.receiving.isNone

/-- A point at which R16 lets the station begin. The start bit is driven at any microsecond past the quiet gap: that the bit times of
an idle line have no phase that a request raised later must meet is the model's choice (notes/assumptions/39). -/
def attemptStarts (p : Part) : Part :=
  if !Part.mayBegin p then p
  else
    let next := Part.nextKind p
    let p := if Part.passesAsk p then { p with line := { p.line with flags := { p.line.flags with ask := false } } } else p
    match next with
    | some k => beginFrame k (advanceTo (p.line.quietFrom + quietGap) p)
    | none => p

/-- FRAME_ATTEMPT_START (R16, R20). -/
def execFrameAttemptStart (s : State) : Host.Outcome State Fault Refusal := act attemptStarts s

/-! ## The end of an attempt -/

/-- Contention is lost at an arbitration bit that the station drove recessive (R17). -/
def arbitrationIsLost (bit : Fin 9) (p : Part) : Part :=
  match p.line.tx with
  | some t =>
    if (Part.drivenBits p t)[bit.val + 1]? = some true then attemptEnds t (bitRead t (bit.val + 1) p) else p
  | none => p

/-- ARBITRATION_LOST (R17). -/
def execArbitrationLost (bit : Fin 9) (s : State) : Host.Outcome State Fault Refusal := act (arbitrationIsLost bit) s

/-- Whether a read-back difference at a bit of the frame is a transmit fault: any difference after the arbitration value,
and a recessive level where the station drove dominant in the start bit or the arbitration value (R18). -/
def faultAt (bits : List Bool) (bit : Nat) : Bool :=
  match bits[bit]? with
  | some driven => 10 ≤ bit || !driven
  | none => false

/-- A transmit fault (R18, R26). -/
def transmitFaults (bit : Nat) (p : Part) : Part :=
  match p.line.tx with
  | some t =>
    if faultAt (Part.drivenBits p t) bit then countFault (attemptEnds t (bitRead t bit p)) else p
  | none => p

/-- TRANSMIT_FAULT (R26). -/
def execTransmitFault (bit : Nat) (s : State) : Host.Outcome State Fault Refusal := act (transmitFaults bit) s

/-- MUTED ends (R27): the fault count returns to 0 and the share unit is told. -/
def mutedEnds (p : Part) : Part :=
  match p.line.muted with
  | some t =>
    let p := advanceTo t p
    { p with line := { p.line with muted := none, faults := 0 }, share := { p.share with mutedHeld := false } }
  | none => p

/-- MUTED_END (R27). -/
def execMutedEnd (s : State) : Host.Outcome State Fault Refusal := act mutedEnds s

/-! ## Completions (R23) -/

/-- SHED_COMPLETE (R23, R66). -/
def execShedComplete (s : State) : Host.Outcome State Fault Refusal := act (completion .shed fun _ p => p) s

/-- The completion notice of a LOAD may set the claim time (R53). -/
def loadNotice (t : Transmission) (p : Part) : Part :=
  let claim := if p.share.claim.isNone && t.payload[2]? == some (byteOf p.share.demand) then some p.osc
    else p.share.claim
  { p with
    share := { p.share with claim := claim }
    line := { p.line with loadRefresh := some (p.osc + loadRefreshPeriod) } }

/-- LOAD_COMPLETE (R23, R24, R53). -/
def execLoadComplete (s : State) : Host.Outcome State Fault Refusal := act (completion .load loadNotice) s

/-- The completion of a BAYSTATE restarts its refresh timer (R24). -/
def baystateNotice (_ : Transmission) (p : Part) : Part :=
  { p with line := { p.line with baystateRefresh := some (p.osc + baystateRefreshPeriod) } }

/-- BAYSTATE_COMPLETE (R23, R24). -/
def execBaystateComplete (s : State) : Host.Outcome State Fault Refusal := act (completion .baystate baystateNotice) s

/-- ASK_COMPLETE (R23). -/
def execAskComplete (s : State) : Host.Outcome State Fault Refusal := act (completion .ask fun _ p => p) s

/-- Whether a REPORT as sent is an outcome item that carries PENDING (section 13.3). -/
def carriesPending (payload : List Byte) : Bool := payload[4]? == some 0 && payload[6]? == some 1

/-- The outcome item of a revocation order's job has gone out PENDING (R193): the revocation still runs, or it has ended
while the frame was in flight and the final outcome follows in a job of its own, where the queue has room. -/
def pendingSent (j : Job) (p : Part) : Part :=
  if j.outcome = .pending then
    { p with orders := { p.orders with
        revocation := p.orders.revocation.map fun r => { r with sent := true } } }
  else if p.orders.jobs.length < jobLimit then queueJob (followUp j.tag j.sender j.outcome) p
  else p

/-- The completion of a REPORT: the head job's cursor advances, and the job is removed after its last item (R194). -/
def reportNotice (t : Transmission) (p : Part) : Part :=
  match p.orders.jobs with
  | j :: js =>
    if j.cursor + 1 < j.total.getD 1 then
      { p with orders := { p.orders with jobs := { j with cursor := j.cursor + 1 } :: js } }
    else
      let p := { p with orders := { p.orders with jobs := js } }
      if carriesPending t.payload then pendingSent j p else p
  | [] => p

/-- REPORT_COMPLETE (R23, R194). -/
def execReportComplete (s : State) : Host.Outcome State Fault Refusal := act (completion .report reportNotice) s

/-! ## Refresh timers (R24) -/

/-- The LOAD refresh timer expires: it raises LOAD and stops. -/
def loadRefreshExpires (p : Part) : Part :=
  match p.line.loadRefresh with
  | some t => raise .load (advanceTo t { p with line := { p.line with loadRefresh := none } })
  | none => p

/-- LOAD_REFRESH_EXPIRY (R24). -/
def execLoadRefreshExpiry (s : State) : Host.Outcome State Fault Refusal := act loadRefreshExpires s

/-- The BAYSTATE refresh timer expires: it raises BAYSTATE and stops. -/
def baystateRefreshExpires (p : Part) : Part :=
  match p.line.baystateRefresh with
  | some t => raise .baystate (advanceTo t { p with line := { p.line with baystateRefresh := none } })
  | none => p

/-- BAYSTATE_REFRESH_EXPIRY (R24). -/
def execBaystateRefreshExpiry (s : State) : Host.Outcome State Fault Refusal := act baystateRefreshExpires s

/-! ## Frames received -/

/-- A corrupt frame ends on the line (R28). A frame that is not corrupt is no such event. -/
def corruptFrameEnds (f : RawFrame) (p : Part) : Part :=
  if RawFrame.corrupt f && p.line.tx.isNone then countCorrupt (frameEnds (frameBitCount f.length.toNat) p) else p

/-- CORRUPT_FRAME (R28). -/
def execCorruptFrame (f : RawFrame) (s : State) : Host.Outcome State Fault Refusal := act (corruptFrameEnds f) s

/-- TIME_FRAME (R8, R31): taken from any sender but the own number. -/
def execTimeFrame (sender : StationNo) (t : TimePayload) (s : State) : Host.Outcome State Fault Refusal :=
  act (receive sender 3 (takeTime t)) s

/-- ASK_FRAME (R31): ignored. -/
def execAskFrame (sender : StationNo) (_coach : Word16) (s : State) : Host.Outcome State Fault Refusal :=
  act (receive sender 2 id) s

/-- REPORT_FRAME (R31): ignored. -/
def execReportFrame (sender : StationNo) (_payload : List Byte) (s : State) : Host.Outcome State Fault Refusal :=
  act (receive sender 15 id) s

end Sys2Proof.Machine
end

