-- ==== Sys2Proof/Machine/Dispatch.lean ====
section
/-! DEFINITION. One arm for each command: the meaning it calls. -/

namespace Sys2Proof.Machine

/-- The effect of a command on everything but the queue. -/
def exec (i : Instr) (s : State) : Host.Outcome State Fault Refusal :=
  match i with
  -- chapter 1: station identity and time
  | .startUp straps => Sys2Proof.Machine.execStartUp straps s
  | .resetAsserted => Sys2Proof.Machine.execResetAsserted s
  | .secondEnd => Sys2Proof.Machine.execSecondEnd s
  | .timeSilenceExpiry => Sys2Proof.Machine.execTimeSilenceExpiry s
  | .timeFrame sender payload => Sys2Proof.Machine.execTimeFrame sender payload s
  -- chapter 2: the yard line
  | .frameAttemptStart => Sys2Proof.Machine.execFrameAttemptStart s
  | .arbitrationLost bit => Sys2Proof.Machine.execArbitrationLost bit s
  | .transmitFault bit => Sys2Proof.Machine.execTransmitFault bit s
  | .mutedEnd => Sys2Proof.Machine.execMutedEnd s
  | .shedComplete => Sys2Proof.Machine.execShedComplete s
  | .loadComplete => Sys2Proof.Machine.execLoadComplete s
  | .baystateComplete => Sys2Proof.Machine.execBaystateComplete s
  | .askComplete => Sys2Proof.Machine.execAskComplete s
  | .reportComplete => Sys2Proof.Machine.execReportComplete s
  | .loadRefreshExpiry => Sys2Proof.Machine.execLoadRefreshExpiry s
  | .baystateRefreshExpiry => Sys2Proof.Machine.execBaystateRefreshExpiry s
  | .corruptFrame frame => Sys2Proof.Machine.execCorruptFrame frame s
  -- chapters 3 and 4: peers, lanes and the shore supply
  | .shedFrame sender payload => Sys2Proof.Machine.execShedFrame sender payload s
  | .loadFrame sender payload => Sys2Proof.Machine.execLoadFrame sender payload s
  | .baystateFrame sender payload => Sys2Proof.Machine.execBaystateFrame sender payload s
  | .askFrame sender coach => Sys2Proof.Machine.execAskFrame sender coach s
  | .reportFrame sender payload => Sys2Proof.Machine.execReportFrame sender payload s
  | .peerAgeing60s station => Sys2Proof.Machine.execPeerAgeing60s station s
  | .ghostAgeing180s station => Sys2Proof.Machine.execGhostAgeing180s station s
  | .shedLockEnd => Sys2Proof.Machine.execShedLockEnd s
  -- chapters 5 and 6: the heat frame and measurement
  | .heatFrameBoundary => Sys2Proof.Machine.execHeatFrameBoundary s
  | .selfTestCountExpiry => Sys2Proof.Machine.execSelfTestCountExpiry s
  | .stepStart => Sys2Proof.Machine.execStepStart s
  | .refloConversionEnd code => Sys2Proof.Machine.execRefloConversionEnd code s
  | .refhiConversionEnd code => Sys2Proof.Machine.execRefhiConversionEnd code s
  | .temperatureConversionEnd code => Sys2Proof.Machine.execTemperatureConversionEnd code s
  | .lampConversionEnd code => Sys2Proof.Machine.execLampConversionEnd code s
  -- chapter 8: the coach link
  | .ping => Sys2Proof.Machine.execPing s
  | .ident => Sys2Proof.Machine.execIdent s
  | .hold => Sys2Proof.Machine.execHold s
  | .release => Sys2Proof.Machine.execRelease s
  | .lamps => Sys2Proof.Machine.execLamps s
  | .fcount => Sys2Proof.Machine.execFcount s
  | .fread => Sys2Proof.Machine.execFread s
  | .fclear => Sys2Proof.Machine.execFclear s
  | .idle => Sys2Proof.Machine.execIdle s
  | .wait => Sys2Proof.Machine.execWait s
  | .data word => Sys2Proof.Machine.execData word s
  | .last word => Sys2Proof.Machine.execLast word s
  | .ack => Sys2Proof.Machine.execAck s
  | .refuse reason => Sys2Proof.Machine.execRefuse reason s
  | .garbledWord word => Sys2Proof.Machine.execGarbledWord word s
  | .waitCountExpiry => Sys2Proof.Machine.execWaitCountExpiry s
  | .recoveryEnd => Sys2Proof.Machine.execRecoveryEnd s
  | .startTimerExpiry => Sys2Proof.Machine.execStartTimerExpiry s
  | .lostPingTimerExpiry => Sys2Proof.Machine.execLostPingTimerExpiry s
  | .keepAliveExpiry => Sys2Proof.Machine.execKeepAliveExpiry s
  -- chapter 9: the lamp sweep
  | .settleTimerExpiry => Sys2Proof.Machine.execSettleTimerExpiry s
  -- chapter 11: rosters and departure clearance
  | .rosterFrame sender payload => Sys2Proof.Machine.execRosterFrame sender payload s
  | .rosterCancel sender coach => Sys2Proof.Machine.execRosterCancel sender coach s
  | .askCountExpiry => Sys2Proof.Machine.execAskCountExpiry s
  | .coupleSenseRise => Sys2Proof.Machine.execCoupleSenseRise s
  | .decouple => Sys2Proof.Machine.execDecouple s
  | .departButtonPress => Sys2Proof.Machine.execDepartButtonPress s
  | .holdRetryExpiry => Sys2Proof.Machine.execHoldRetryExpiry s
  | .clearanceCountExpiry => Sys2Proof.Machine.execClearanceCountExpiry s
  | .tooEarlyOverlayEnd => Sys2Proof.Machine.execTooEarlyOverlayEnd s
  | .sounderRunEnd => Sys2Proof.Machine.execSounderRunEnd s
  -- chapter 12: orders
  | .orderSweep order => Sys2Proof.Machine.execOrderSweep order s
  | .orderReadfaults order => Sys2Proof.Machine.execOrderReadfaults order s
  | .orderClearstored order => Sys2Proof.Machine.execOrderClearstored order s
  | .orderHold order => Sys2Proof.Machine.execOrderHold order s
  | .orderUnhold order => Sys2Proof.Machine.execOrderUnhold order s
  | .orderLanepass order => Sys2Proof.Machine.execOrderLanepass order s
  | .orderBayreset order => Sys2Proof.Machine.execOrderBayreset order s
  | .orderBadKind order kind => Sys2Proof.Machine.execOrderBadKind order kind s
  | .showSummary order => Sys2Proof.Machine.execShowSummary order s
  | .showLamps order => Sys2Proof.Machine.execShowLamps order s
  | .showFaults order => Sys2Proof.Machine.execShowFaults order s
  | .showPeers order => Sys2Proof.Machine.execShowPeers order s
  | .showPlan order => Sys2Proof.Machine.execShowPlan order s
  | .showCounters order => Sys2Proof.Machine.execShowCounters order s
  | .showRoster order => Sys2Proof.Machine.execShowRoster order s

end Sys2Proof.Machine
end

