-- ==== Sys2Proof/Machine/Outputs.lean ====
section
/-! DEFINITION. The output pins that follow from the state (R1, R4, R188, R189): beacon, sounder, heater drive, link clock,
and the level the station drives on the yard line. -/

namespace Sys2Proof.Machine

/-- The three beacon lamps. -/
structure Beacon where
  red   : Bool := false
  amber : Bool := false
  green : Bool := false
  deriving DecidableEq, Repr

/-- Whether a pattern of equal on and off phases, begun in its on phase, is in an on phase. -/
def onPhase (begun now half : Moment) : Bool := (now - begun) / half % 2 == 0

/-- The base pattern of a bay state (R188). -/
def basePattern (state : BayState) (begun now : Moment) : Beacon :=
  match state with
  | .empty => {}
  | .coupled => { amber := true }
  | .standby => { amber := true }
  | .prepare => { amber := onPhase begun now oneSecond }
  | .ready => { green := onPhase begun now oneSecond }
  | .held => { red := true }
  | .releasing => { green := onPhase begun now quarterSecond }
  | .cleared => { green := true }

/-- The beacon (R4, R188): NUMBER_CLASH over the too-early overlay, and that over the base pattern. -/
def Part.beacon (p : Part) : Beacon :=
  match p.mode with
  | .inactive => {}
  | .strapFault => { red := onPhase 0 p.osc quarterSecond }
  | .normal =>
    match p.bay.clashFrom, p.bay.tooEarly with
    | some t, _ => if onPhase t p.osc halfSecond then { red := true } else { amber := true }
    | none, some t => { amber := onPhase t p.osc quarterSecond }
    | none, none => basePattern p.bay.state p.bay.patternFrom p.osc

/-- The sounder (R189). -/
def Part.sounder (p : Part) : Bool :=
  match p.mode, p.bay.chirps with
  | .normal, some c => onPhase c.start p.osc quarterSecond
  | _, _ => false

/-- The heater drive (R75). -/
def Part.heater (p : Part) : Bool := p.mode = .normal && p.heat.pin

/-- Whether the link clock is driven (R123). -/
def Part.linkClock (p : Part) : Bool := p.mode = .normal && p.link.state != .down

/-- Whether the station drives the yard line dominant: the bit of its frame that stands now is a 0 (R13). -/
def Part.drivesDominant (p : Part) : Bool :=
  match p.mode, p.line.tx with
  | .normal, some t => (Part.drivenBits p t)[(p.osc - t.start) / bitTime]? == some false
  | _, _ => false

end Sys2Proof.Machine
end

