-- ==== Sys2Proof/Safety.lean ====
section
/-! DEFINITION. What the manual says holds of the part at all times, the frames of commands: what a command leaves as it was,
block by block, and the words of the statements. -/

namespace Sys2Proof.Machine

/-! ## Invariants -/

/-- A list in strictly ascending order of a key. -/
def strictlyRising : List Nat → Bool
  | a :: b :: rest => a < b && strictlyRising (b :: rest)
  | _ => true

/-- The minute clock holds a minute of day and a second (section 1.3); the silence timer runs exactly while the status is
VALID (R7). -/
def ClockInv (p : Part) : Prop :=
  p.clock.minute < 1440 ∧ p.clock.second < 60 ∧ (p.clock.silence.isSome ↔ p.clock.status = .valid)

/-- The yard line interface: the corrupt frame counter is at most 65535 (R28); the station is MUTED exactly while the fault
count is 16, and transmits nothing then (R26, R27); the share unit's notice follows (R61). -/
def LineInv (p : Part) : Prop :=
  p.line.corrupt ≤ 65535 ∧ p.line.faults ≤ 16
    ∧ (p.line.muted.isSome ↔ p.line.faults = 16)
    ∧ (p.share.mutedHeld = true ↔ p.line.muted.isSome)
    ∧ (p.line.muted.isSome → p.line.tx = none)

/-- The peer table (R33): at most 31 entries in ascending order of station number, so at most one a station, never the own
number, and only peers of the own group or the own non-zero lane. Peer overflow, its remark and the share unit's notice agree
(R39, R61). -/
def PeerInv (p : Part) : Prop :=
  p.peers.entries.length ≤ peerLimit
    ∧ strictlyRising (p.peers.entries.map (·.station)) = true
    ∧ (∀ e ∈ p.peers.entries, validStation e.station = true ∧ e.station ≠ p.latch.station
        ∧ (e.group = p.latch.group ∨ (e.lane = p.latch.lane ∧ p.latch.lane ≠ 0)))
    ∧ p.share.overflowHeld = p.peers.overflow
    ∧ p.remarks.peerOverflow = p.peers.overflow

/-- The remarks of the peer table say what they stand for (R44, R46). -/
def PeerRemarkInv (p : Part) : Prop :=
  p.remarks.feederMismatch = (Part.feederLimitInUse p != Part.ownLimit p)
    ∧ p.remarks.laneClash = Part.laneClashes p

/-- The applied grant never exceeds min(Ih, A), and is 0 in EMPTY, COUPLED and CLEARED and without an identity (R57). -/
def GrantInv (p : Part) : Prop :=
  p.share.ga ≤ p.share.aInForce
    ∧ p.share.ga ≤ (Part.heaterCurrent p).getD 0
    ∧ (zeroGrantState p.bay.state = true → p.share.ga = 0)

/-- From an immediate zero to the next boundary grant, duty and pin stay at 0 (R67, R77, R78). -/
def ZeroInv (p : Part) : Prop :=
  p.share.zeroed = true → p.share.ga = 0 ∧ p.heat.duty = 0 ∧ p.heat.shadow = 0 ∧ p.heat.pin = false

/-- The duty in force satisfies duty × Ih ≤ 64 × Ga and never exceeds the ceiling in force: 62, or 56 while a sweep is
running (R76). The shadow is the duty in force between boundaries (R74). It is 0 without an identity (R83). The heater pin is
active only in an on step of the duty in force (R75). -/
def DutyInv (p : Part) : Prop :=
  (p.heat.ceiling = 62 ∨ p.heat.ceiling = 56)
    ∧ (p.heat.sweepRunning = true → p.heat.ceiling = 56)
    ∧ p.heat.duty ≤ p.heat.ceiling
    ∧ p.heat.shadow = p.heat.duty
    ∧ p.heat.duty * (Part.heaterCurrent p).getD 0 ≤ 64 * p.share.ga
    ∧ (Part.heaterCurrent p = none → p.heat.duty = 0)
    ∧ p.heat.step ≤ 63
    ∧ (p.heat.pin = true → p.heat.phase = .on ∧ p.heat.step < p.heat.duty)

/-- The hold-reason set is non-empty in HELD, and empty in READY, RELEASING and CLEARED, and in EMPTY and COUPLED (R178,
R179). -/
def ReasonInv (p : Part) : Prop :=
  match p.bay.state with
  | .held => Reasons.any p.bay.reasons = true
  | .ready | .releasing | .cleared | .empty | .coupled => Reasons.any p.bay.reasons = false
  | .standby | .prepare => True

/-- Whenever the bay is RELEASING or CLEARED, the fault list holds no BLOCK entry and no fitted lamp is LOW, HIGH or UNKNOWN
(R183); no operation of the fault list runs there and no sweep does (R145, R161). -/
def ClearanceInv (p : Part) : Prop :=
  closedToChecks p.bay.state = true →
    (∀ e ∈ p.faults.coach, e.cls ≠ .block)
      ∧ (∀ e ∈ p.faults.bay, e.cls ≠ .block)
      ∧ (∀ l ∈ p.lamps, l.fit.isSome → l.verdict ≠ .low ∧ l.verdict ≠ .high ∧ l.verdict ≠ .unknown)
      ∧ p.faults.status = .idle
      ∧ SweepStatus.isRunning p.sweep.status = false

/-- The class of the BAY entry that a lamp's verdict stands for (R152). -/
def Lamp.bayClass (l : Lamp) : Option FaultClass := if l.fit.isSome then instructionOf l.verdict else none

/-- A BAY entry of class BLOCK exists for exactly the fitted lamps whose verdict is LOW or HIGH, and one of class WARN for
exactly those whose verdict is FLICKER (R152). Without an identity no lamp is fitted (R142). -/
def BayEntryInv (p : Part) : Prop :=
  p.faults.bay.map (fun e => (e.position, e.cls))
      = p.lamps.filterMap (fun l => (Lamp.bayClass l).map fun c => (l.position, c))
    ∧ (p.bay.identity = none → p.lamps = clearedLamps)

/-- The place of a class in the fault list: BLOCK, then WARN, then INFO (R160). -/
def FaultClass.rank : FaultClass → Nat
  | .block => 0
  | .warn => 1
  | .info => 2

/-- The class of an entry of the fault list. -/
def FaultEntry.cls : FaultEntry → FaultClass
  | .coach e => e.cls
  | .bay e => e.cls

/-- The order of the fault list (R160): by class; within a class COACH before BAY; COACH entries by coach order, BAY entries by
lamp position. -/
def FaultEntry.before (a b : FaultEntry) : Bool :=
  FaultClass.rank (FaultEntry.cls a) < FaultClass.rank (FaultEntry.cls b)
    || (FaultEntry.cls a == FaultEntry.cls b && match a, b with
        | .coach x, .coach y => x.record.order < y.record.order
        | .coach _, .bay _ => true
        | .bay _, .coach _ => false
        | .bay x, .bay y => x.position < y.position)

/-- The fault list holds at most 24 COACH entries, no two of one key (R160), each of the class of its record (R159), and no
two staged records have one key (R162). FAULTS_TRUNCATED is set exactly while the last read dropped a record (R163). The list
as reported, and its entries as they are held, stand in the order of R160; the staging set stands in coach order, below the
index being read, and holds something in READING alone (R157, R162). The lamp table has its sixteen positions in order
(R142). -/
def FaultListInv (p : Part) : Prop :=
  p.faults.coach.length ≤ coachLimit
    ∧ p.faults.coach.Pairwise (fun a b => Staged.sameKey a.record b.record = false)
    ∧ (∀ e ∈ p.faults.coach, e.cls = classOf e.record)
    ∧ p.faults.staging.Pairwise (fun a b => Staged.sameKey a b = false)
    ∧ (p.remarks.faultsTruncated = true ↔ 0 < p.faults.lastDropped)
    ∧ (Faults.listed p.faults).Pairwise (fun a b => FaultEntry.before a b = true)
    ∧ (p.faults.coach.map FaultEntry.coach).Pairwise (fun a b => FaultEntry.before a b = true)
    ∧ p.faults.bay.Pairwise (fun a b => a.position < b.position)
    ∧ p.faults.staging.Pairwise (fun a b => a.order < b.order)
    ∧ (∀ r ∈ p.faults.staging, r.order < p.faults.nextIndex.getD 0)
    ∧ (p.faults.status ≠ .reading → p.faults.staging = [])
    ∧ (p.faults.status = .reading → p.faults.nextIndex.isSome)
    ∧ p.lamps.map (·.position) = List.range 16

/-- The roster cache (R171): at most 16 entries, at most one a coach, in ascending order of M, and none with M < −30. -/
def RosterInv (p : Part) : Prop :=
  p.cache.entries.length ≤ rosterLimit
    ∧ p.cache.entries.Pairwise (fun a b => a.coach ≠ b.coach ∧ RosterEntry.before p.clock.minute a b = true)
    ∧ (∀ e ∈ p.cache.entries, e.departure < 1440 ∧ -30 ≤ RosterEntry.minutes p.clock.minute e)

/-- The reply job queue holds at most 4 jobs and the orders-dropped counter at most 255 (R191). -/
def OrderInv (p : Part) : Prop := p.orders.jobs.length ≤ jobLimit ∧ p.orders.dropped ≤ 255

/-- A sweep runs only with the link UP and the chain GOOD, and the heat frame knows of it (R79, R90, R145, R153). -/
def SweepInv (p : Part) : Prop :=
  (SweepStatus.isRunning p.sweep.status = true → p.link.state = .up ∧ p.measure.chain = .good)
    ∧ p.heat.sweepRunning = SweepStatus.isRunning p.sweep.status

/-- The coach link. While it is DOWN no command is in flight (R131). The keeper's slot holds PING, or IDENT in UP (R135).
A command other than PING is in flight only in UP, and one other than IDENT only with identity confirmed there. Identity
and hold are confirmed only in UP (R130, R133). The start timer runs exactly in STARTING (R132), the lost PING timer exactly in
LOST (R134), and the keep-alive timer only in UP (R133). -/
def LinkInv (p : Part) : Prop :=
  (p.link.state = .down → p.link.inFlight = none)
    ∧ (∀ c, p.link.slots.keeper = some c → c.code = .ping ∨ (c.code = .ident ∧ p.link.state = .up))
    ∧ (∀ f, p.link.inFlight = some f → f.command.code ≠ .ping →
        p.link.state = .up ∧ (f.command.code ≠ .ident → p.link.identConfirmed = true))
    ∧ (p.link.identConfirmed = true → p.link.state = .up)
    ∧ (p.link.holdConfirmed = true → p.link.state = .up)
    ∧ (p.link.startTimer.isSome ↔ p.link.state = .starting)
    ∧ (p.link.lostTimer.isSome ↔ p.link.state = .lost)
    ∧ (p.link.keepAlive.isSome → p.link.state = .up)

/-- The link follows couple sense (R131). -/
def CoupleInv (p : Part) : Prop := p.bay.couple = true ↔ p.link.state ≠ .down

/-- The bay record by bay state: couple sense is taken as present exactly outside EMPTY (R176); an identity is held exactly
outside EMPTY and COUPLED, and a roster copy only with an identity; PREPARE, READY and HELD have a roster copy, and from
PREPARE on the clock is not INVALID (R107, R177). -/
def BayInv (p : Part) : Prop :=
  (p.bay.couple = true ↔ p.bay.state ≠ .empty)
    ∧ (p.bay.identity.isSome ↔ p.bay.state ≠ .empty ∧ p.bay.state ≠ .coupled)
    ∧ (p.bay.roster.isSome → p.bay.identity.isSome)
    ∧ (openState p.bay.state = true → p.bay.roster.isSome)
    ∧ (openState p.bay.state = true ∨ closedToChecks p.bay.state = true → p.clock.status ≠ .invalid)

/-- A revocation is DEFERRED only in RELEASING and REQUESTED only in CLEARED (R186), and the order handler holds a revocation
order exactly while one of them stands (R193). The clearance minute count is at most 15 (R175). -/
def RevocationInv (p : Part) : Prop :=
  (p.bay.revocation = .deferred → p.bay.state = .releasing)
    ∧ (p.bay.revocation = .requested → p.bay.state = .cleared)
    ∧ (p.orders.revocation.isSome ↔ p.bay.revocation ≠ .none)
    ∧ p.bay.clearance ≤ 15

/-! ## Frames -/

/-- The blocks of the part, with the remarks set, oscillator time, the mode and the model's free counter. -/
inductive Block where
  | mode | osc | latch | clock | line | peers | share | heat | measure | plan | link | sweep | lamps | faults | cache | bay
  | remarks | orders | free
  deriving DecidableEq, Repr

/-- Two parts hold the same in a block. -/
def agreeOn (p q : Part) : Block → Prop
  | .mode => p.mode = q.mode
  | .osc => p.osc = q.osc
  | .latch => p.latch = q.latch
  | .clock => p.clock = q.clock
  | .line => p.line = q.line
  | .peers => p.peers = q.peers
  | .share => p.share = q.share
  | .heat => p.heat = q.heat
  | .measure => p.measure = q.measure
  | .plan => p.plan = q.plan
  | .link => p.link = q.link
  | .sweep => p.sweep = q.sweep
  | .lamps => p.lamps = q.lamps
  | .faults => p.faults = q.faults
  | .cache => p.cache = q.cache
  | .bay => p.bay = q.bay
  | .remarks => p.remarks = q.remarks
  | .orders => p.orders = q.orders
  | .free => p.free = q.free

/-- Everything outside the blocks named is as it was. -/
def unchangedExcept (blocks : List Block) (p q : Part) : Prop := ∀ b, b ∉ blocks → agreeOn p q b

/-- The blocks that a recomputation of the plan or a clearance evaluation may write. -/
def bayBlocks : List Block := [.bay, .cache, .remarks, .line, .plan, .free, .link, .sweep, .measure, .heat, .faults]

/-! ## Completion -/

/-- The command completes: `exec` answers a next state whose queue is as it was and whose part `post` holds of. -/
def Completes (c : Instr) (s : State) (post : Part → Prop) : Prop :=
  ∃ q : Part, exec c s = .next { s with part := q } ∧ post q

/-- The line after a block has raised a request where `due`: the kind's flag is set, or its re-raise mark while a frame of the
kind is in flight (R19, R22). -/
def Line.raised (k : SendKind) (due : Bool) (l : Line) : Line :=
  if due then
    if l.tx.map (·.kind) = some k then { l with marks := SendFlags.put l.marks k true }
    else { l with flags := SendFlags.put l.flags k true }
  else l

/-- `q` is what a shed check leaves of `p` (R62, R63): where the observed sum exceeds the feeder limit in use, the lock runs
from 60 s; a lock that did not run before makes a halving due and raises SHED. `halving` is whether one was due before the
check. -/
def ShedChecked (halving : Bool) (p q : Part) : Prop :=
  let exceeded := decide (Part.feederLimitInUse q < q.share.draw + Part.peerDraws q)
  q.share.shedLock = (if exceeded then some (q.osc + 60000000) else p.share.shedLock)
    ∧ q.share.halvingDue = (halving || (exceeded && p.share.shedLock.isNone))
    ∧ q.line.flags.shed = (Line.raised .shed (exceeded && p.share.shedLock.isNone) p.line).flags.shed
    ∧ q.line.marks.shed = (Line.raised .shed (exceeded && p.share.shedLock.isNone) p.line).marks.shed

/-- `q` is what the completion of a read leaves of `p` (R163): of the staged records the first 24 in class order, in coach order
within each class, are the COACH entries, each of its class; one whose key a COACH entry of `p` bore keeps its first-read
minute, any other takes the clock's. -/
def ReadInstalled (staged : List Staged) (rejected : Nat) (p q : Part) : Prop :=
  q.faults.coach.map (·.record)
      = ((staged.filter fun r => classOf r == .block) ++ (staged.filter fun r => classOf r == .warn)
          ++ staged.filter fun r => classOf r == .info).take 24
    ∧ (∀ e ∈ q.faults.coach, e.cls = classOf e.record
        ∧ e.firstRead = (match p.faults.coach.find? fun h =>
              h.record.system == e.record.system && h.record.code == e.record.code with
            | some h => h.firstRead
            | none => p.clock.minute))
    ∧ q.faults.bay = p.faults.bay
    ∧ q.faults.lastRead = some { minute := p.clock.minute, dated := p.clock.status != .invalid }
    ∧ q.faults.lastRejected = rejected ∧ q.faults.rejected = rejected ∧ q.faults.lastDropped = staged.length - 24
    ∧ (q.remarks.faultsTruncated = true ↔ 24 < staged.length)
    ∧ q.faults.staging = [] ∧ q.faults.toRead = none ∧ q.faults.nextIndex = none ∧ q.faults.status = .idle
    ∧ q.faults.kind = none

/-- A group has been energised (R146): the sweep waits for the LAMPS that names the group's positions of the pass. -/
def Energised (pass : Pass) (group : Nat) (q : Part) : Prop :=
  q.sweep.status = .running pass (.energising group (maskOf group (Part.passPositions q pass)))
    ∧ q.link.slots.sweep = some { code := .lamps, arg := lampsArg group (maskOf group (Part.passPositions q pass)) }

/-- The sweep has moved on, `from_` being the next group's number (R149, R150): to the pass's lowest group from there on; from
pass 1 to the lowest group with a failed position, in pass 2; or to its ending. -/
def MovedOn (pass : Pass) (from_ : Nat) (q : Part) : Prop :=
  (∀ g, nextGroup (Part.passPositions q pass) from_ = some g → Energised pass g q)
    ∧ (nextGroup (Part.passPositions q pass) from_ = none → pass = .first →
        ∀ g, nextGroup (Part.failed q) 0 = some g → Energised .second g q)
    ∧ (nextGroup (Part.passPositions q pass) from_ = none → pass = .second ∨ nextGroup (Part.failed q) 0 = none →
        q.sweep.status = .running pass .ending ∧ q.link.slots.sweep = some { code := .lamps, arg := 0 })

/-- `q` has the bay back from RELEASING or CLEARED (R184 to R186): HELD, with window and watches kept, where a roster copy is
held; otherwise STANDBY with the window closed (notes/assumptions/32), unless the cache holds the coach's entry. -/
def BayReturned (orderHold releaseRefused : Bool) (p q : Part) : Prop :=
  q.bay.revocation = .none ∧ q.bay.reasons.orderHold = orderHold ∧ q.bay.reasons.releaseRefused = releaseRefused
    ∧ q.bay.reasons.yardHoldRefused = false ∧ q.bay.identity = p.bay.identity
    ∧ (p.bay.state = .cleared → q.remarks.staleClearance = false)
    ∧ (p.bay.roster.isSome → q.bay.state = .held ∧ q.bay.window = p.bay.window ∧ q.bay.roster = p.bay.roster)
    ∧ (p.bay.roster = none → q.bay.window = false ∧ (q.bay.state = .standby ∨ q.bay.state = .held))
    ∧ (p.bay.roster = none → (∀ d, p.bay.identity = some d → ∀ e ∈ p.cache.entries, e.coach ≠ d.coach) →
        q.bay.state = .standby)
    ∧ (p.bay.roster.isSome ∨ q.bay.state = .standby →
        q.bay.readWatch = p.bay.readWatch ∧ q.bay.sweepWatch = p.bay.sweepWatch ∧ q.bay.windowWatch = p.bay.windowWatch)

/-- `q` is what the evaluation of the three watches at M leaves of `p` (R12, R180), `window` being the window before it: read
requested at M ≤ 30 unless one is at most 15 minutes old, sweep at M ≤ 20 unless one is less than 30 minutes old, and the window
open at M ≤ 5, each when first observed. What was requested stands unless the bay has gone on to RELEASING. -/
def WatchesRun (m : Int) (window : Bool) (p q : Part) : Prop :=
  q.bay.readWatch = (evaluateWatch p.bay.readWatch m 30).1 ∧ q.bay.sweepWatch = (evaluateWatch p.bay.sweepWatch m 20).1
    ∧ q.bay.windowWatch = (evaluateWatch p.bay.windowWatch m 5).1
    ∧ q.bay.window = (window || (p.bay.windowWatch == .armed && decide (m ≤ 5)))
    ∧ (q.bay.state ≠ .releasing →
      (if p.bay.readWatch = .armed ∧ m ≤ 30 ∧ (completionAge p.clock.minute p.faults.lastRead).all (15 < ·) = true then
        q.faults = (faultRequest .read p).faults ∧ q.link = (faultRequest .read p).link
      else q.faults = p.faults ∧ q.link = p.link)
      ∧ q.sweep = (if p.bay.sweepWatch = .armed ∧ m ≤ 20
          ∧ (completionAge p.clock.minute p.sweep.last).all (30 ≤ ·) = true then (sweepRequest p).sweep else p.sweep))

/-- `p` at the moment of `q`, with its line past the frame that ended there (the model's choice, notes/assumptions/8) and with the roster cache and the roster copy of `q`. -/
def copySet (p q : Part) : Part :=
  { p with osc := q.osc, line := Part.lineAfter p q.osc, cache := q.cache, bay := { p.bay with roster := q.bay.roster } }

/-- `q` is what the end of a revocation leaves of the jobs of `p` (R193): the pending job takes the final outcome, or, where its
item has gone out PENDING, a job with the final outcome follows while the queue has room. `own` is the job of the order that ends
it, or none; it stands last, and its place is kept free for it (notes/assumptions/13). That the job that follows has the argument 0 is
the model's choice (notes/assumptions/17). -/
def RevocationEnded (final : JobOutcome) (own : List Job) (p q : Part) : Prop :=
  q.orders.revocation = none
    ∧ (p.orders.revocation = none → q.orders.jobs = p.orders.jobs ++ own)
    ∧ (∀ r, p.orders.revocation = some r →
        (r.sent = false → q.orders.jobs = p.orders.jobs.map (fun j =>
          if j.outcome = .pending then { j with outcome := final } else j) ++ own)
        ∧ (r.sent = true → 4 - own.length ≤ p.orders.jobs.length → q.orders.jobs = p.orders.jobs ++ own)
        ∧ (r.sent = true → p.orders.jobs.length < 4 - own.length → q.orders.jobs = p.orders.jobs
            ++ [{ tag := r.tag, kind := 3, argument := 0, sender := r.sender, show? := none, outcome := final }] ++ own))

/-- `q` is what an abort leaves of the sweep of `p` (R98, R153, R154). A running sweep is ABORTED, its settle timer, working verdicts,
marks, lamp conversions and waiting LAMPS are gone, and the lights-off request waits exactly where the cause leaves the link UP
(`lightsOff`). Where none runs, nothing of this changes. -/
def SweepAborted (lightsOff : Bool) (p q : Part) : Prop :=
  q.sweep.last = p.sweep.last
    ∧ (SweepStatus.isRunning p.sweep.status = true →
        q.sweep.status = .aborted ∧ q.sweep.settle = none ∧ q.sweep.work = [] ∧ q.heat.sweepRunning = false
        ∧ q.measure.marks = [] ∧ q.measure.converting.any Conversion.isLamp = false
        ∧ q.measure.ending.any Conversion.isLamp = false
        ∧ (q.sweep.lightsOff = .waiting ↔ lightsOff = true)
        ∧ q.link.slots.sweep = (if lightsOff then some { code := .lamps, arg := 0 } else none))
    ∧ (SweepStatus.isRunning p.sweep.status = false →
        q.sweep.status = p.sweep.status ∧ q.sweep.settle = p.sweep.settle ∧ q.sweep.work = p.sweep.work
        ∧ q.measure.marks = p.measure.marks ∧ (q.sweep.lightsOff = .waiting ↔ p.sweep.lightsOff = .waiting)
        ∧ q.link.slots.sweep = p.link.slots.sweep)

/-- `q` is what a change of the chain status, told or not, leaves of `p` (R90): told, the clearance evaluation follows (R179), after
the abort of a running sweep where the chain has become FAULTY; a status that stays, and one that goes from UNTESTED to FAULTY, is told
to no one. -/
def ChainTold (p q : Part) : Prop :=
  ((p.measure.chain = .good ∧ q.measure.chain = .faulty) ∨ (p.measure.chain ≠ .good ∧ q.measure.chain = .good) →
      ∃ w : Part, q = evaluate w ∧ w.measure.chain = q.measure.chain
        ∧ (q.measure.chain = .faulty → SweepAborted true p w)
        ∧ (q.measure.chain = .good → unchangedExcept [.osc, .measure] p w)
        ∧ unchangedExcept [.osc, .heat, .measure, .link, .sweep] p w)
    ∧ (p.measure.chain = q.measure.chain ∨ (p.measure.chain = .untested ∧ q.measure.chain = .faulty) →
      unchangedExcept [.osc, .measure] p q)

/-- The second in progress is a minute's last and has run out at this moment: the minute event is still to be taken (R6, R121). -/
abbrev MinuteStillDue (p : Part) : Prop := 59 ≤ p.clock.second ∧ p.clock.secondEnds ≤ p.osc

/-- Copy `b` departs later than copy `a`: its M is larger, both read at the minute before the minute event of this moment, so that it is
the same whether that event is taken or still due (R11, R121; the model's reading, notes/assumptions/25). -/
def DepartsLater (p : Part) (a b : RosterCopy) : Prop :=
  let last := if MinuteStillDue p then p.clock.minute else (p.clock.minute + 1439) % 1440
  minutesTo last a.departure < minutesTo last b.departure

/-- A change of the roster copy that moves the departure later meets a minute event at this moment, one that has left the heat-start
watch ARMED or one that is still due (R121, notes/assumptions/25). -/
def MeetsLaterDeparture (t : Trigger) (p : Part) : Prop :=
  (p.plan.rearmed = some p.osc ∨ MinuteStillDue p)
    ∧ ∃ a b, t = .roster (some a) ∧ p.bay.roster = some b ∧ DepartsLater p a b

/-- The sender of a frame that ends good on the line. -/
def senderOf : Instr → Option StationNo
  | .timeFrame n _ => some n
  | .shedFrame n _ => some n
  | .loadFrame n _ => some n
  | .baystateFrame n _ => some n
  | .askFrame n _ => some n
  | .reportFrame n _ => some n
  | .rosterFrame n _ => some n
  | .rosterCancel n _ => some n
  | .orderSweep o => some o.sender
  | .orderReadfaults o => some o.sender
  | .orderClearstored o => some o.sender
  | .orderHold o => some o.sender
  | .orderUnhold o => some o.sender
  | .orderLanepass o => some o.sender
  | .orderBayreset o => some o.sender
  | .orderBadKind o _ => some o.sender
  | .showSummary o => some o.sender
  | .showLamps o => some o.sender
  | .showFaults o => some o.sender
  | .showPeers o => some o.sender
  | .showPlan o => some o.sender
  | .showCounters o => some o.sender
  | .showRoster o => some o.sender
  | _ => none

/-- The row of a coach link command. -/
def rowOfCommand : CommandCode → Instr
  | .ping => .ping
  | .ident => .ident
  | .hold => .hold
  | .release => .release
  | .lamps => .lamps
  | .fcount => .fcount
  | .fread => .fread
  | .fclear => .fclear

/-- The row of a completion. -/
def rowOfCompletion : SendKind → Instr
  | .shed => .shedComplete
  | .load => .loadComplete
  | .baystate => .baystateComplete
  | .ask => .askComplete
  | .report => .reportComplete

/-- The row of a SHOW order. -/
def rowOfShow (o : Order) : ShowKind → Instr
  | .summary => .showSummary o
  | .lamps => .showLamps o
  | .faults => .showFaults o
  | .peers => .showPeers o
  | .plan => .showPlan o
  | .counters => .showCounters o
  | .roster => .showRoster o

/-- The rows of a coach word, with the word as judged (R126). -/
inductive WordRow : Instr → CoachWord → Prop where
  | idle : WordRow .idle .idle
  | wait : WordRow .wait .wait
  | data (w : Word16) : WordRow (.data w) (.data w)
  | last (w : Word16) : WordRow (.last w) (.last w)
  | ack : WordRow .ack .ack
  | refuse (r : Word16) : WordRow (.refuse r) (.refuse r)
  | garbled (w : LinkWord) (h : judgeWord w = .garbled) : WordRow (.garbledWord w) .garbled

/-- A LOAD or BAYSTATE row whose fields are in range, with those fields (R198). -/
inductive PeerRow (n : StationNo) : Instr → PeerFields → Prop where
  | load (b : LoadPayload) (f : PeerFields) (h : loadFields n b = some f) : PeerRow n (.loadFrame n b) f
  | bay (b : BaystatePayload) (f : PeerFields) (h : baystateFields n b = some f) : PeerRow n (.baystateFrame n b) f

/-- The rows at which the command in flight fails (R126 to R128, R137): the 64th WAIT or IDLE, a garbled word, a DATA beyond the
command's most, an ending that does not fit, and an identity record that is rejected. That WAIT_COUNT_EXPIRY is one at whatever
count is the model's choice (notes/assumptions/4). -/
inductive FailingRow (l : Link) (f : InFlight) : Instr → Prop where
  | idle (h : l.waitCount = 63) : FailingRow l f .idle
  | wait (h : l.waitCount = 63) : FailingRow l f .wait
  | count : FailingRow l f .waitCountExpiry
  | garbled (w : LinkWord) (h : judgeWord w = .garbled) : FailingRow l f (.garbledWord w)
  | data (w : Word16) (h : mostWords f.command.code ≤ l.gathered.length) : FailingRow l f (.data w)
  | last (w : Word16) (h : takesLast f.command.code (l.gathered ++ [w]) = false) : FailingRow l f (.last w)
  | identity (w : Word16) (h : f.command.code = .ident) (h' : identityOf (l.gathered ++ [w]) = none) :
      FailingRow l f (.last w)
  | ack (h : takesAck f.command.code = false ∨ l.gathered ≠ []) : FailingRow l f .ack
  | refuse (r : Word16) (h : takesRefuse f.command.code (refuseReasonOf r) = false ∨ l.gathered ≠ []) :
      FailingRow l f (.refuse r)

end Sys2Proof.Machine
end

