-- ==== Sys2Proof/Certificates/Slice0/Obligations.lean ====
section
/-! DEFINITION. The statements for the provers, chapter by chapter: what the machine does, what each command does in the
states in which it completes and what it leaves as it was, and the invariants that every step keeps. -/

open Sys2Proof Sys2Proof.Machine

/-! ## The machine -/

/-- A step runs the command at the front of the queue on the state with the rest of the queue. -/
def Obligations.StepRunsTheFrontCommand : Prop :=
  ∀ (s : State) (c : Instr) (rest : List Instr), s.pending = c :: rest → step s = exec c { s with pending := rest }

/-- The model's choice (notes/assumptions/2): on an empty queue one bit time of 20 microseconds passes, unless the part is
inactive. Every command answers a next state, and leaves the queue as it was. Outside normal operation START_UP and RESET_ASSERTED
alone have an effect (R1, R4). -/
def Obligations.EveryStepAnswersAndFewCommandsActOutsideNormal : Prop :=
  (∀ s : State, s.pending = [] →
     step s = .next { s with part :=
       if s.part.mode = .inactive then s.part else { s.part with osc := s.part.osc + 20 } })
  ∧ (∀ (c : Instr) (s : State), Completes c s fun _ => True)
  ∧ (∀ (c : Instr) (s : State), s.part.mode ≠ .normal → (∀ straps, c ≠ .startUp straps) → c ≠ .resetAsserted →
       exec c s = .next s)

/-! ## Chapter 1: station identity and time -/

/-- START_UP samples the straps in any mode: the latch holds them by R2, and a station number of 1 to 59 begins normal operation,
any other STRAP FAULT (R3). The start-up values of the blocks (R5, R32, R33, R48, R71, R84, R101, R122, R142, R143, R157, R171,
R175, R191). That the self-test's REFLO conversion has begun with step 0 is read from R72, R85 and R88 together
(notes/assumptions/21). Four fields are the model's own: the zero held (notes/assumptions/27), the minute event that left the
heat-start watch ARMED (notes/assumptions/25), the one that opened the window (notes/assumptions/33) and the last HOLD ACK
(notes/assumptions/41). -/
def Obligations.StartUpSamplesTheStrapsAndSetsTheBlocks : Prop :=
  (∀ (straps : Straps) (s : State), Completes (.startUp straps) s fun q =>
     q.latch.station = straps.station.toNat ∧ q.latch.lane = straps.lane.toNat
       ∧ q.latch.depth = (if straps.lane.toNat = 0 then 1 else straps.depth.toNat + 1)
       ∧ q.latch.group = straps.group.toNat ∧ q.latch.cls = straps.cls.toNat ∧ q.latch.heater = straps.heater
       ∧ Part.ownLimit q = [32, 63, 125, 250].getD straps.cls.toNat 0
       ∧ q.mode = (if 1 ≤ straps.station.toNat ∧ straps.station.toNat ≤ 59 then .normal else .strapFault))
  ∧ (∀ (straps : Straps) (s : State), 1 ≤ straps.station.toNat → straps.station.toNat ≤ 59 →
       Completes (.startUp straps) s fun q =>
         q.osc = 0
         ∧ q.clock = { minute := 0, second := 0, status := .invalid, silence := none, secondEnds := 1000000 }
         ∧ q.line = { flags := { shed := false, load := true, baystate := true, ask := false }
                      marks := { shed := false, load := false, baystate := false, ask := false }
                      tx := none, faults := 0, muted := none, loadRefresh := none, baystateRefresh := none, corrupt := 0
                      quietFrom := 0, receiving := none }
         ∧ q.peers = { entries := [], overflow := false }
         ∧ q.share = { aInForce := [28, 56, 110, 219].getD straps.cls.toNat 0
                       qInForce := [1, 3, 6, 13].getD straps.cls.toNat 0
                       demand := 0, urgency := 0, mode := .off, gt := 0, ga := 0, draw := 0, claim := none, shedLock := none
                       halvingDue := false, mutedHeld := false, overflowHeld := false, zeroed := false }
         ∧ q.heat = { step := 0, phase := .off, duty := 0, shadow := 0, sweepRunning := false, ceiling := 62, pin := false
                      frameStart := 0 }
         ∧ q.measure = { chain := .untested, selfTest := .refloPending, reflo := none, frames := 0, owedCabin := false
                         owedOutside := true, converting := some .reflo, ending := none
                         cabin := { ring := [], run := none, status := .ok, stale := 0 }
                         outside := { ring := [], run := none, status := .ok, stale := 0 }, marks := [] }
         ∧ q.plan = { target := none, lead := none, basis := .computed, start := none, mode := .off, frost := false
                      watch := .notBegun, begun := false, rearmed := none, maintain := false, demand := 0, urgency := 0, planCold := false
                      clearanceCold := false }
         ∧ q.link.state = .down ∧ q.link.identConfirmed = false ∧ q.link.inFlight = none ∧ q.link.waitCount = 0
         ∧ q.link.gathered = [] ∧ q.link.holdConfirmed = false ∧ q.link.startTimer = none ∧ q.link.lostTimer = none
         ∧ q.link.keepAlive = none ∧ q.link.slots = { keeper := none, bay := none, sweep := none, faults := none }
         ∧ q.sweep = { status := .none, settle := none, work := [], last := none, lightsOff := .notPlaced }
         ∧ q.lamps.length = 16
         ∧ (∀ l ∈ q.lamps, l.fit = none ∧ l.verdict = .notFitted ∧ l.reading = none ∧ l.minute = none)
         ∧ q.faults = { coach := [], bay := [], status := .idle, kind := none, toRead := none, nextIndex := none, staging := []
                        rejected := 0, lastRead := none, lastRejected := 0, lastDropped := 0, memory := none }
         ∧ q.cache = { entries := [], want := none, askCount := 0 }
         ∧ q.bay.couple = false ∧ q.bay.state = .empty ∧ q.bay.identity = none ∧ q.bay.roster = none
         ∧ Reasons.any q.bay.reasons = false ∧ q.bay.window = false ∧ q.bay.openedAt = none ∧ q.bay.holdAckAt = none
         ∧ q.bay.readWatch = .notBegun
         ∧ q.bay.sweepWatch = .notBegun ∧ q.bay.windowWatch = .notBegun ∧ q.bay.lanePass = false ∧ q.bay.revocation = .none
         ∧ q.bay.decoupleFlag = .none ∧ q.bay.retry = none ∧ q.bay.clearance = 0 ∧ q.bay.tooEarly = none
         ∧ q.bay.clashFrom = none ∧ q.bay.chirps = none
         ∧ (∀ r, Remarks.get q.remarks r = false)
         ∧ q.orders = { jobs := [], dropped := 0, revocation := none })

/-- In STRAP FAULT, from its entry and whatever command follows but a start-up or a reset, the part shows the fast red flash and
does nothing more (R4). -/
def Obligations.StrapFaultShowsTheRedFlashAndDoesNothingMore : Prop :=
  ∀ (straps : Straps) (s : State), ¬(1 ≤ straps.station.toNat ∧ straps.station.toNat ≤ 59) →
    Completes (.startUp straps) s fun q =>
      (∀ t, Part.beacon { q with osc := t } = { red := t / 250000 % 2 == 0, amber := false, green := false })
      ∧ Part.sounder q = false ∧ Part.heater q = false ∧ q.heat.pin = false ∧ q.share.ga = 0 ∧ q.heat.duty = 0
      ∧ Part.drivesDominant q = false ∧ q.line.tx = none
      ∧ q.line.flags = { shed := false, load := false, baystate := false, ask := false } ∧ q.orders.jobs = []
      ∧ Part.linkClock q = false ∧ q.measure.converting = none ∧ q.measure.ending = none
      ∧ (∀ (c : Instr) (queue : List Instr), (∀ straps', c ≠ .startUp straps') → c ≠ .resetAsserted →
          exec c { part := q, pending := queue } = .next { part := q, pending := queue })

/-- While the reset pin is held active the part drives nothing (R1); what the rest of the state holds meanwhile is the model's
choice (notes/assumptions/22). -/
def Obligations.ResetAssertedSilencesEveryOutput : Prop :=
  ∀ s : State, Completes .resetAsserted s fun q =>
    q.mode = .inactive ∧ Part.drivesDominant q = false ∧ Part.linkClock q = false ∧ Part.heater q = false
      ∧ Part.beacon q = { red := false, amber := false, green := false } ∧ Part.sounder q = false
      ∧ unchangedExcept [.mode, .line, .heat] s.part q

/-- SECOND_END advances the second, and past 59 the minute, which issues one minute event (R6). TIME_SILENCE_EXPIRY makes a clock
UNCONFIRMED and stops the timer; minute and second go on, and the change is handed to the planner (R7). -/
def Obligations.ClockAdvancesAndFallsSilent : Prop :=
  (∀ s : State, s.part.mode = .normal →
     Completes .secondEnd s fun q =>
       q.osc = max s.part.osc s.part.clock.secondEnds
       ∧ q.clock = { s.part.clock with
           second := if s.part.clock.second < 59 then s.part.clock.second + 1 else 0
           minute := if s.part.clock.second < 59 then s.part.clock.minute else (s.part.clock.minute + 1) % 1440
           secondEnds := s.part.clock.secondEnds + 1000000 }
       ∧ (s.part.clock.second < 59 → unchangedExcept [.osc, .clock] s.part q)
       ∧ (¬s.part.clock.second < 59 →
           q = minuteEvent { s.part with osc := q.osc, clock := q.clock }
           ∧ unchangedExcept ([.osc, .clock] ++ bayBlocks) s.part q))
  ∧ (∀ (s : State) (t : Moment), s.part.mode = .normal → s.part.clock.silence = some t →
       Completes .timeSilenceExpiry s fun q =>
         q.clock = { s.part.clock with status := .unconfirmed, silence := none } ∧ q.osc = max s.part.osc t
         ∧ (¬(s.part.bay.state = .standby ∧ s.part.bay.roster.isSome) →
             q = recompute .clockStatus { s.part with osc := q.osc, clock := q.clock })
         ∧ unchangedExcept ([.osc, .clock] ++ bayBlocks) s.part q)

/-- TIME_FRAME: a frame of another sender whose minute and second are in range is adopted at once, whoever sent it; any other
leaves the clock as it was and is not counted as corrupt; one that bears the own number never reaches the clock (R8). An adoption
that changes the minute re-orders and purges the roster cache under the new minute and issues exactly one minute event (R9); one
that changes the status tells the planner and the bay, which leaves STANDBY for PREPARE with its watches ARMED where a roster copy
is held (R7, R177). The order of shift, status change and minute event is notes/assumptions/7. The moment at which the frame ends
is the model's choice (notes/assumptions/8). -/
def Obligations.TimeFrameIsAdoptedInRange : Prop :=
  ∀ (s : State) (n : StationNo) (b : TimePayload), s.part.mode = .normal →
    Completes (.timeFrame n b) s fun q =>
      q.line.corrupt = s.part.line.corrupt
      ∧ (n.toNat ≠ s.part.latch.station → q.osc = max s.part.osc (Part.frameEnd s.part 54))
      ∧ (n.toNat ≠ s.part.latch.station → b.minute.toNat ≤ 1439 → b.second.toNat ≤ 59 →
          q.clock = { minute := b.minute.toNat, second := b.second.toNat, status := .valid
                      silence := some (q.osc + 900000000), secondEnds := q.osc + 1000000 }
          ∧ unchangedExcept ([.osc, .clock] ++ bayBlocks) s.part q
          ∧ (b.minute.toNat = s.part.clock.minute → s.part.clock.status = .valid →
              unchangedExcept [.osc, .clock, .line] s.part q)
          ∧ (∃ p r : Part,
              unchangedExcept [.osc, .clock, .line, .cache] s.part p ∧ p.osc = q.osc ∧ p.clock = q.clock
              ∧ p.line = Part.lineAfter s.part q.osc
              ∧ p.cache = { s.part.cache with entries := p.cache.entries }
              ∧ (b.minute.toNat = s.part.clock.minute → p.cache = s.part.cache)
              ∧ (b.minute.toNat ≠ s.part.clock.minute →
                  (∀ x, x ∈ p.cache.entries ↔ x ∈ s.part.cache.entries ∧ -30 ≤ minutesTo b.minute.toNat x.departure)
                  ∧ ((s.part.cache.entries.map (·.coach)).Nodup →
                      p.cache.entries.Pairwise fun x y => RosterEntry.before b.minute.toNat x y = true))
              ∧ (s.part.clock.status = .valid → r = p)
              ∧ (s.part.clock.status ≠ .valid → ¬(s.part.bay.state = .standby ∧ s.part.bay.roster.isSome) →
                  r = recompute .clockStatus p)
              ∧ (s.part.clock.status ≠ .valid → s.part.bay.state = .standby → s.part.bay.roster.isSome →
                  r.bay.readWatch = .armed ∧ r.bay.sweepWatch = .armed ∧ r.bay.windowWatch = .armed
                  ∧ r.bay.roster = s.part.bay.roster ∧ r.bay.window = s.part.bay.window
                  ∧ (s.part.bay.window = false → openState r.bay.state = true) ∧ r.cache.entries = p.cache.entries
                  ∧ unchangedExcept bayBlocks p r)
              ∧ (b.minute.toNat ≠ s.part.clock.minute → q = minuteEvent r)
              ∧ (b.minute.toNat = s.part.clock.minute → q = r)))
      ∧ (n.toNat ≠ s.part.latch.station → ¬(b.minute.toNat ≤ 1439 ∧ b.second.toNat ≤ 59) → q = frameEnds 54 s.part)
      ∧ (n.toNat = s.part.latch.station → unchangedExcept [.osc, .line, .remarks, .bay] s.part q)

/-- M runs from −60 to 1379: v = (D − now) mod 1440 where v is at most 1379, else v − 1440 (R11). A watch of threshold x: ARMED
with M ≤ x passes, and that alone is a first observation; PASSED with M > x is ARMED again; nothing else changes (R12). -/
def Obligations.MinutesToDepartureAndWatches : Prop :=
  (∀ now d : Nat, now < 1440 → d < 1440 →
     -60 ≤ minutesTo now d ∧ minutesTo now d ≤ 1379
       ∧ minutesTo now d = (if d - (now : Int) < -60 then d - (now : Int) + 1440
           else if 1379 < d - (now : Int) then d - (now : Int) - 1440 else d - (now : Int)))
  ∧ (∀ (w : Watch) (m x : Int),
       ((evaluateWatch w m x).2 = true ↔ w = .armed ∧ m ≤ x)
         ∧ ((evaluateWatch w m x).1 = .passed ↔ (w = .armed ∨ w = .passed) ∧ m ≤ x)
         ∧ ((evaluateWatch w m x).1 = .armed ↔ (w = .armed ∨ w = .passed) ∧ x < m)
         ∧ ((evaluateWatch w m x).1 = .notBegun ↔ w = .notBegun))

/-! ## Chapter 2: the yard line -/

/-- FRAME_ATTEMPT_START: a station that is neither MUTED nor transmitting, and has no frame on the line that it lost to or
abandoned, begins a frame of the pending kind of lowest code, composed at that start bit with the fixed payload size of the kind;
an ASK for which the cache wants no number is passed over and its flag cleared. In any other case the station begins none and the
start of a REPORT fixes the total of the head job, which is kept from then on (R16, R20, R21, R195). Three points are the model's
choice: the start bit is driven at any microsecond past the quiet gap, not at a multiple of the bit time (notes/assumptions/39); no
run of recessive bits inside a frame that the station lost to or abandoned is a quiet gap at which it may begin
(notes/assumptions/40); and a station that abandoned its frame at the start bit waits for a frame to end (notes/assumptions/38). -/
def Obligations.AttemptSendsTheLowestPendingKind : Prop :=
  (∀ s : State, s.part.line.tx.isSome ∨ s.part.line.muted.isSome ∨ s.part.line.receiving.isSome →
    exec .frameAttemptStart s = .next s)
  ∧ ∀ (s : State) (kind : Option SendKind), s.part.mode = .normal → s.part.line.tx = none → s.part.line.muted = none →
    s.part.line.receiving = none →
    kind = (if s.part.line.flags.shed then some .shed
      else if s.part.line.flags.load then some .load
      else if s.part.line.flags.baystate then some .baystate
      else if s.part.line.flags.ask ∧ s.part.cache.want.isSome then some .ask
      else if s.part.orders.jobs ≠ [] then some .report
      else none) →
    Completes .frameAttemptStart s fun q =>
      (kind = none → q.line.tx = none ∧ q.osc = s.part.osc ∧ q.orders = s.part.orders)
      ∧ (∀ k, kind = some k →
          q.osc = max s.part.osc (s.part.line.quietFrom + 220)
          ∧ q.line.tx = some { kind := k, payload := Part.compose q k, start := q.osc }
          ∧ (Part.compose q k).length = payloadSize (sendKindCode k)
          ∧ (k ≠ .report → q.orders = s.part.orders)
          ∧ (k = .report → q.orders = (fixHeadTotal s.part).orders))
      ∧ q.line.flags = { s.part.line.flags with
          ask := s.part.line.flags.ask && (s.part.line.flags.shed || s.part.line.flags.load || s.part.line.flags.baystate
            || s.part.cache.want.isSome) }
      ∧ q.line.marks = s.part.line.marks ∧ q.line.faults = s.part.line.faults ∧ q.line.muted = s.part.line.muted
      ∧ q.line.corrupt = s.part.line.corrupt ∧ q.line.loadRefresh = s.part.line.loadRefresh
      ∧ q.line.baystateRefresh = s.part.line.baystateRefresh
      ∧ q.orders.dropped = s.part.orders.dropped ∧ q.orders.revocation = s.part.orders.revocation
      ∧ unchangedExcept [.osc, .line, .orders] s.part q

/-- The frames that the part composes carry the state of their owners, in the layouts of sections 13.1 and 13.3 with the codes of
section 13.4: SHED, LOAD, BAYSTATE and ASK field by field; in a REPORT the sender, tag, index and total of the head job, the
outcome item whole, and of a SHOW the item of the member at the cursor, with NONE and GONE where none stands. The total is fixed
from the live collection (R21, R195, R197). Three points are the model's choice: a reading
field of an empty ring and the bay state of a peer that has none are 0 (notes/assumptions/28 and 29), and a peer's age is rounded down
and 179 at most (notes/assumptions/42). -/
def Obligations.OwnFramesCarryTheState : Prop :=
  (∀ (p : Part) (ask remarks reasons : Nat) (minutes : Int),
    ask = p.cache.want.getD 0 →
    reasons = p.bay.reasons.faultBlock.toNat + 2 * p.bay.reasons.lampFail.toNat + 4 * p.bay.reasons.lampUnchecked.toNat
      + 8 * p.bay.reasons.faultsStale.toNat + 16 * p.bay.reasons.linkLost.toNat + 32 * p.bay.reasons.chainFault.toNat
      + 64 * p.bay.reasons.laneBlocked.toNat + 128 * p.bay.reasons.laneUnknown.toNat
      + 256 * p.bay.reasons.yardHoldRefused.toNat + 512 * p.bay.reasons.orderHold.toNat
      + 1024 * p.bay.reasons.releaseRefused.toNat →
    remarks = p.remarks.numberClash.toNat + 2 * p.remarks.peerOverflow.toNat + 4 * p.remarks.feederMismatch.toNat
      + 8 * p.remarks.laneClash.toNat + 16 * p.remarks.cold.toNat + 32 * p.remarks.cabinSensor.toNat
      + 64 * p.remarks.outsideSensor.toNat + 128 * p.remarks.faultsTruncated.toNat + 256 * p.remarks.staleClearance.toNat →
    minutes = (match p.bay.roster with
      | some r => minutesTo p.clock.minute r.departure
      | none => -32768) →
    reasonsCode p.bay.reasons = reasons ∧ remarksCode p.remarks = remarks
      ∧ Part.compose p .shed
        = [p.latch.group, Part.observedSum p / 256, Part.observedSum p].map (BitVec.ofNat 8)
      ∧ Part.compose p .load = [p.latch.lane, (p.latch.depth - 1) * 16 + p.latch.group * 4 + p.latch.cls, p.share.demand,
          p.share.draw, (match p.share.mode with | .off => 0 | .frost => 1 | .heat => 2 | .maintain => 3) * 16
            + p.share.urgency].map (BitVec.ofNat 8)
      ∧ Part.compose p .ask = [ask / 256, ask].map (BitVec.ofNat 8)
      ∧ Part.compose p .baystate = [p.latch.lane, (p.latch.depth - 1) * 16 + p.latch.group * 4 + p.latch.cls,
          (match p.bay.state with
            | .empty => 0 | .coupled => 1 | .standby => 2 | .prepare => 3 | .ready => 4 | .held => 5 | .releasing => 6
            | .cleared => 7),
          (match p.bay.identity with | some d => d.coach | none => 0) / 256,
          (match p.bay.identity with | some d => d.coach | none => 0),
          reasons / 256, reasons, remarks / 256, remarks, (minutes % 65536).toNat / 256, (minutes % 65536).toNat,
          p.orders.dropped,
          (match p.bay.decoupleFlag with | .none => 0 | .departed => 1 | .unplanned => 2) * 16
            + (match p.bay.revocation with | .none => 0 | .deferred => 1 | .requested => 2) * 4
            + p.bay.lanePass.toNat * 2 + p.bay.window.toNat].map (BitVec.ofNat 8))
  ∧ (∀ (p : Part) (j : Job) (js : List Job) (total members : Nat), p.orders.jobs = j :: js →
      (j.total = none → (∀ k, j.show? = some k → j.outcome = .taken → members = (match k with
          | .summary => 1 | .plan => 1 | .counters => 1
          | .lamps => (p.lamps.filter fun l => l.fit.isSome).length
          | .faults => p.faults.coach.length + p.faults.bay.length
          | .peers => p.peers.entries.length
          | .roster => p.cache.entries.length)) →
        (j.show? = none ∨ j.outcome ≠ .taken →
          (fixHeadTotal p).orders.jobs = { j with total := some 1 } :: js)
        ∧ (j.show?.isSome → j.outcome = .taken →
          (fixHeadTotal p).orders.jobs = { j with total := some (max 1 members), bare := members == 0 } :: js))
      ∧ (j.total = some total →
        fixHeadTotal p = p
        ∧ (Part.compose p .report).take 4
            = [BitVec.ofNat 8 j.sender.toNat, j.tag, BitVec.ofNat 8 j.cursor, BitVec.ofNat 8 total]
        ∧ (j.show? = none ∨ j.outcome ≠ .taken →
          (Part.compose p .report).drop 4 = [0, j.kind,
            (match j.outcome with | .taken => 0 | .pending => 1 | .refused _ => 2),
            (match j.outcome with
              | .taken => 0 | .pending => 0 | .refused .wrongState => 1 | .refused .linkDown => 2 | .refused .busy => 3
              | .refused .badKind => 4 | .refused .moving => 5 | .refused .withdrawn => 6),
            0, 0, 0, 0, 0, 0, 0])
        ∧ (∀ k, j.show? = some k → j.outcome = .taken → members = (match k with
              | .summary => 1 | .plan => 1 | .counters => 1
              | .lamps => (p.lamps.filter fun l => l.fit.isSome).length
              | .faults => p.faults.coach.length + p.faults.bay.length
              | .peers => p.peers.entries.length
              | .roster => p.cache.entries.length) →
          (Part.compose p .report)[(4 : Nat)]? = some (if j.bare then 7 else if j.cursor < members then
              (match k with
                | .summary => 1 | .lamps => 2 | .faults => 3 | .peers => 4 | .plan => 5 | .counters => 6 | .roster => 9)
            else 8)
          ∧ (j.bare = true ∨ members ≤ j.cursor → (Part.compose p .report).drop 5 = List.replicate 10 0))))
  ∧ (∀ (p : Part) (j : Job) (js : List Job) (sweep coach m ceiling w : Nat) (reading : Channel → Nat),
      p.orders.jobs = j :: js → j.outcome = .taken → j.bare = false →
      sweep = (match p.sweep.status with
        | .none => 0 | .requested => 1 | .running _ _ => 2 | .complete => 3 | .aborted => 4 | .dropped .linkDown => 5
        | .dropped .notHeld => 6 | .dropped .chainFault => 7 | .dropped .wrongState => 8) →
      coach = (match p.bay.identity with | some d => d.coach | none => 0) →
      m = (match p.bay.roster with | some r => (minutesTo p.clock.minute r.departure % 4096).toNat | none => 2048) →
      ceiling = (if p.heat.ceiling = 56 then 32768 else 0) →
      (∀ c, reading c = (match Channel.cause c with
          | .usable => 0 | .short => 1 | .open => 2 | .noReading => 3 | .stale => 4) * 2048
        + (match Channel.reading c with | some tenths => (tenths % 2048).toNat | none => 0)) →
      (j.show? = some .summary → j.cursor = 0 → (Part.compose p .report).drop 5 = [
        (match p.measure.chain with | .good => 0 | .faulty => 1 | .untested => 2) * 64 + p.link.holdConfirmed.toNat * 32
          + (match p.link.state with | .down => 0 | .starting => 1 | .up => 2 | .lost => 3) * 8
          + (match p.bay.state with
            | .empty => 0 | .coupled => 1 | .standby => 2 | .prepare => 3 | .ready => 4 | .held => 5 | .releasing => 6
            | .cleared => 7),
        coach / 256, coach, (ceiling + sweep * 2048 + reasonsCode p.bay.reasons) / 256,
        ceiling + sweep * 2048 + reasonsCode p.bay.reasons, (p.heat.duty * 512 + remarksCode p.remarks) / 256,
        p.heat.duty * 512 + remarksCode p.remarks,
        ((match p.faults.status with | .idle => 0 | .waiting => 1 | .clearing => 2 | .counting => 3 | .reading => 4) * 4096
          + m) / 256, m, p.share.ga].map (BitVec.ofNat 8))
      ∧ (∀ l type n, j.show? = some .lamps → (p.lamps.filter fun l => l.fit.isSome)[j.cursor]? = some l →
          l.fit = some (type, n) → (Part.compose p .report).drop 5 = [
        (match l.verdict with | .ok => 0 | .low => 1 | .high => 2 | .flicker => 3 | .unknown => 4 | .notFitted => 5) * 32
          + (type == .led).toNat * 16 + l.position, n / 256, n, l.reading.getD 65535 / 256, l.reading.getD 65535,
        l.minute.getD 65535 / 256, l.minute.getD 65535, sweep, 0, 0].map (BitVec.ofNat 8))
      ∧ (∀ e, j.show? = some .faults → (Faults.listed p.faults)[j.cursor]? = some (.coach e) →
          w = e.record.age.isSome.toNat * 32768
            + (match e.record.state with | .active => 1 | .stored => 2 | .intermittent => 3) * 8192
            + FaultClass.rank e.cls * 2048 + e.firstRead → (Part.compose p .report).drop 5 = [
        w / 256, w, (e.record.system * 4096 + e.record.code) / 256, e.record.system * 4096 + e.record.code,
        e.record.count, e.record.age.getD 0 / 256, e.record.age.getD 0, e.record.order, p.faults.lastRejected,
        p.faults.lastDropped].map (BitVec.ofNat 8))
      ∧ (∀ e, j.show? = some .faults → (Faults.listed p.faults)[j.cursor]? = some (.bay e) →
          w = 8192 + FaultClass.rank e.cls * 2048 + e.firstRead → (Part.compose p .report).drop 5 = [
        w / 256, w, (14 * 4096 + e.position) / 256, 14 * 4096 + e.position, 1, e.reading / 256, e.reading, e.position,
        p.faults.lastRejected, p.faults.lastDropped].map (BitVec.ofNat 8))
      ∧ (∀ e, j.show? = some .peers → p.peers.entries[j.cursor]? = some e → (Part.compose p .report).drop 5 = [
        e.station, (e.depth - 1) * 16 + e.group * 4 + e.cls, e.lane,
        (e.status == .ghost).toNat * 128 + e.bayState.isSome.toNat * 64 + e.load.isSome.toNat * 32
          + (match e.bayState with
            | some .coupled => 1 | some .standby => 2 | some .prepare => 3 | some .ready => 4 | some .held => 5
            | some .releasing => 6 | some .cleared => 7 | _ => 0),
        (e.load.map (·.demand)).getD 0, (e.load.map (·.draw)).getD 0, (e.load.map (·.urgency)).getD 0,
        min 179 ((p.osc - e.lastHeard) / 1000000), 0, 0].map (BitVec.ofNat 8))
      ∧ (j.show? = some .plan → j.cursor = 0 →
          w = (p.plan.basis == .fixed).toNat * 32768
            + (match p.plan.watch with | .notBegun => 0 | .armed => 1 | .passed => 2) * 8192
            + (match p.plan.mode with | .off => 0 | .frost => 1 | .heat => 2 | .maintain => 3) * 2048
            + p.plan.start.getD 2047 → (Part.compose p .report).drop 5 = [
        p.plan.target.getD 0, p.plan.lead.getD 255, w / 256, w,
        p.plan.begun.toNat * 128 + p.plan.frost.toNat * 64 + p.plan.demand,
        p.remarks.cabinSensor.toNat * 128 + p.plan.clearanceCold.toNat * 64 + p.plan.planCold.toNat * 32
          + p.plan.maintain.toNat * 16 + p.plan.urgency,
        (p.remarks.outsideSensor.toNat * 16384 + reading p.measure.cabin) / 256,
        p.remarks.outsideSensor.toNat * 16384 + reading p.measure.cabin,
        reading p.measure.outside / 256, reading p.measure.outside].map (BitVec.ofNat 8))
      ∧ (j.show? = some .counters → j.cursor = 0 → (Part.compose p .report).drop 5 = [
        p.line.corrupt / 256, p.line.corrupt, p.line.muted.isSome.toNat * 128 + p.line.faults, p.orders.dropped,
        p.orders.jobs.length, 0, 0, 0, 0, 0].map (BitVec.ofNat 8))
      ∧ (∀ e, j.show? = some .roster → p.cache.entries[j.cursor]? = some e →
          w = (minutesTo p.clock.minute e.departure % 65536).toNat → (Part.compose p .report).drop 5 = [
        e.coach / 256, e.coach, e.departure / 256, e.departure, e.target, e.run / 256, e.run, w / 256, w, 0].map
          (BitVec.ofNat 8)))

/-- ARBITRATION_LOST at an arbitration bit driven recessive: the station stops driving, its request stays pending without its
mark, the fault count keeps its value, and the frame on the line is received from its start bit on (R17). TRANSMIT_FAULT at a bit
of the frame after its arbitration value, or at an earlier bit driven dominant: the frame is abandoned, its request stays pending
without its mark, and the fault count rises by one; the fault that brings it to 16 begins MUTED for 60 s and tells the share unit
(R18, R26, R27). Two points are the model's choice: a bit is read at its end, here and at a loss
(notes/assumptions/34), and a fault at the start bit, bit 0, has the frame received from there on too (notes/assumptions/38). -/
def Obligations.LossOfContentionAndTransmitFault : Prop :=
  (∀ (s : State) (t : Transmission) (bit : Fin 9), s.part.mode = .normal → s.part.line.tx = some t →
     (arbitrationOf (sendKindCode t.kind) s.part.latch.station).testBit (8 - bit.val) = true →
     Completes (.arbitrationLost bit) s fun q =>
       q.osc = max s.part.osc (t.start + 20 * (bit.val + 2))
       ∧ q.line = { s.part.line with
           tx := none, flags := SendFlags.put s.part.line.flags t.kind true
           marks := SendFlags.put s.part.line.marks t.kind false, quietFrom := q.osc, receiving := some t.start }
       ∧ unchangedExcept [.osc, .line] s.part q)
  ∧ (∀ (s : State) (t : Transmission) (bit : Nat) (level : Bool), s.part.mode = .normal → s.part.line.tx = some t →
       (Part.drivenBits s.part t)[bit]? = some level → (10 ≤ bit ∨ level = false) →
       Completes (.transmitFault bit) s fun q =>
         q.osc = max s.part.osc (t.start + 20 * (bit + 1))
         ∧ q.line.tx = none ∧ q.line.flags = SendFlags.put s.part.line.flags t.kind true
         ∧ q.line.marks = SendFlags.put s.part.line.marks t.kind false ∧ q.line.receiving = some t.start
         ∧ (s.part.line.faults < 15 → q.line.faults = s.part.line.faults + 1 ∧ q.line.muted = s.part.line.muted
             ∧ q.share = s.part.share)
         ∧ (15 ≤ s.part.line.faults → q.line.faults = 16 ∧ q.line.muted = some (q.osc + 60000000)
             ∧ q.share = { s.part.share with mutedHeld := true })
         ∧ q.line.corrupt = s.part.line.corrupt ∧ q.line.loadRefresh = s.part.line.loadRefresh
         ∧ q.line.baystateRefresh = s.part.line.baystateRefresh
         ∧ unchangedExcept [.osc, .line, .share] s.part q)

/-- MUTED_END: the fault count returns to 0 and the share unit is told (R27). LOAD_REFRESH_EXPIRY and BAYSTATE_REFRESH_EXPIRY
raise their kind and stop the timer; during a transmission of the kind the raise sets the re-raise mark instead (R22, R24).
SHED_LOCK_END: the lock ends, and nothing else changes (R65). SELF_TEST_COUNT_EXPIRY: sixteen frames make a self-test due, REFLO
pending and the count at 0 (R86, R88). One that is due already is not begun anew (notes/assumptions/4). -/
def Obligations.LineAndShareTimersExpire : Prop :=
  (∀ (s : State) (t : Moment), s.part.mode = .normal → s.part.line.muted = some t →
     Completes .mutedEnd s fun q =>
       q.osc = max s.part.osc t ∧ q.line = { s.part.line with muted := none, faults := 0 }
       ∧ q.share = { s.part.share with mutedHeld := false } ∧ unchangedExcept [.osc, .line, .share] s.part q)
  ∧ (∀ (s : State) (t : Moment), s.part.mode = .normal →
       (s.part.line.loadRefresh = some t →
         Completes .loadRefreshExpiry s fun q =>
           q.osc = max s.part.osc t
           ∧ q.line = (if Part.sending s.part = some .load
               then { s.part.line with loadRefresh := none, marks := { s.part.line.marks with load := true } }
               else { s.part.line with loadRefresh := none, flags := { s.part.line.flags with load := true } })
           ∧ unchangedExcept [.osc, .line] s.part q)
       ∧ (s.part.line.baystateRefresh = some t →
         Completes .baystateRefreshExpiry s fun q =>
           q.osc = max s.part.osc t
           ∧ q.line = (if Part.sending s.part = some .baystate
               then { s.part.line with baystateRefresh := none, marks := { s.part.line.marks with baystate := true } }
               else { s.part.line with baystateRefresh := none, flags := { s.part.line.flags with baystate := true } })
           ∧ unchangedExcept [.osc, .line] s.part q))
  ∧ (∀ (s : State) (t : Moment), s.part.mode = .normal → s.part.share.shedLock = some t →
       Completes .shedLockEnd s fun q =>
         q.osc = max s.part.osc t ∧ q.share = { s.part.share with shedLock := none } ∧ unchangedExcept [.osc, .share] s.part q)
  ∧ (∀ s : State, s.part.mode = .normal →
       Completes .selfTestCountExpiry s fun q =>
         (s.part.measure.selfTest = .notDue →
           q.measure = { s.part.measure with selfTest := .refloPending, reflo := none, frames := 0 })
         ∧ (s.part.measure.selfTest ≠ .notDue → q.measure = { s.part.measure with frames := 0 })
         ∧ unchangedExcept [.measure] s.part q)

/-- A completion of any kind: the fault count returns to 0, the kind's flag clears unless its re-raise mark was set, the mark is
removed, the refresh timer of LOAD or BAYSTATE restarts, and a LOAD that carries the latched demand sets an absent claim time
(R22, R23, R24, R53). REPORT_COMPLETE: the head job's cursor advances by one, and the job is removed when it reaches its total
(R194). An outcome item that went out PENDING is marked as sent while the revocation runs; one whose revocation has ended
meanwhile is followed by a job with the final outcome, where the queue has room (R193, notes/assumptions/17). -/
def Obligations.CompletionClearsTheRequestAndServesTheJob : Prop :=
  (∀ (s : State) (t : Transmission), s.part.mode = .normal → s.part.line.tx = some t →
     Completes (rowOfCompletion t.kind) s fun q =>
       q.osc = max s.part.osc (t.start + 20 * (30 + 8 * t.payload.length))
       ∧ q.line.tx = none ∧ q.line.faults = 0
       ∧ (∀ k, SendFlags.get q.line.flags k
           = if k = t.kind then SendFlags.get s.part.line.marks k else SendFlags.get s.part.line.flags k)
       ∧ (∀ k, SendFlags.get q.line.marks k = if k = t.kind then false else SendFlags.get s.part.line.marks k)
       ∧ q.line.loadRefresh = (if t.kind = .load then some (q.osc + 20000000) else s.part.line.loadRefresh)
       ∧ q.line.baystateRefresh = (if t.kind = .baystate then some (q.osc + 60000000) else s.part.line.baystateRefresh)
       ∧ q.share = { s.part.share with
           claim := if t.kind = .load ∧ s.part.share.claim = none ∧ t.payload[2]? = some (byteOf s.part.share.demand)
             then some q.osc else s.part.share.claim }
       ∧ (t.kind ≠ .report → q.orders = s.part.orders)
       ∧ q.line.corrupt = s.part.line.corrupt ∧ q.line.muted = s.part.line.muted
       ∧ unchangedExcept [.osc, .line, .share, .orders] s.part q)
  ∧ (∀ (s : State) (t : Transmission) (j : Job) (js : List Job), s.part.mode = .normal → s.part.line.tx = some t →
       t.kind = .report → s.part.orders.jobs = j :: js →
       Completes .reportComplete s fun q =>
         (j.cursor + 1 < j.total.getD 1 →
           q.orders = { s.part.orders with jobs := { j with cursor := j.cursor + 1 } :: js })
         ∧ (¬j.cursor + 1 < j.total.getD 1 → carriesPending t.payload = false →
           q.orders = { s.part.orders with jobs := js })
         ∧ (¬j.cursor + 1 < j.total.getD 1 → carriesPending t.payload = true → j.outcome = .pending →
           q.orders = { s.part.orders with
             jobs := js, revocation := s.part.orders.revocation.map fun r => { r with sent := true } })
         ∧ (¬j.cursor + 1 < j.total.getD 1 → carriesPending t.payload = true → j.outcome ≠ .pending → js.length < 4 →
           ∃ f : Job, f.tag = j.tag ∧ f.kind = 3 ∧ f.sender = j.sender ∧ f.outcome = j.outcome ∧ f.cursor = 0
             ∧ f.total = none ∧ q.orders = { s.part.orders with jobs := js ++ [f] })
         ∧ unchangedExcept [.osc, .line, .share, .orders] s.part q)

/-- CORRUPT_FRAME: a frame whose check is not good, or whose length is not its kind's size, is dropped; the counter rises by one
and stays at 65535, and no block learns of it (R28). That the station's own transmission is not read so, and the moment at which a
frame ends, are notes/assumptions/8. The order of the four length bits within the check is the model's choice
(notes/assumptions/26). While the station transmits, a good frame of the own number is its own and is handed to no block (R29;
notes/assumptions/8). ASK and REPORT of any other sender, and SHED, LOAD and BAYSTATE of sender 0 and of the terminals, are
ignored and not counted (R31). -/
def Obligations.FramesOfNoBlockAreIgnored : Prop :=
  (∀ (s : State) (f : RawFrame), s.part.mode = .normal → s.part.line.corrupt ≤ 65535 →
     (s.part.line.tx.isSome → exec (.corruptFrame f) s = .next s) ∧ (s.part.line.tx = none →
     (crc16 (coveredBits f.arbitration.toNat f.length.toNat f.payload) ≠ f.check
       ∨ f.length.toNat ≠ payloadSize (f.arbitration.toNat / 64)) →
     Completes (.corruptFrame f) s fun q =>
       q.osc = max s.part.osc (Part.frameEnd s.part (30 + 8 * f.length.toNat))
       ∧ q.line = { s.part.line with
           corrupt := if s.part.line.corrupt = 65535 then 65535 else s.part.line.corrupt + 1
           quietFrom := q.osc, receiving := none }
       ∧ unchangedExcept [.osc, .line] s.part q))
  ∧ (∀ (s : State) (c : Instr) (n : StationNo), s.part.line.tx.isSome → senderOf c = some n →
       n.toNat = s.part.latch.station → exec c s = .next s)
  ∧ (∀ (s : State) (c : Instr) (n : StationNo), s.part.mode = .normal →
       n.toNat ≠ s.part.latch.station →
       ((∃ coach, c = .askFrame n coach) ∨ (∃ payload, c = .reportFrame n payload)
         ∨ ((n.toNat = 0 ∨ 60 ≤ n.toNat) ∧
             ((∃ b, c = .shedFrame n b) ∨ (∃ b, c = .loadFrame n b) ∨ (∃ b, c = .baystateFrame n b)))) →
       Completes c s fun q =>
         unchangedExcept [.osc, .line] s.part q ∧ q.line = Part.lineAfter s.part q.osc)

/-- A good frame of any kind that bears the own number while the station does not transmit is handed to no block: it sets
NUMBER_CLASH, the first time with BAYSTATE raised and the overlay begun; the remark then stays set until the next start-up
(R30). -/
def Obligations.NumberClashIsIgnoredAndReported : Prop :=
  (∀ (s : State) (c : Instr) (n : StationNo), s.part.mode = .normal → s.part.line.tx = none → senderOf c = some n →
    n.toNat = s.part.latch.station →
    Completes c s fun q =>
      q.remarks = { s.part.remarks with numberClash := true }
      ∧ (s.part.remarks.numberClash = true → q.line.flags = s.part.line.flags ∧ q.bay = s.part.bay)
      ∧ (s.part.remarks.numberClash = false → q.line.flags = { s.part.line.flags with baystate := true }
          ∧ q.bay = { s.part.bay with clashFrom := some q.osc })
      ∧ q.line.marks = s.part.line.marks ∧ q.line.corrupt = s.part.line.corrupt
      ∧ unchangedExcept [.osc, .line, .remarks, .bay] s.part q)
  ∧ (∀ (s : State) (c : Instr) (q : Part), (∀ straps, c ≠ .startUp straps) → s.part.remarks.numberClash = true →
      exec c s = .next { s with part := q } → q.remarks.numberClash = true)

/-! ## Chapters 3 and 4: peers, lanes and the shore supply -/

/-- LOAD_FRAME and BAYSTATE_FRAME of a peer that qualifies, where its entry exists or the table has room: its entry is LIVE, holds
the fields of the frame, keeps the part the frame does not carry, and was heard when the frame ended; every other entry is as it
was (R34, R36, R37). What follows a change of the table is taken, the bay controller's part in it (R44, R46, R47); a LOAD is then
followed by a shed check, whatever it did to the table (R62, R63). The moment at which the frame has ended is the model's choice
(notes/assumptions/8). -/
def Obligations.QualifyingPeerFrameIsStored : Prop :=
  ∀ (s : State) (n : StationNo) (c : Instr) (f : PeerFields), s.part.mode = .normal →
    1 ≤ n.toNat → n.toNat ≤ 59 → n.toNat ≠ s.part.latch.station → PeerRow n c f →
    (f.group = s.part.latch.group ∨ (f.lane = s.part.latch.lane ∧ s.part.latch.lane ≠ 0)) →
    ((findPeer n.toNat s.part.peers.entries).isSome ∨ s.part.peers.entries.length < 31) →
    Completes c s fun q =>
      findPeer n.toNat q.peers.entries = some {
        station := n.toNat, lane := f.lane, depth := f.depth, group := f.group, cls := f.cls, status := .live
        bayState := (match f.part with
          | .bay b => some b
          | .load _ => (findPeer n.toNat s.part.peers.entries).bind (·.bayState))
        load := (match f.part with
          | .load l => some l
          | .bay _ => (findPeer n.toNat s.part.peers.entries).bind (·.load))
        lastHeard := q.osc }
      ∧ (∀ m, m ≠ n.toNat → findPeer m q.peers.entries = findPeer m s.part.peers.entries)
      ∧ q.peers.overflow = s.part.peers.overflow
      ∧ q.share = { s.part.share with shedLock := q.share.shedLock, halvingDue := q.share.halvingDue }
      ∧ (∀ l, f.part = .load l → ShedChecked s.part.share.halvingDue s.part q)
      ∧ (∀ b, f.part = .bay b → q.share = s.part.share)
      ∧ (∀ w, w = afterPeers (Part.laneView s.part)
            { s.part with osc := q.osc, line := Part.lineAfter s.part q.osc, peers := q.peers } →
          (∀ b, f.part = .bay b → q = w) ∧ (∀ l, f.part = .load l → q = shedCheck w))
      ∧ unchangedExcept ([.osc, .peers, .share] ++ bayBlocks) s.part q

/-- A peer frame that cannot be stored so: one that does not qualify deletes its sender's entry, which ends peer overflow, or is
ignored where there is none (R36, R37); a new peer that finds 31 entries evicts the GHOST with the oldest last-heard time and is
entered LIVE with the fields and the part of its frame alone, or begins peer overflow where no entry is a GHOST (R38, R39). A LOAD
has its shed check here too (R62). A LOAD or BAYSTATE of a bay post with a field out of range has no effect on the peer table; the
LOAD has its shed check all the same (R62, R198). PEER_AGEING_60S: a LIVE entry 60 s silent becomes a GHOST with all its fields
kept when it reports a draw above 0, and is deleted otherwise (R40). GHOST_AGEING_180S: a GHOST 180 s silent is deleted (R41). A
deletion ends peer overflow. The moment at which a BAYSTATE out of range has ended is the model's choice (notes/assumptions/8). -/
def Obligations.PeersFindNoPlaceAndAge : Prop :=
  (∀ (s : State) (n : StationNo) (c : Instr) (f : PeerFields), s.part.mode = .normal →
     1 ≤ n.toNat → n.toNat ≤ 59 → n.toNat ≠ s.part.latch.station → PeerRow n c f → PeerInv s.part →
     (¬(f.group = s.part.latch.group ∨ (f.lane = s.part.latch.lane ∧ s.part.latch.lane ≠ 0)) →
       Completes c s fun q =>
         q.peers.entries = s.part.peers.entries.filter (fun e => e.station != n.toNat)
         ∧ q.peers.overflow = (if (findPeer n.toNat s.part.peers.entries).isSome then false else s.part.peers.overflow)
         ∧ (∀ l, f.part = .load l → ShedChecked s.part.share.halvingDue s.part q)
         ∧ unchangedExcept ([.osc, .peers, .share] ++ bayBlocks) s.part q)
     ∧ ((f.group = s.part.latch.group ∨ (f.lane = s.part.latch.lane ∧ s.part.latch.lane ≠ 0)) →
       findPeer n.toNat s.part.peers.entries = none → s.part.peers.entries.length = 31 →
       (∀ e ∈ s.part.peers.entries, e.status = .live) →
       Completes c s fun q =>
         q.peers.entries = s.part.peers.entries ∧ q.peers.overflow = true ∧ q.share.overflowHeld = true
         ∧ q.remarks.peerOverflow = true
         ∧ (∀ l, f.part = .load l → ShedChecked s.part.share.halvingDue s.part q)
         ∧ unchangedExcept ([.osc, .peers, .share] ++ bayBlocks) s.part q)
     ∧ ((f.group = s.part.latch.group ∨ (f.lane = s.part.latch.lane ∧ s.part.latch.lane ≠ 0)) →
       findPeer n.toNat s.part.peers.entries = none → s.part.peers.entries.length = 31 →
       (∃ e ∈ s.part.peers.entries, e.status = .ghost) →
       Completes c s fun q =>
         (∃ g ∈ s.part.peers.entries, g.status = .ghost ∧ findPeer g.station q.peers.entries = none
           ∧ (∀ h ∈ s.part.peers.entries, h.status = .ghost → g.lastHeard ≤ h.lastHeard)
           ∧ (∀ e ∈ s.part.peers.entries, e.station ≠ g.station → e ∈ q.peers.entries))
         ∧ findPeer n.toNat q.peers.entries = some {
             station := n.toNat, lane := f.lane, depth := f.depth, group := f.group, cls := f.cls, status := .live
             bayState := (match f.part with | .bay b => some b | .load _ => none)
             load := (match f.part with | .load l => some l | .bay _ => none)
             lastHeard := q.osc }
         ∧ q.peers.entries.length = 31
         ∧ q.peers.overflow = s.part.peers.overflow
         ∧ (∀ l, f.part = .load l → ShedChecked s.part.share.halvingDue s.part q)
         ∧ unchangedExcept ([.osc, .peers, .share] ++ bayBlocks) s.part q))
  ∧ (∀ (s : State) (n : StationNo), s.part.mode = .normal → 1 ≤ n.toNat → n.toNat ≤ 59 →
       n.toNat ≠ s.part.latch.station →
       (∀ b : LoadPayload, 15 < b.lane.toNat ∨ 63 < b.demand.toNat ∨ 63 < b.draw.toNat →
         Completes (.loadFrame n b) s fun q =>
           q.peers = s.part.peers ∧ ShedChecked s.part.share.halvingDue s.part q
           ∧ unchangedExcept [.osc, .line, .share] s.part q)
       ∧ (∀ b : BaystatePayload, 15 < b.lane.toNat ∨ 7 < b.bayState.toNat →
         Completes (.baystateFrame n b) s fun q => q = frameEnds 134 s.part))
  ∧ (∀ (s : State) (n : StationNo) (e : Peer), s.part.mode = .normal → findPeer n.toNat s.part.peers.entries = some e →
       (e.status = .live →
         Completes (.peerAgeing60s n) s fun q =>
           q.osc = max s.part.osc (e.lastHeard + 60000000)
           ∧ ((∃ l, e.load = some l ∧ 0 < l.draw) →
               findPeer n.toNat q.peers.entries = some { e with status := .ghost }
               ∧ q.peers.overflow = s.part.peers.overflow)
           ∧ (¬(∃ l, e.load = some l ∧ 0 < l.draw) →
               findPeer n.toNat q.peers.entries = none ∧ q.peers.overflow = false)
           ∧ (∀ m, m ≠ n.toNat → findPeer m q.peers.entries = findPeer m s.part.peers.entries)
           ∧ unchangedExcept ([.osc, .peers, .share] ++ bayBlocks) s.part q)
       ∧ (e.status = .ghost →
         Completes (.ghostAgeing180s n) s fun q =>
           q.osc = max s.part.osc (e.lastHeard + 180000000)
           ∧ findPeer n.toNat q.peers.entries = none ∧ q.peers.overflow = false
           ∧ (∀ m, m ≠ n.toNat → findPeer m q.peers.entries = findPeer m s.part.peers.entries)
           ∧ unchangedExcept ([.osc, .peers, .share] ++ bayBlocks) s.part q))

/-- The feeder limit in use is the smallest limit among the own class and the classes of the LIVE entries of the own group; with
the table empty it is the own limit. The limits of the classes are 32, 63, 125 and 250 A (R43). The lane view holds one value for
each ahead position, judged from the LIVE entries that claim it (R45), and the lane is clear with lane 0, at depth 1, or with
every ahead position FREE (R47). -/
def Obligations.FeederLimitAndLaneView : Prop :=
  (∀ p : Part,
     Part.feederLimitInUse p ≤ feederLimit p.latch.cls
       ∧ (∀ e ∈ p.peers.entries, e.status = .live → e.group = p.latch.group →
           Part.feederLimitInUse p ≤ feederLimit e.cls)
       ∧ (Part.feederLimitInUse p = feederLimit p.latch.cls
           ∨ ∃ e ∈ p.peers.entries, e.status = .live ∧ e.group = p.latch.group
               ∧ Part.feederLimitInUse p = feederLimit e.cls)
       ∧ (p.peers.entries = [] → Part.feederLimitInUse p = feederLimit p.latch.cls)
       ∧ feederLimit 0 = 32 ∧ feederLimit 1 = 63 ∧ feederLimit 2 = 125 ∧ feederLimit 3 = 250)
  ∧ (∀ (p : Part) (claimants : Nat → List Peer),
       (∀ d, claimants d = p.peers.entries.filter fun e =>
         decide (e.status = .live ∧ e.lane = p.latch.lane ∧ e.depth = d)) →
       (p.latch.lane = 0 ∨ p.latch.depth ≤ 1 → Part.laneView p = [] ∧ Part.laneClear p = true)
         ∧ (p.latch.lane ≠ 0 → (Part.laneView p).length = p.latch.depth - 1
             ∧ (∀ d, 1 ≤ d → d < p.latch.depth →
                 ((Part.laneView p)[d - 1]? = some .free
                     ↔ ∃ e, claimants d = [e] ∧ e.bayState = some .empty)
                 ∧ ((Part.laneView p)[d - 1]? = some .occupied
                     ↔ ∃ e b, claimants d = [e] ∧ e.bayState = some b ∧ b ≠ .empty))
             ∧ (Part.laneClear p = true ↔ ∀ d, 1 ≤ d → d < p.latch.depth → (Part.laneView p)[d - 1]? = some .free)))

/-- The contender list: the own station when its demand is above 0, and every LIVE entry of the own group with a demand above 0;
by urgency, highest first, then by station number, lowest first (R50). The division of the available current down a list of
contenders with distinct station numbers: each takes the smaller of its demand and what those before it left; a station that is no
contender has 0; and no more than the current is given out (R51). -/
def Obligations.ContendersShareTheCurrent : Prop :=
  (∀ (p : Part) (demand urgency : Nat), PeerInv p →
     (∀ c, c ∈ Part.contenderList p demand urgency ↔
       (0 < demand ∧ c = { station := p.latch.station, demand := demand, urgency := urgency })
       ∨ ∃ e ∈ p.peers.entries, ∃ l, e.status = .live ∧ e.group = p.latch.group ∧ e.load = some l ∧ 0 < l.demand
           ∧ c = { station := e.station, demand := l.demand, urgency := l.urgency })
     ∧ (Part.contenderList p demand urgency).Pairwise
         (fun a b => b.urgency < a.urgency ∨ (a.urgency = b.urgency ∧ a.station < b.station)))
  ∧ (∀ (a : Nat) (cs : List Contender), (cs.map (·.station)).Nodup →
       (∀ before c after, cs = before ++ c :: after →
           waterFill c.station a cs = min c.demand (a - (before.map (·.demand)).sum))
         ∧ (∀ n, n ∉ cs.map (·.station) → waterFill n a cs = 0)
         ∧ (cs.map fun c => waterFill c.station a cs).sum = min a (cs.map (·.demand)).sum)

/-- HEAT_FRAME_BOUNDARY, the grant step: A and Q are taken from the feeder limit in use (R49); the planner's outputs are latched,
a changed demand removing the claim time (R53, R55); the target is the own share of the contender list (R51); the grant steps by
the cases of R56, and is limited by the allowance, Ih, A and the halving (R57, R58); duty and draw follow (R59). LOAD is raised
where demand, urgency, mode or draw has changed (R60), and SHED at a detection without a lock (R63). The first boundary after an
immediate zero takes a grant of 0 in whatever bay state (R67, R77); how that stands with the cases of R56, and that the claim time
outlives the zero, is notes/assumptions/27. -/
def Obligations.GrantStepAtTheBoundary : Prop :=
  ∀ (s : State) (lf a ih : Nat) (room : Int) (claim : Option Moment) (zero settled : Prop), s.part.mode = .normal →
    lf = Part.feederLimitInUse s.part → a = lf - lf / 8 → ih = (Part.heaterCurrent s.part).getD 0 →
    room = (a : Int) - (s.part.share.ga + Part.peerDraws s.part) →
    claim = (if s.part.plan.demand = s.part.share.demand then s.part.share.claim else none) →
    (settled ↔ ∃ t, claim = some t ∧ t + 20000000 ≤ s.part.heat.frameStart + 8000000) →
    (zero ↔ s.part.bay.state = .empty ∨ s.part.bay.state = .coupled ∨ s.part.bay.state = .cleared
      ∨ s.part.share.zeroed = true) →
    Completes .heatFrameBoundary s fun q =>
      q.share.aInForce = a ∧ q.share.qInForce = a / 16 ∧ q.share.demand = s.part.plan.demand
      ∧ q.share.urgency = s.part.plan.urgency ∧ q.share.mode = s.part.plan.mode ∧ q.share.claim = claim
      ∧ q.share.gt = waterFill s.part.latch.station a
          (Part.contenderList s.part s.part.plan.demand s.part.plan.urgency)
      ∧ (∃ g : Nat,
          (zero → g = 0)
          ∧ (¬zero → q.share.gt ≤ s.part.share.ga → g = q.share.gt)
          ∧ (¬zero → s.part.share.ga < q.share.gt → s.part.share.shedLock.isSome ∨ ¬settled → g = s.part.share.ga)
          ∧ (¬zero → s.part.share.ga < q.share.gt → s.part.share.shedLock = none → settled →
              g = s.part.share.ga + min (q.share.gt - s.part.share.ga) (max room 0).toNat)
          ∧ (s.part.share.mutedHeld = false → s.part.share.overflowHeld = false → s.part.share.halvingDue = false →
              q.share.ga = min g (min ih a))
          ∧ (s.part.share.mutedHeld = true ∨ s.part.share.overflowHeld = true → s.part.share.halvingDue = false →
              q.share.ga = min (min g (a / 16)) (min ih a))
          ∧ (s.part.share.mutedHeld = false → s.part.share.overflowHeld = false → s.part.share.halvingDue = true →
              q.share.ga = min g (min ih a) / 2)
          ∧ (s.part.share.mutedHeld = true ∨ s.part.share.overflowHeld = true → s.part.share.halvingDue = true →
              q.share.ga = min (min g (a / 16)) (min ih a) / 2))
      ∧ q.heat.duty = (if ih = 0 then 0 else min q.heat.ceiling (q.share.ga * 64 / ih))
      ∧ q.share.draw = (ih * q.heat.duty + 63) / 64 ∧ q.share.draw ≤ q.share.ga
      ∧ q.share.zeroed = false ∧ q.share.mutedHeld = s.part.share.mutedHeld ∧ q.share.overflowHeld = s.part.share.overflowHeld
      ∧ (Part.observedSum q ≤ lf → q.share.shedLock = s.part.share.shedLock ∧ q.share.halvingDue = false)
      ∧ (lf < Part.observedSum q → q.share.shedLock = some (q.osc + 60000000)
          ∧ q.share.halvingDue = s.part.share.shedLock.isNone)
      ∧ q.line = Line.raised .shed (decide (lf < Part.observedSum q) && s.part.share.shedLock.isNone)
          (Line.raised .load (decide (s.part.plan.demand ≠ s.part.share.demand ∨ s.part.plan.urgency ≠ s.part.share.urgency
            ∨ s.part.plan.mode ≠ s.part.share.mode ∨ q.share.draw ≠ s.part.share.draw)) s.part.line)

/-- The applied grant rises at a boundary alone, while no shed lock runs, and only under a claim at least 20 s old on an unchanged
demand (R56); not at the first boundary after an immediate zero (R67, R77, notes/assumptions/27). -/
def Obligations.GrantRisesOnlyUnderASettledClaim : Prop :=
  ∀ (s : State) (c : Instr) (q : Part), exec c s = .next { s with part := q } → s.part.share.ga < q.share.ga →
    c = .heatFrameBoundary ∧ s.part.share.shedLock = none ∧ s.part.share.zeroed = false ∧ s.part.plan.demand = s.part.share.demand
      ∧ ∃ t, s.part.share.claim = some t ∧ t + 20000000 ≤ s.part.heat.frameStart + 8000000

/-- SHED_FRAME of another bay post for the own group starts the shed lock with 60 s and marks a halving, or restarts a running
lock; for any other group it has no effect. It raises no SHED, whatever sum it carries and in every bay state (R64). -/
def Obligations.ShedFrameStartsOrRestartsTheLock : Prop :=
  ∀ (s : State) (n : StationNo) (b : ShedPayload), s.part.mode = .normal →
    1 ≤ n.toNat → n.toNat ≤ 59 → n.toNat ≠ s.part.latch.station →
    Completes (.shedFrame n b) s fun q =>
      q.line.flags = s.part.line.flags ∧ q.line.marks = s.part.line.marks
      ∧ (b.group.toNat % 4 = s.part.latch.group →
          q.share = { s.part.share with
            shedLock := some (q.osc + 60000000)
            halvingDue := s.part.share.halvingDue || s.part.share.shedLock.isNone })
      ∧ (b.group.toNat % 4 ≠ s.part.latch.group → q.share = s.part.share)
      ∧ unchangedExcept [.osc, .line, .share] s.part q

/-! ## Chapters 5 and 6: the heat frame and measurement -/

/-- HEAT_FRAME_BOUNDARY, the new frame: it begins 8 s after the one before, under the ceiling of its sweep; the duty shadow is in
force from step 0 on, which is on or off by it (R72, R73, R75, R79); the staleness counts advance (R94); OUTSIDE, and CABIN with
couple sense, become owed, and step 0 may take one at once where it is an off step (R86, R87); the self-test frame count rises by
one unless a self-test becomes due (R86, R88). A REQUESTED sweep stays so while a LAMPS is in flight (R145). What a REQUESTED
sweep's start writes besides stands in its own statement. HEAT_FRAME_BOUNDARY with a sweep REQUESTED and no LAMPS in flight: the
first condition that fails drops it with its reason; where all hold it runs in pass 1 with empty working verdicts and the LAMPS of
the lowest group with a fitted position placed, or that of its ending where no position is fitted (R145, R146, R149). -/
def Obligations.BoundaryOpensTheFrameAndJudgesTheSweep : Prop :=
  (∀ s : State, s.part.mode = .normal →
     Completes .heatFrameBoundary s fun q =>
       q.osc = max s.part.osc (s.part.heat.frameStart + 8000000) ∧ q.heat.frameStart = s.part.heat.frameStart + 8000000
       ∧ q.heat.step = 0 ∧ q.heat.ceiling = (if q.heat.sweepRunning then 56 else 62) ∧ q.heat.duty = q.heat.shadow
       ∧ (q.heat.phase = .on ↔ 0 < q.heat.duty) ∧ (q.heat.pin = true ↔ 0 < q.heat.duty)
       ∧ q.measure.cabin = { s.part.measure.cabin with stale := min 16 (s.part.measure.cabin.stale + 1) }
       ∧ q.measure.outside = { s.part.measure.outside with stale := min 16 (s.part.measure.outside.stale + 1) }
       ∧ (0 < q.heat.duty → q.measure.owedOutside = true ∧ q.measure.owedCabin = s.part.bay.couple)
       ∧ (q.heat.duty = 0 → s.part.measure.ending = none ∨ s.part.measure.converting = none →
           q.measure.owedOutside = (q.measure.converting != some .outside)
           ∧ q.measure.owedCabin = (s.part.bay.couple && q.measure.converting != some .cabin))
       ∧ (s.part.measure.chain ≠ .good ∨ 15 ≤ s.part.measure.frames
           ∨ (s.part.sweep.status = .requested ∧ SweepStatus.isRunning q.sweep.status = true) →
           q.measure.selfTest = .refloPending ∧ q.measure.frames = 0)
       ∧ (s.part.measure.chain = .good → s.part.measure.frames < 15 →
           ¬(s.part.sweep.status = .requested ∧ SweepStatus.isRunning q.sweep.status = true) →
           q.measure.frames = s.part.measure.frames + 1 ∧ q.measure.selfTest = s.part.measure.selfTest
           ∧ q.measure.reflo = s.part.measure.reflo)
       ∧ (s.part.sweep.status ≠ .requested ∨ (∃ f, s.part.link.inFlight = some f ∧ f.requester = .sweep) →
           q.sweep = s.part.sweep ∧ q.link = s.part.link ∧ q.heat.sweepRunning = s.part.heat.sweepRunning)
       ∧ q.measure.chain = s.part.measure.chain
       ∧ unchangedExcept [.osc, .heat, .measure, .share, .line, .link, .sweep] s.part q)
  ∧ (∀ (s : State) (r : Option DropReason), s.part.mode = .normal → s.part.sweep.status = .requested →
       (∀ f, s.part.link.inFlight = some f → f.requester ≠ .sweep) →
       r = (if s.part.bay.state = .releasing ∨ s.part.bay.state = .cleared then some .wrongState
         else if s.part.link.state ≠ .up then some .linkDown
         else if s.part.link.holdConfirmed = false then some .notHeld
         else if s.part.measure.chain ≠ .good then some .chainFault
         else none) →
       Completes .heatFrameBoundary s fun q =>
         (∀ reason, r = some reason → q.sweep = { s.part.sweep with status := .dropped reason } ∧ q.link = s.part.link
             ∧ q.heat.sweepRunning = s.part.heat.sweepRunning)
         ∧ (r = none → q.sweep.work = [] ∧ q.heat.sweepRunning = true ∧ q.heat.ceiling = 56
             ∧ MovedOn .first 0 q
             ∧ ((∀ l ∈ s.part.lamps, l.fit = none) → q.sweep.status = .running .first .ending)))

/-- STEP_START: the step counter advances; the step is on with the pin active below the duty in force, and off with a slot offered
from it on (R72, R75, R82). The arbiter gives the slot to a due self-test first, REFLO if it is pending and else REFHI; then to an
owed CABIN with couple sense present; then to an owed OUTSIDE; then to the first marked lamp; else to nothing (R87). While the
conversion before it has not ended the slot passes idle (notes/assumptions/15). -/
def Obligations.StepStartIsOnBelowTheDuty : Prop :=
  ∀ (s : State) (slot : Option Conversion), s.part.mode = .normal → s.part.heat.step < 63 →
    slot = (if s.part.measure.selfTest = .refloPending then some .reflo
      else if s.part.measure.selfTest = .refhiPending then some (.refhi (s.part.measure.reflo.getD 0))
      else if s.part.measure.owedCabin ∧ s.part.bay.couple then some .cabin
      else if s.part.measure.owedOutside then some .outside
      else s.part.measure.marks.head?.map .lamp) →
    Completes .stepStart s fun q =>
      q.osc = max s.part.osc (s.part.heat.frameStart + 125000 * (s.part.heat.step + 1))
      ∧ q.heat = { s.part.heat with
          step := s.part.heat.step + 1
          phase := if s.part.heat.step + 1 < s.part.heat.duty then .on else .off
          pin := decide (s.part.heat.step + 1 < s.part.heat.duty) }
      ∧ (s.part.heat.step + 1 < s.part.heat.duty ∨ s.part.measure.converting.isSome → q.measure = s.part.measure)
      ∧ (s.part.heat.duty ≤ s.part.heat.step + 1 → s.part.measure.converting = none →
          (s.part.measure.ending = none → q.measure.converting = slot)
          ∧ q.measure = { s.part.measure with
              converting := q.measure.converting
              owedCabin := s.part.measure.owedCabin && q.measure.converting != some .cabin
              owedOutside := s.part.measure.owedOutside && q.measure.converting != some .outside })
      ∧ unchangedExcept [.osc, .heat, .measure] s.part q

/-- REFLO_CONVERSION_END holds the code and REFHI becomes pending; REFHI_CONVERSION_END judges the self-test: GOOD when the REFLO
code is at most 8 and the REFHI code at least 1015, FAULTY otherwise (R89). A conversion whose step ended with the boundary just
taken ends first, and a self-test that became due at that boundary stays due (R99). A chain fault aborts a running sweep, with the
lights-off request placed (R90, R153, R154). A change of the chain is told, from GOOD to FAULTY and to GOOD from either other status,
and the clearance evaluation follows; in any other case nothing more happens (R90, R179). -/
def Obligations.SelfTestIsJudgedByItsTwoCodes : Prop :=
  ∀ (s : State) (code : Code) (low : Nat), s.part.mode = .normal →
    (s.part.measure.ending = some .reflo ∨ s.part.measure.converting = some .reflo →
      Completes (.refloConversionEnd code) s fun q =>
        q.measure = { s.part.measure with
          reflo := some code.toNat, selfTest := .refhiPending
          ending := if s.part.measure.ending = some .reflo then none else s.part.measure.ending
          converting := if s.part.measure.ending = some .reflo then s.part.measure.converting else none }
        ∧ unchangedExcept [.osc, .measure] s.part q)
    ∧ (s.part.measure.converting = some (.refhi low) → (∀ k, s.part.measure.ending ≠ some (.refhi k)) →
      Completes (.refhiConversionEnd code) s fun q =>
        q.measure.chain = (if low ≤ 8 ∧ 1015 ≤ code.toNat then .good else .faulty)
        ∧ q.measure.selfTest = .notDue ∧ q.measure.reflo = none ∧ q.measure.converting = none
        ∧ (s.part.measure.chain = .good → q.measure.chain = .faulty → SweepAborted true s.part q)
        ∧ ChainTold s.part q
        ∧ unchangedExcept (.osc :: bayBlocks) s.part q)
    ∧ (s.part.measure.ending = some (.refhi low) →
      Completes (.refhiConversionEnd code) s fun q =>
        q.measure.chain = (if low ≤ 8 ∧ 1015 ≤ code.toNat then .good else .faulty)
        ∧ (s.part.measure.selfTest = .refhiPending → q.measure.selfTest = .notDue ∧ q.measure.reflo = none)
        ∧ (s.part.measure.selfTest ≠ .refhiPending →
            q.measure.selfTest = s.part.measure.selfTest ∧ q.measure.reflo = s.part.measure.reflo)
        ∧ q.measure.ending = none
        ∧ (s.part.measure.chain = .good → q.measure.chain = .faulty → SweepAborted true s.part q)
        ∧ ChainTold s.part q
        ∧ unchangedExcept bayBlocks s.part q)

/-- TEMPERATURE_CONVERSION_END: a code that ends while the chain is not GOOD is discarded; with the chain GOOD it is short, valid
(16 to 1000 as it stands, 1001 to 1007 as 1000) or open; a valid code joins the ring, ends the run and returns the staleness count
to 0 (R91), and the ring keeps the newest four (R92); a short or open code lengthens its run, and the fourth of one class sets the
sensor status (R93). The classes are the same for CABIN and OUTSIDE. A channel's reading is the rounded average of its ring less
400, at most 600, and none with an empty ring; its cause is the first of SHORT, OPEN, NO READING and STALE that applies, and it is
usable where none does (R95). -/
def Obligations.TemperatureCodesAreClassed : Prop :=
  (∀ (s : State) (code : Code) (channel : Conversion) (before : Channel) (kind : RunKind) (carried : Bool),
     s.part.mode = .normal → (channel = .cabin ∨ channel = .outside) →
     (carried = true ∧ s.part.measure.ending = some channel
       ∨ carried = false ∧ s.part.measure.converting = some channel ∧ s.part.measure.ending ≠ some .cabin
           ∧ s.part.measure.ending ≠ some .outside) →
     before = (if channel = .cabin then s.part.measure.cabin else s.part.measure.outside) →
     kind = (if code.toNat ≤ 15 then .short else .open) →
     Completes (.temperatureConversionEnd code) s fun q =>
       ∃ after : Channel,
         q.measure = { s.part.measure with
           ending := if carried then none else s.part.measure.ending
           converting := if carried then s.part.measure.converting else none
           cabin := if channel = .cabin then after else s.part.measure.cabin
           outside := if channel = .cabin then s.part.measure.outside else after }
         ∧ (s.part.measure.chain ≠ .good → after = before)
         ∧ (s.part.measure.chain = .good → 16 ≤ code.toNat → code.toNat ≤ 1007 →
             after.run = none ∧ after.status = .ok ∧ after.stale = 0
             ∧ (before.ring.length < 4 → after.ring = before.ring ++ [min code.toNat 1000])
             ∧ (4 ≤ before.ring.length → after.ring = before.ring.tail ++ [min code.toNat 1000]))
         ∧ (s.part.measure.chain = .good → code.toNat ≤ 15 ∨ 1008 ≤ code.toNat →
             after.ring = before.ring ∧ after.stale = before.stale
             ∧ (∀ n, before.run = some (kind, n) → after.run = some (kind, min 4 (n + 1)))
             ∧ ((∀ n, before.run ≠ some (kind, n)) → after.run = some (kind, 1))
             ∧ after.status = (if after.run = some (kind, 4) then (if code.toNat ≤ 15 then .short else .open)
                 else before.status))
         ∧ unchangedExcept [.osc, .measure] s.part q)
  ∧ (∀ (c : Channel) (n : Nat), n = c.ring.length →
       (c.ring = [] → Channel.reading c = none)
       ∧ (c.ring ≠ [] → Channel.reading c = some ((min ((c.ring.sum + n / 2) / n) 1000 : Nat) - 400 : Int))
       ∧ Channel.cause c = (if c.status = .short then .short else if c.status = .open then .open
           else if c.ring = [] then .noReading else if c.stale = 16 then .stale else .usable)
       ∧ Channel.usable c = (if c.status = .ok ∧ c.stale ≠ 16 then Channel.reading c else none))

/-! ## Chapter 7: the planner -/

/-- A recomputation computes the lead in PREPARE, READY, HELD and RELEASING with an identity and a roster copy held, and no lead
anywhere else: 120 minutes without a cabin reading; 0 for a cabin at its target; 240 and a cold plan for a net rate below 4;
otherwise min(240, ceil(gain × 10 / rate) + 10); the start minute is (D − L) mod 1440 (R104, R105, R107 to R111). -/
def Obligations.LeadFollowsGainAndRate : Prop :=
  ∀ (t : Trigger) (p : Part) (planned : Prop),
    (planned ↔ p.bay.state = .prepare ∨ p.bay.state = .ready ∨ p.bay.state = .held ∨ p.bay.state = .releasing) →
    ((¬planned ∨ p.bay.identity = none ∨ p.bay.roster = none) →
      (recompute t p).plan.lead = none ∧ (recompute t p).plan.start = none
      ∧ (recompute t p).plan.basis = .computed ∧ (recompute t p).plan.planCold = false)
    ∧ (∀ (d : Identity) (r : RosterCopy) (target outside rate : Int), planned → p.bay.identity = some d →
        p.bay.roster = some r →
        target = (if r.target = 0 then 180 else if r.target < 100 then 100 else if 240 < r.target then 240
          else r.target) →
        outside = (Channel.usable p.measure.outside).getD (-200) →
        rate = (d.h : Int) - max 0 (target - outside) * d.c / 256 →
        (recompute t p).plan.target = some target.toNat
        ∧ (∀ l, (recompute t p).plan.lead = some l →
            (recompute t p).plan.start = some (((r.departure : Int) - l) % 1440).toNat)
        ∧ (Channel.usable p.measure.cabin = none → (recompute t p).plan.lead = some 120
            ∧ (recompute t p).plan.basis = .fixed ∧ (recompute t p).plan.planCold = decide (rate < 4))
        ∧ (∀ cabin, Channel.usable p.measure.cabin = some cabin →
            (recompute t p).plan.basis = .computed
            ∧ (target ≤ cabin → (recompute t p).plan.lead = some 0 ∧ (recompute t p).plan.planCold = false)
            ∧ (cabin < target → rate < 4 → (recompute t p).plan.lead = some 240 ∧ (recompute t p).plan.planCold = true)
            ∧ (cabin < target → 4 ≤ rate → (recompute t p).plan.planCold = false ∧ ∃ minutes : Nat,
                ((minutes : Int) - 1) * rate < (target - cabin) * 10 ∧ (target - cabin) * 10 ≤ minutes * rate
                ∧ (recompute t p).plan.lead = some (min 240 (minutes + 10)))))

/-- A recomputation decides the mode by bay state: OFF with every substate ended in EMPTY, COUPLED and CLEARED; the frost watch in
STANDBY, and in PREPARE, READY and HELD until heating has begun; HEAT or MAINTAIN from then on; in RELEASING the mode as it was,
with the frost substate off (R112, R113, R116, R117). That the MAINTAIN substate is off in STANDBY is notes/assumptions/30.
Heating begins only at a minute event in PREPARE, READY or HELD, and does at one that finds an ARMED watch and M at most the lead:
the watch is PASSED and the frost substate off (R114). The entry from STANDBY or CLEARED makes the watch ARMED with heating not
begun (R114). A minute event arms a PASSED watch again above the lead, and heating goes on; a change of the roster copy that finds
the watch PASSED with M above the lead ends it, with the watch ARMED and the frost watch from off; other recomputations leave both
as they are (R115). Where a minute event and a later departure meet at one moment, heating that has begun has ended at the roster
change, in either order, whether the watch was PASSED or ARMED, and the watch is ARMED (R121). They meet where the copy's departure has moved
later and the minute event of this moment has left the watch ARMED or is still due. That R121 goes before R115 there, R115 standing
anywhere else (for a change of the target or the run code alone, too), is the model's reading (notes/assumptions/25). -/
def Obligations.ModeFollowsTheBayStateAndHeatingBegins : Prop :=
  (∀ (t : Trigger) (p : Part) (frost : Bool),
     frost = (match Channel.usable p.measure.cabin with
       | none => true
       | some cabin => if p.plan.frost then decide (cabin < 80) else decide (cabin < 50)) →
     (p.bay.state = .empty ∨ p.bay.state = .coupled ∨ p.bay.state = .cleared →
       (recompute t p).plan.mode = .off ∧ (recompute t p).plan.frost = false ∧ (recompute t p).plan.maintain = false
       ∧ (recompute t p).plan.watch = .notBegun ∧ (recompute t p).plan.begun = false)
     ∧ (p.bay.state = .standby →
       (recompute t p).plan.frost = frost ∧ (recompute t p).plan.mode = (if frost then .frost else .off)
       ∧ (recompute t p).plan.watch = .notBegun ∧ (recompute t p).plan.begun = false
       ∧ (recompute t p).plan.maintain = false)
     ∧ (openState p.bay.state = true →
       ((recompute t p).plan.begun = false →
         (recompute t p).plan.mode = (if (recompute t p).plan.frost then .frost else .off)
         ∧ ((∀ c, t ≠ .roster c) → p.plan.begun = false → (recompute t p).plan.frost = frost))
       ∧ ((recompute t p).plan.begun = true →
         (Channel.usable p.measure.cabin = none →
           (recompute t p).plan.mode = .heat ∧ (recompute t p).plan.maintain = false)
         ∧ (∀ cabin target, Channel.usable p.measure.cabin = some cabin → (recompute t p).plan.target = some target →
             (p.plan.begun = false ∨ p.plan.mode ≠ .maintain → cabin < (target : Int) →
               (recompute t p).plan.mode = .heat ∧ (recompute t p).plan.maintain = false)
             ∧ (p.plan.begun = false ∨ p.plan.mode ≠ .maintain → (target : Int) ≤ cabin →
               (recompute t p).plan.mode = .maintain ∧ (recompute t p).plan.maintain = false)
             ∧ (p.plan.begun = true → p.plan.mode = .maintain →
               (recompute t p).plan.mode = .maintain
               ∧ (recompute t p).plan.maintain
                   = (if cabin < (target : Int) - 10 then true else if (target : Int) ≤ cabin then false
                     else p.plan.maintain)))))
     ∧ (p.bay.state = .releasing →
       (recompute t p).plan.mode = p.plan.mode ∧ (recompute t p).plan.frost = false
       ∧ (recompute t p).plan.begun = p.plan.begun ∧ (recompute t p).plan.watch = p.plan.watch))
  ∧ ((∀ (t : Trigger) (p : Part),
       ((recompute t p).plan.begun = true → p.plan.begun = false →
         t = .minute ∧ openState p.bay.state = true ∧ p.plan.watch = .armed
         ∧ ∃ l m, (recompute t p).plan.lead = some l ∧ Part.minutesToDeparture p = some m ∧ m ≤ l)
       ∧ (openState p.bay.state = true → p.plan.begun = true → (recompute t p).plan.begun = false →
         t = .bayState .standby ∨ t = .bayState .cleared
         ∨ ((∃ c, t = .roster c) ∧ (p.plan.watch = .passed ∨ (p.plan.watch = .armed ∧ MeetsLaterDeparture t p))
             ∧ (recompute t p).plan.watch = .armed
             ∧ ∃ l m, (recompute t p).plan.lead = some l ∧ Part.minutesToDeparture p = some m ∧ l < m))
       ∧ (openState p.bay.state = true → t = .bayState .standby ∨ t = .bayState .cleared →
         (recompute t p).plan.watch = .armed ∧ (recompute t p).plan.begun = false))
     ∧ (∀ (t : Trigger) (p q : Part) (l : Nat) (m : Int), q = recompute t p → openState p.bay.state = true →
         q.plan.lead = some l → Part.minutesToDeparture p = some m →
         (t = .minute →
           (p.plan.watch = .armed → m ≤ l →
             q.plan.watch = .passed ∧ q.plan.begun = true ∧ (p.plan.begun = false → q.plan.frost = false))
           ∧ (p.plan.watch = .armed → l < m → q.plan.watch = .armed ∧ q.plan.begun = p.plan.begun
               ∧ (p.plan.begun = true → q.plan.rearmed = some p.osc))
           ∧ (p.plan.watch = .passed → m ≤ l → q.plan.watch = .passed ∧ q.plan.begun = p.plan.begun)
           ∧ (p.plan.watch = .passed → l < m →
               q.plan.watch = .armed ∧ q.plan.begun = p.plan.begun ∧ q.plan.rearmed = some p.osc))
         ∧ ((∃ c, t = .roster c) → l < m →
             p.plan.watch = .passed ∨ (p.plan.watch = .armed ∧ p.plan.begun = true ∧ MeetsLaterDeparture t p) →
             q.plan.watch = .armed ∧ q.plan.begun = false ∧ q.plan.maintain = false
             ∧ q.plan.frost = (match Channel.usable p.measure.cabin with | none => true | some cabin => decide (cabin < 50)))
         ∧ ((∃ c, t = .roster c) → m ≤ l ∨ p.plan.watch = .notBegun
               ∨ (p.plan.watch = .armed ∧ (p.plan.begun = false ∨ ¬MeetsLaterDeparture t p)) →
             q.plan.watch = p.plan.watch ∧ q.plan.begun = p.plan.begun)
         ∧ (t = .clockStatus ∨ t = .bayState .prepare ∨ t = .bayState .ready ∨ t = .bayState .held
               ∨ t = .bayState .releasing →
             q.plan.watch = p.plan.watch ∧ q.plan.begun = p.plan.begun))
     ∧ (∀ (p r q : Part) (a c : RosterCopy) (l : Nat) (m : Int), openState p.bay.state = true → p.plan.begun = true →
         p.plan.watch ≠ .notBegun → p.bay.roster = some a → p.bay.identity.isSome → DepartsLater p a c →
         (r = recompute .minute p → q = recompute (.roster (some a)) { r with bay := { r.bay with roster := some c } } →
           q.plan.lead = some l → Part.minutesToDeparture q = some m → l < m →
           q.plan.begun = false ∧ q.plan.watch = .armed)
         ∧ (MinuteStillDue p → r = recompute (.roster (some a)) { p with bay := { p.bay with roster := some c } } →
           r.plan.lead = some l → Part.minutesToDeparture r = some m → l < m →
           r.plan.begun = false ∧ r.plan.watch = .armed)))

/-- A recomputation sets demand and urgency from the mode: OFF 0 and 0; FROST ceil(Ih/4) and 2; HEAT Ih, and 15 when overdue,
otherwise 8 + min(7, max(0, ceil((L − M)/4))); MAINTAIN Ih or 0 by its substate and 5. The demand is 0 with the heater strap low
or an Ih of 0 (R118). It ends with the remarks: COLD for a cold plan or clearance; CABIN_SENSOR from STANDBY to RELEASING without
a usable cabin; OUTSIDE_SENSOR without a usable outside; BAYSTATE is raised where one changes (R103, R104, R119, R120). Clearance
cold is judged on a change of bay state to CLEARED, without a usable cabin or below the target less 2 degrees, kept in CLEARED,
and no in any other state (R119). -/
def Obligations.DemandUrgencyAndRemarksOfARecomputation : Prop :=
  (∀ (t : Trigger) (p : Part) (ih : Nat), ih = (Part.heaterCurrent p).getD 0 →
     ((recompute t p).plan.mode = .off → (recompute t p).plan.demand = 0 ∧ (recompute t p).plan.urgency = 0)
     ∧ ((recompute t p).plan.mode = .frost → (recompute t p).plan.urgency = 2
         ∧ (p.latch.heater = true → (recompute t p).plan.demand = (ih + 3) / 4))
     ∧ ((recompute t p).plan.mode = .heat →
         (p.latch.heater = true → (recompute t p).plan.demand = ih)
         ∧ (∀ (l : Nat) (m : Int), (recompute t p).plan.lead = some l → Part.minutesToDeparture p = some m →
             (m < 0 → (recompute t p).plan.urgency = 15)
             ∧ (0 ≤ m → (recompute t p).plan.urgency = 8 + min 7 (max 0 (-((m - l) / 4))).toNat)))
     ∧ ((recompute t p).plan.mode = .maintain → (recompute t p).plan.urgency = 5
         ∧ (p.latch.heater = true →
             (recompute t p).plan.demand = if (recompute t p).plan.maintain then ih else 0))
     ∧ (p.latch.heater = false ∨ ih = 0 → (recompute t p).plan.demand = 0)
     ∧ unchangedExcept [.plan, .remarks, .line, .free] p (recompute t p))
  ∧ (∀ (t : Trigger) (p q : Part), q = recompute t p →
       q.remarks = { p.remarks with
         cold := q.plan.planCold || q.plan.clearanceCold
         cabinSensor := (heldCoach p.bay.state || p.bay.state == .releasing) && (Channel.usable p.measure.cabin).isNone
         outsideSensor := (Channel.usable p.measure.outside).isNone }
       ∧ q.line = Line.raised .baystate (decide (q.remarks ≠ p.remarks)) p.line
       ∧ (p.bay.state ≠ .cleared → q.plan.clearanceCold = false)
       ∧ (p.bay.state = .cleared → (∀ before, t ≠ .bayState before) → q.plan.clearanceCold = p.plan.clearanceCold)
       ∧ (p.bay.state = .cleared → (∃ before, t = .bayState before) →
           q.plan.clearanceCold = (match Channel.usable p.measure.cabin with
             | none => true
             | some cabin => decide (cabin < ((q.plan.target.getD 180 : Nat) : Int) - 20))))

/-! ## Chapter 8: the coach link -/

/-- PING to FCLEAR: with the link free the arbiter sends the first request that it finds, in the keeper's slot, and in UP with
identity confirmed in those of the bay controller, the lamp sweep and the fault list; the slot becomes empty and the CMD word is
the station word of the beat (R125, R135), at whatever moment of the beat it is placed (notes/assumptions/31). -/
def Obligations.ArbiterSendsTheFirstRequest : Prop :=
  ∀ (s : State) (who : Requester) (c : Command), s.part.mode = .normal → s.part.link.state ≠ .down →
    s.part.link.inFlight = none → s.part.link.recovery = none →
    (who = .keeper ∧ s.part.link.slots.keeper = some c
      ∨ s.part.link.state = .up ∧ s.part.link.identConfirmed = true ∧ s.part.link.slots.keeper = none
        ∧ (who = .bay ∧ s.part.link.slots.bay = some c
          ∨ who = .sweep ∧ s.part.link.slots.bay = none ∧ s.part.link.slots.sweep = some c
          ∨ who = .faults ∧ s.part.link.slots.bay = none ∧ s.part.link.slots.sweep = none
              ∧ s.part.link.slots.faults = some c)) →
    Completes (rowOfCommand c.code) s fun q =>
      q.link = { s.part.link with
        inFlight := some { requester := who, command := c, attempt := .first, phase := .awaiting }
        waitCount := 0, gathered := [], slots := Slots.put s.part.link.slots who none
        beat := s.part.link.beat + 2000 * ((s.part.osc - s.part.link.beat) / 2000), heard := true
        stationWord := cmdWord c }
      ∧ q.osc = max s.part.osc q.link.beat
      ∧ (who ≠ .sweep → q.sweep = s.part.sweep)
      ∧ (who = .sweep → q.sweep = { s.part.sweep with
          lightsOff := if s.part.sweep.lightsOff = .waiting then .inFlight else s.part.sweep.lightsOff })
      ∧ unchangedExcept [.osc, .link, .sweep] s.part q

/-- A CMD or NOP word is 21 bits with an odd number of ones; a CMD carries tag 1, the command's code and the argument; and a coach
word is garbled exactly when its count of ones is even or its tag none of the six (R124, R199). A coach word that is not judged,
with no command in flight or in the recovery beats, has no effect beyond its beat (R124); while the link is DOWN there is no beat
(R123). The beat is the one in progress while its word has not come, so that the first beat has a word; else the first later one
that begins now or later (notes/assumptions/31). IDLE and WAIT raise the wait count by one; DATA that the command may gather
returns it to 0, joins the gathered words and makes the phase ANSWERING (R126). -/
def Obligations.WordsOfABeat : Prop :=
  ((∀ c : Command, onesBelow 21 (cmdWord c).toNat % 2 = 1 ∧ (cmdWord c).toNat / 131072 = 1
       ∧ (cmdWord c).toNat / 2 % 65536 = commandCode c.code * 256 + c.arg.toNat)
     ∧ onesBelow 21 nopWord.toNat % 2 = 1 ∧ nopWord.toNat / 2 = 0
     ∧ (∀ w : LinkWord, judgeWord w = .garbled
         ↔ onesBelow 21 w.toNat % 2 = 0 ∨ w.toNat / 131072 < 8 ∨ 13 < w.toNat / 131072))
  ∧ (∀ (s : State) (c : Instr) (w : CoachWord), s.part.mode = .normal → WordRow c w →
       (s.part.link.state = .down → exec c s = .next s)
       ∧ (s.part.link.state ≠ .down → (∀ f, s.part.link.inFlight = some f → f.phase = .recovering) →
         Completes c s fun q =>
           q.link = { s.part.link with beat := q.link.beat, heard := true, stationWord := nopWord }
           ∧ q.link.beat = (if s.part.link.heard = false ∧ s.part.osc < s.part.link.beat + 2000 then s.part.link.beat
               else s.part.link.beat + 2000 * max 1 ((s.part.osc - s.part.link.beat + 1999) / 2000))
           ∧ q.osc = max s.part.osc q.link.beat ∧ unchangedExcept [.osc, .link] s.part q))
  ∧ (∀ (s : State) (f : InFlight), s.part.mode = .normal → s.part.link.state ≠ .down → s.part.link.inFlight = some f →
       f.phase ≠ .recovering →
       (s.part.link.waitCount < 63 → ∀ c, c = .idle ∨ c = .wait →
         Completes c s fun q =>
           q.link = { s.part.link with
             beat := q.link.beat, heard := true, stationWord := nopWord, waitCount := s.part.link.waitCount + 1 }
           ∧ q.osc = max s.part.osc q.link.beat ∧ unchangedExcept [.osc, .link] s.part q)
       ∧ (∀ w, s.part.link.gathered.length < mostWords f.command.code →
         Completes (.data w) s fun q =>
           q.link = { s.part.link with
             beat := q.link.beat, heard := true, stationWord := nopWord, waitCount := 0
             gathered := s.part.link.gathered ++ [w]
             inFlight := some { f with phase := .answering } }
           ∧ q.osc = max s.part.osc q.link.beat ∧ unchangedExcept [.osc, .link] s.part q))

/-- A command fails when its wait count reaches 64, at a garbled word, at a misfit and at a rejected identity. In UP the first
attempt goes to RECOVERING and the second takes the link to LOST, with hold and identity no longer confirmed; in STARTING the PING
is not resent and its recovery beats run; in LOST it leaves flight (R126 to R128, R132, R134). A bay in RELEASING returns to HELD
or STANDBY at LOST, its RELEASE withdrawn, with ORDER_HOLD where the revocation is DEFERRED, which then ends (R184, R193; that the
window closes in STANDBY is notes/assumptions/32). A running sweep is aborted at LOST without a lights-off request (R153, R154).
In any bay state that holds a coach the clearance evaluation follows LOST (R178, R179). The model's choices: WAIT_COUNT_EXPIRY fails
the command at whatever wait count (notes/assumptions/4), and a follow-up job of the revocation has the argument 0
(notes/assumptions/17). -/
def Obligations.CommandFailure : Prop :=
  ∀ (s : State) (f : InFlight) (c : Instr), s.part.mode = .normal → s.part.link.inFlight = some f →
    f.phase ≠ .recovering → FailingRow s.part.link f c →
    (s.part.link.state = .up → f.attempt = .first →
      Completes c s fun q =>
        q.link.inFlight = some { f with phase := .recovering } ∧ q.link.recovery = some q.link.beat
        ∧ q.link.waitCount = 0 ∧ q.link.gathered = [] ∧ q.link.state = .up ∧ q.link.slots = s.part.link.slots
        ∧ q.link.holdConfirmed = s.part.link.holdConfirmed ∧ q.link.identConfirmed = s.part.link.identConfirmed
        ∧ unchangedExcept [.osc, .link] s.part q)
    ∧ (s.part.link.state = .up → f.attempt = .second →
      Completes c s fun q =>
        q.link.state = .lost ∧ q.link.inFlight = none ∧ q.link.recovery = none ∧ q.link.waitCount = 0
        ∧ q.link.gathered = [] ∧ q.link.holdConfirmed = false ∧ q.link.identConfirmed = false
        ∧ q.link.keepAlive = none ∧ q.link.lostTimer = some (q.osc + 10000000) ∧ q.link.slots.keeper = none
        ∧ SweepAborted false s.part q
        ∧ (q.faults.status = .idle ∨ q.faults.status = .waiting)
        ∧ (heldCoach s.part.bay.state = true → q.bay.reasons.linkLost = true
            ∧ ∃ w : Part, q = evaluate w ∧ w.link.state = .lost ∧ SweepAborted false s.part w
              ∧ unchangedExcept [.osc, .heat, .measure, .link, .sweep, .faults] s.part w)
        ∧ (s.part.bay.state = .releasing → q.bay.reasons.linkLost = true ∧ q.link.slots.bay = none
            ∧ BayReturned (s.part.bay.revocation == .deferred) false s.part q
            ∧ (s.part.bay.revocation = .deferred → RevocationEnded .taken [] s.part q)
            ∧ (s.part.bay.revocation ≠ .deferred → q.orders = s.part.orders))
        ∧ q.bay.identity = s.part.bay.identity
        ∧ unchangedExcept ([.osc, .orders] ++ bayBlocks) s.part q)
    ∧ (s.part.link.state = .starting →
      Completes c s fun q =>
        q.link.inFlight = none ∧ q.link.recovery = some q.link.beat ∧ q.link.waitCount = 0 ∧ q.link.gathered = []
        ∧ q.link.state = .starting ∧ unchangedExcept [.osc, .link] s.part q)
    ∧ (s.part.link.state = .lost →
      Completes c s fun q =>
        q.link.inFlight = none ∧ q.link.waitCount = 0 ∧ q.link.gathered = [] ∧ q.link.state = .lost
        ∧ q.link.recovery = s.part.link.recovery ∧ unchangedExcept [.osc, .link] s.part q)

/-- RECOVERY_END: the same command is resent as the second attempt in the beat after the eighth recovery beat (R128); in STARTING,
where the PING has ended, a fresh PING is placed (R132). START_TIMER_EXPIRY takes STARTING to LOST with the PING ended (R132,
R134); LOST_PING_TIMER_EXPIRY places a PING, to be sent at the next beat, and restarts the timer from its expiry (R134);
KEEP_ALIVE_EXPIRY places a PING (R133). -/
def Obligations.RecoveryAndLinkTimersEnd : Prop :=
  (∀ (s : State) (b : Moment), s.part.mode = .normal → s.part.link.recovery = some b →
     (∀ f, s.part.link.inFlight = some f →
       Completes .recoveryEnd s fun q =>
         q.link = { s.part.link with
           recovery := none, inFlight := some { f with attempt := .second, phase := .awaiting }
           beat := max s.part.link.beat (b + 18000), heard := true, stationWord := cmdWord f.command }
         ∧ q.osc = max s.part.osc q.link.beat ∧ unchangedExcept [.osc, .link] s.part q)
     ∧ (s.part.link.inFlight = none → s.part.link.state = .starting →
       Completes .recoveryEnd s fun q =>
         q.link = { s.part.link with
           recovery := none, slots := { s.part.link.slots with keeper := some { code := .ping, arg := 0 } }
           beat := max s.part.link.beat (b + 18000), heard := true, stationWord := nopWord }
         ∧ q.osc = max s.part.osc q.link.beat ∧ unchangedExcept [.osc, .link] s.part q))
  ∧ (∀ (s : State) (t : Moment), s.part.mode = .normal →
       (s.part.link.startTimer = some t → s.part.link.state = .starting →
         Completes .startTimerExpiry s fun q =>
           q.osc = max s.part.osc t ∧ q.link.state = .lost ∧ q.link.inFlight = none ∧ q.link.startTimer = none
           ∧ q.link.lostTimer = some (q.osc + 10000000) ∧ q.link.slots.keeper = none ∧ q.link.holdConfirmed = false
           ∧ q.link.identConfirmed = false ∧ unchangedExcept ([.osc, .orders] ++ bayBlocks) s.part q)
       ∧ (s.part.link.lostTimer = some t → s.part.link.state = .lost →
         Completes .lostPingTimerExpiry s fun q =>
           q.osc = max s.part.osc t
           ∧ q.link = { s.part.link with
               lostTimer := some (t + 10000000), beat := q.link.beat, heard := q.link.heard
               slots := { s.part.link.slots with keeper := some { code := .ping, arg := 0 } } }
           ∧ (q.osc ≤ s.part.link.beat → q.link.beat = s.part.link.beat ∧ q.link.heard = s.part.link.heard)
           ∧ (s.part.link.beat < q.osc → q.link.heard = false
               ∧ q.link.beat = s.part.link.beat + 2000 * ((q.osc - s.part.link.beat + 1999) / 2000))
           ∧ unchangedExcept [.osc, .link] s.part q)
       ∧ (s.part.link.keepAlive = some t → s.part.link.state = .up →
         Completes .keepAliveExpiry s fun q =>
           q.osc = max s.part.osc t
           ∧ q.link = { s.part.link with
               keepAlive := none, slots := { s.part.link.slots with keeper := some { code := .ping, arg := 0 } } }
           ∧ unchangedExcept [.osc, .link] s.part q))

/-- An ACK that fits ends its command. PING in STARTING or LOST takes the link to UP with IDENT placed (R132, R133); HOLD confirms
the hold and clears YARD_HOLD_REFUSED where the bay holds a coach, and in CLEARED completes a REQUESTED revocation or, with none,
has RELEASE placed (R130, R182, R186, R193); RELEASE in RELEASING takes the bay to CLEARED with grant and duty at 0, 20 chirps,
and clearance cold judged (R119, R184, R185); LAMPS of an energised group starts the settle wait, 250 ms where the mask names a
FILAMENT lamp and 50 ms otherwise (R146, R147), and that of the lights-off request changes nothing else (R154); FCLEAR goes on to
FCOUNT (R164). Where the ACK of a HOLD finds a coach in the bay, the clearance evaluation follows (R179, R182). The model's choices:
the window closes where the revocation leads to STANDBY (notes/assumptions/32), a follow-up job of the revocation has the argument 0
(notes/assumptions/17), and the moment of that ACK is noted in a field of the model's own, `holdAckAt` (notes/assumptions/41). -/
def Obligations.AckEndsItsCommand : Prop :=
  ∀ (s : State) (f : InFlight), s.part.mode = .normal → s.part.link.state ≠ .down → s.part.link.inFlight = some f →
    f.phase ≠ .recovering → s.part.link.gathered = [] → takesAck f.command.code = true →
    Completes .ack s fun q =>
      q.link.inFlight = none ∧ q.link.gathered = [] ∧ q.link.waitCount = 0
      ∧ (f.command.code = .ping → s.part.link.state ≠ .up →
          q.link.state = .up ∧ q.link.identConfirmed = false ∧ q.link.startTimer = none ∧ q.link.lostTimer = none
          ∧ q.link.keepAlive = some (q.osc + 10000000)
          ∧ q.link.slots = { s.part.link.slots with keeper := some { code := .ident, arg := 0 } }
          ∧ unchangedExcept [.osc, .link] s.part q)
      ∧ (f.command.code = .ping → s.part.link.state = .up →
          q.link.keepAlive = some (q.osc + 10000000) ∧ q.link.slots = s.part.link.slots
          ∧ unchangedExcept [.osc, .link] s.part q)
      ∧ (f.command.code = .hold →
          q.link.holdConfirmed = true
          ∧ (heldCoach s.part.bay.state = true → q.bay.reasons.yardHoldRefused = false ∧ q.bay.retry = none
              ∧ ∃ w : Part, q = evaluate w
                ∧ w.bay = { s.part.bay with
                    retry := none, holdAckAt := some q.osc
                    reasons := { s.part.bay.reasons with yardHoldRefused := false } }
                ∧ w.link.holdConfirmed = true ∧ w.link.inFlight = none ∧ w.link.slots = s.part.link.slots
                ∧ w.link.state = s.part.link.state
                ∧ w.line = Line.raised .baystate s.part.bay.reasons.yardHoldRefused s.part.line
                ∧ unchangedExcept [.osc, .bay, .link, .line] s.part w)
          ∧ (s.part.bay.state = .cleared → s.part.bay.revocation = .requested →
              BayReturned true false s.part q ∧ RevocationEnded .taken [] s.part q)
          ∧ (s.part.bay.state = .cleared → s.part.bay.revocation ≠ .requested →
              q.bay = s.part.bay ∧ q.link.slots.bay = some { code := .release, arg := 0 })
          ∧ (s.part.bay.state = .releasing ∨ s.part.bay.state = .empty ∨ s.part.bay.state = .coupled →
              q.bay = s.part.bay ∧ q.link.slots = s.part.link.slots))
      ∧ (f.command.code = .release →
          q.link.holdConfirmed = false
          ∧ (s.part.bay.state = .releasing → q.bay.state = .cleared ∧ q.share.ga = 0 ∧ q.heat.duty = 0
              ∧ q.heat.pin = false ∧ q.bay.clearance = 0
              ∧ q.bay.chirps = some { cause := .cleared, start := q.osc } ∧ q.plan.mode = .off
              ∧ q.plan.planCold = false ∧ q.remarks.cold = q.plan.clearanceCold ∧ q.remarks.cabinSensor = false
              ∧ q.plan.clearanceCold = (match Channel.usable s.part.measure.cabin with
                | none => true
                | some cabin => decide (cabin < (match s.part.bay.roster with
                    | some r => if r.target = 0 then 180 else if r.target < 100 then 100 else if 240 < r.target then 240
                        else (r.target : Int)
                    | none => 180) - 20)))
          ∧ (s.part.bay.state ≠ .releasing → q.bay = s.part.bay)
          ∧ (s.part.bay.state = .releasing → s.part.bay.revocation = .deferred →
              q.bay.revocation = .requested ∧ q.link.slots.bay = some { code := .hold, arg := 0 }))
      ∧ (f.command.code = .lamps → s.part.sweep.lightsOff ≠ .inFlight → ∀ pass group mask,
          s.part.sweep.status = .running pass (.energising group mask) →
          q.sweep.status = .running pass (.settling group mask)
          ∧ q.sweep.settle = some (q.osc + (if ∃ l ∈ s.part.lamps, l.position / 4 = group
              ∧ mask.getLsbD (l.position % 4) = true ∧ l.fit.map (·.1) = some .filament then 250000 else 50000))
          ∧ unchangedExcept [.osc, .link, .sweep] s.part q)
      ∧ (f.command.code = .lamps → s.part.sweep.lightsOff = .inFlight →
          q.sweep = { s.part.sweep with lightsOff := .notPlaced } ∧ unchangedExcept [.osc, .link, .sweep] s.part q)
      ∧ (f.command.code = .fclear → s.part.faults.status = .clearing → s.part.link.slots.faults = none →
          q.faults = { s.part.faults with kind := some .read, status := .counting }
          ∧ q.link.slots.faults = some { code := .fcount, arg := 0 }
          ∧ unchangedExcept [.osc, .link, .faults] s.part q)
      ∧ unchangedExcept ([.osc, .share, .lamps, .orders] ++ bayBlocks) s.part q

/-- A REFUSE that fits ends its command. HOLD refused MOVING makes hold confirmed no, sets YARD_HOLD_REFUSED and starts the retry
timer where the bay holds a coach, and ends a REQUESTED revocation in CLEARED (R130, R182); RELEASE refused in RELEASING returns
the bay to HELD, or to STANDBY, with RELEASE_REFUSED (R184), and in CLEARED too (R185, with a revocation REQUESTED as
notes/assumptions/12 has it); FREAD refused NO_RECORD completes the read (R162, R163); LAMPS refused NOT_HELD makes hold confirmed
no, aborts the sweep, with the lights-off request placed (R153, R154), and has HOLD placed (R182). Where a HOLD refused finds a coach
in the bay, the clearance evaluation follows (R179). The model's choices: the window closes where the bay returns to STANDBY
(notes/assumptions/32), and a follow-up job of the revocation has the argument 0 (notes/assumptions/17). -/
def Obligations.RefuseEndsItsCommand : Prop :=
  ∀ (s : State) (f : InFlight) (reason : Word16), s.part.mode = .normal → s.part.link.state ≠ .down →
    s.part.link.inFlight = some f → f.phase ≠ .recovering → s.part.link.gathered = [] →
    takesRefuse f.command.code (refuseReasonOf reason) = true →
    Completes (.refuse reason) s fun q =>
      q.link.inFlight = none ∧ q.link.gathered = [] ∧ q.link.waitCount = 0
      ∧ (f.command.code = .hold →
          q.link.holdConfirmed = false
          ∧ (heldCoach s.part.bay.state = true →
              q.bay.reasons.yardHoldRefused = true ∧ q.bay.retry = some (q.osc + 30000000)
              ∧ (s.part.bay.state ≠ .standby → q.bay.state = .held)
              ∧ ∃ w : Part, q = evaluate w
                ∧ w.bay = { s.part.bay with
                    retry := some (q.osc + 30000000), reasons := { s.part.bay.reasons with yardHoldRefused := true } }
                ∧ w.link.holdConfirmed = false ∧ w.link.inFlight = none ∧ w.link.slots = s.part.link.slots
                ∧ w.link.state = s.part.link.state
                ∧ w.line = Line.raised .baystate (!s.part.bay.reasons.yardHoldRefused) s.part.line
                ∧ unchangedExcept [.osc, .bay, .link, .line] s.part w)
          ∧ (s.part.bay.state = .cleared → s.part.bay.revocation = .requested →
              q.bay = { s.part.bay with revocation := .none } ∧ RevocationEnded (.refused .moving) [] s.part q)
          ∧ (s.part.bay.state = .cleared → s.part.bay.revocation ≠ .requested →
              q.bay = s.part.bay ∧ q.orders = s.part.orders)
          ∧ (s.part.bay.state = .releasing ∨ s.part.bay.state = .empty ∨ s.part.bay.state = .coupled →
              q.bay = s.part.bay))
      ∧ (f.command.code = .release →
          q.link.holdConfirmed = s.part.link.holdConfirmed
          ∧ (s.part.bay.state = .releasing →
              BayReturned (s.part.bay.revocation == .deferred) true s.part q
              ∧ (s.part.bay.revocation = .deferred → RevocationEnded .taken [] s.part q)
              ∧ (s.part.bay.revocation ≠ .deferred → q.orders = s.part.orders))
          ∧ (s.part.bay.state = .cleared →
              BayReturned (s.part.bay.revocation == .requested) true s.part q
              ∧ (s.part.bay.revocation = .requested → RevocationEnded .taken [] s.part q)
              ∧ (s.part.bay.revocation ≠ .requested → q.orders = s.part.orders))
          ∧ (s.part.bay.state ≠ .releasing → s.part.bay.state ≠ .cleared → q.bay = s.part.bay))
      ∧ (f.command.code = .fread → s.part.faults.status = .reading → s.part.link.slots.faults = none →
          ReadInstalled s.part.faults.staging s.part.faults.rejected s.part q)
      ∧ (f.command.code = .lamps →
          q.link.holdConfirmed = false
          ∧ (s.part.sweep.lightsOff ≠ .inFlight → SweepAborted true s.part q)
          ∧ (s.part.sweep.lightsOff = .inFlight → q.sweep = { s.part.sweep with lightsOff := .notPlaced }
              ∧ q.link.slots.sweep = s.part.link.slots.sweep)
          ∧ (heldCoach s.part.bay.state = true → q.link.slots.bay = some { code := .hold, arg := 0 }))
      ∧ unchangedExcept ([.osc, .share, .lamps, .orders] ++ bayBlocks) s.part q

/-- A LAST that completes a good identity record: identity is confirmed. With no identity held it is the first (R138): it is held,
the lamp table and the fault memory size are set up from it (R142), HOLD is placed, a full read is requested, and the bay leaves
COUPLED; its coach is looked up in the roster cache, which asks for it where it holds no entry (R174, R177). With the same coach
held the bay record is kept, HOLD is placed, the clearance evaluation follows with LINK_LOST judged anew, and a WAITING operation
resumes (R139, R166, R179). With another coach held the bay is torn
down, every other slot emptied, the revocation ended, and the new coach is a first identity (R140, R177, R193). A record is
rejected for a word count that its fitted mask does not give, coach number 0, Ih above 63, H 0, or a nominal current outside 1 to
1000; its fields are those of section 8.6 (R137). The model's choices: a follow-up job of the revocation has the argument 0
(notes/assumptions/17), and the zero of a coach change is held to the next boundary in a field of the model's own, `zeroed`
(notes/assumptions/27). -/
def Obligations.LastAcceptsAnIdentity : Prop :=
  (∀ (s : State) (f : InFlight) (w : Word16) (d : Identity) (fresh another : Prop), s.part.mode = .normal →
     s.part.link.state ≠ .down → s.part.link.inFlight = some f → f.phase ≠ .recovering → f.command.code = .ident →
     identityOf (s.part.link.gathered ++ [w]) = some d → s.part.link.gathered.length ≤ 20 →
     (another ↔ ∃ held, s.part.bay.identity = some held ∧ held.coach ≠ d.coach) →
     (fresh ↔ another ∨ (s.part.bay.identity = none ∧ s.part.bay.roster = none)) →
     Completes (.last w) s fun q =>
       q.link.identConfirmed = true ∧ q.link.inFlight = none ∧ q.link.gathered = [] ∧ q.link.state = s.part.link.state
       ∧ (another ∨ s.part.bay.identity = none →
           q.bay.identity = some d ∧ q.faults.memory = some d.memory ∧ heldCoach q.bay.state = true
           ∧ q.link.slots.bay = some { code := .hold, arg := 0 }
           ∧ q.lamps = (List.range 16).map fun k =>
               { position := k
                 fit := if d.fitted.getLsbD k then some (if d.led.getLsbD k then .led else .filament,
                   d.nominals.getD ((List.range k).filter fun i => d.fitted.getLsbD i).length 0) else none
                 verdict := if d.fitted.getLsbD k then .unknown else .notFitted
                 reading := none, minute := none })
       ∧ (fresh → (∀ x ∈ s.part.cache.entries, x.coach ≠ d.coach) →
           q.bay.state = .standby ∧ q.bay.roster = none ∧ q.cache.want = some d.coach ∧ q.cache.askCount = 0
           ∧ q.line.flags.ask = (Line.raised .ask true s.part.line).flags.ask
           ∧ q.line.marks.ask = (Line.raised .ask true s.part.line).marks.ask)
       ∧ (fresh → (∃ x ∈ s.part.cache.entries, x.coach = d.coach) →
           q.bay.roster.isSome ∧ q.cache.want = none ∧ q.cache.askCount = 0
           ∧ (s.part.clock.status ≠ .invalid → openState q.bay.state = true ∧ q.bay.readWatch = .armed
               ∧ q.bay.sweepWatch = .armed ∧ q.bay.windowWatch = .armed))
       ∧ (s.part.bay.identity = none → s.part.faults.status = .idle → s.part.link.state = .up →
           q.faults = { s.part.faults with
             status := .counting, kind := some .read, toRead := none, nextIndex := none, staging := [], rejected := 0
             memory := some d.memory }
           ∧ q.link.slots = { s.part.link.slots with
               bay := some { code := .hold, arg := 0 }, faults := some { code := .fcount, arg := 0 } })
       ∧ (∀ held, s.part.bay.identity = some held → held.coach = d.coach →
           q.bay.identity = some held ∧ q.bay.roster = s.part.bay.roster ∧ q.lamps = s.part.lamps
           ∧ q.faults.coach = s.part.faults.coach ∧ q.faults.bay = s.part.faults.bay
           ∧ (∃ w : Part, q = operationResumes (evaluate w) ∧ w.bay = s.part.bay ∧ w.link.identConfirmed = true
               ∧ w.link.state = s.part.link.state ∧ w.link.holdConfirmed = s.part.link.holdConfirmed
               ∧ w.link.slots = { s.part.link.slots with bay := some { code := .hold, arg := 0 } }
               ∧ unchangedExcept [.osc, .link] s.part w)
           ∧ (s.part.link.holdConfirmed = false →
               q.link.slots = { s.part.link.slots with
                 bay := some { code := .hold, arg := 0 }, faults := q.link.slots.faults }
               ∧ (s.part.faults.status ≠ .waiting →
                   q.faults = s.part.faults ∧ q.link.slots.faults = s.part.link.slots.faults)
               ∧ (∀ kind, s.part.faults.status = .waiting → s.part.faults.kind = some kind →
                   q.faults = { s.part.faults with
                     status := (match kind with | .read => .counting | .clearAndRead => .clearing)
                     toRead := none, nextIndex := none, staging := [], rejected := 0 }
                   ∧ q.link.slots.faults = some {
                     code := (match kind with | .read => .fcount | .clearAndRead => .fclear), arg := 0 })))
       ∧ (another →
           q.share = { s.part.share with ga := 0, zeroed := true } ∧ q.heat.duty = 0
           ∧ q.link.slots.keeper = s.part.link.slots.keeper ∧ q.link.slots.sweep = none
           ∧ q.sweep = { status := .none, settle := none, work := [], last := none, lightsOff := .notPlaced }
           ∧ q.faults.coach = [] ∧ q.faults.bay = []
           ∧ (s.part.link.state = .up → q.faults.status = .counting ∧ q.faults.kind = some .read
               ∧ q.link.slots.faults = some { code := .fcount, arg := 0 })
           ∧ q.bay.decoupleFlag = (if s.part.bay.state = .cleared then .departed else .unplanned)
           ∧ q.bay.couple = s.part.bay.couple ∧ RevocationEnded (.refused .wrongState) [] s.part q)
       ∧ unchangedExcept ([.osc, .share, .lamps, .orders] ++ bayBlocks) s.part q)
  ∧ (∀ (w0 w1 w2 fitted led : Word16) (ns : List Word16) (n : Nat),
       n = ((List.range 16).filter fun k => fitted.getLsbD k).length →
       identityOf (w0 :: w1 :: w2 :: fitted :: led :: ns) =
         (if ns.length ≠ n ∨ w0 = 0 ∨ 63 < w1.toNat / 256 ∨ w2.toNat / 256 = 0
             ∨ (∃ v ∈ ns, v.toNat = 0 ∨ 1000 < v.toNat) then none
           else some { coach := w0.toNat, ih := w1.toNat / 256, memory := w1.toNat % 256, h := w2.toNat / 256
                       c := w2.toNat % 256, fitted := fitted, led := led, nominals := ns.map BitVec.toNat }))
  ∧ (∀ words : List Word16, words.length < 5 → identityOf words = none)

/-- LAST answering the fault list. FCOUNT: the records to read are the count or the fault memory size, whichever is smaller; none
completes the read, else FREAD 0 is placed. FREAD: a record taken joins the staging set, a rejected one is counted; then the next
index is read, or the read completes: the staged records are classed, the first 24 in class and coach order become the COACH
entries, a key held before keeps its first-read minute, and what was rejected and dropped is kept as the last read's (R158, R160,
R162, R163). What a record is, when it is rejected (R158), and how it merges with one of its key (R162). -/
def Obligations.LastAnswersTheFaultList : Prop :=
  (∀ (s : State) (f : InFlight) (w : Word16) (n : Nat) (staged : List Staged) (rejected : Nat),
     s.part.mode = .normal → s.part.link.state ≠ .down → s.part.link.inFlight = some f →
     f.phase ≠ .recovering → s.part.link.slots.faults = none →
     (f.command.code = .fcount → s.part.faults.status = .counting → s.part.link.gathered = [] → w.toNat ≤ 255 →
       n = min w.toNat (s.part.faults.memory.getD 0) →
       Completes (.last w) s fun q =>
         q.link.inFlight = none
         ∧ (n = 0 → ReadInstalled s.part.faults.staging s.part.faults.rejected s.part q)
         ∧ (0 < n → q.faults = { s.part.faults with toRead := some n, nextIndex := some 0, status := .reading }
             ∧ q.link.slots.faults = some { code := .fread, arg := 0 })
         ∧ unchangedExcept (.osc :: bayBlocks) s.part q)
     ∧ (f.command.code = .fread → s.part.faults.status = .reading → 1 ≤ s.part.link.gathered.length →
       s.part.link.gathered.length ≤ 6 → n = s.part.faults.nextIndex.getD 0 + 1 →
       staged = (match recordOf (n - 1) (s.part.link.gathered ++ [w]) with
         | some r => mergeStaged r s.part.faults.staging
         | none => s.part.faults.staging) →
       rejected = (match recordOf (n - 1) (s.part.link.gathered ++ [w]) with
         | some _ => s.part.faults.rejected
         | none => min 255 (s.part.faults.rejected + 1)) →
       Completes (.last w) s fun q =>
         q.link.inFlight = none
         ∧ (n < s.part.faults.toRead.getD 0 →
             q.faults = { s.part.faults with nextIndex := some n, staging := staged, rejected := rejected }
             ∧ q.link.slots.faults = some { code := .fread, arg := byteOf n })
         ∧ (s.part.faults.toRead.getD 0 ≤ n → ReadInstalled staged rejected s.part q)
         ∧ unchangedExcept (.osc :: bayBlocks) s.part q))
  ∧ ((∀ (order : Nat) (w0 w1 : Word16) (rest : List Word16) (aged freeze : Nat), aged = w1.toNat / 8192 % 2 →
        freeze = w1.toNat / 1024 % 8 →
        recordOf order (w0 :: w1 :: rest) =
          (if rest.length ≠ aged + freeze ∨ 4 < freeze ∨ w1.toNat / 16384 = 0 ∨ w1.toNat % 256 = 0 then none
            else some {
              system := if w0.toNat / 4096 = 14 then 15 else w0.toNat / 4096
              code := w0.toNat % 4096
              state := if w1.toNat / 16384 = 1 then .active else if w1.toNat / 16384 = 2 then .stored else .intermittent
              count := w1.toNat % 256
              age := if aged = 1 then rest.head?.map BitVec.toNat else none
              order := order }))
     ∧ (∀ (r : Staged) (xs : List Staged), (∀ x ∈ xs, ¬(x.system = r.system ∧ x.code = r.code)) →
         mergeStaged r xs = xs ++ [r])
     ∧ (∀ (r x : Staged) (before after : List Staged), x.system = r.system → x.code = r.code →
         (∀ y ∈ before, ¬(y.system = r.system ∧ y.code = r.code)) →
         mergeStaged r (before ++ x :: after) = before ++ { x with
           state := if x.state = .active ∨ r.state = .active then .active
             else if x.state = .intermittent ∨ r.state = .intermittent then .intermittent else .stored
           count := max x.count r.count
           age := (match x.age, r.age with
             | some a, some b => some (min a b)
             | some a, none => some a
             | none, b => b) } :: after))

/-! ## Chapter 9: the lamp sweep -/

/-- SETTLE_TIMER_EXPIRY: the phase becomes CONVERTING and every position that the mask names is marked settled (R147).
LAMP_CONVERSION_END in CONVERTING: the mark is removed and the code judged by the lamp's window, HIGH from 1020 on or above
floor(N × 3/2), LOW below floor(N × 5/8), else a pass; reading and judgement join the working verdicts of the pass. Lamp table and
fault list are not written (R97, R148). With the last mark the sweep moves on: to the next group of the pass, with the mask of its
positions; to pass 2 over the positions that failed in pass 1; or to its ending (R146, R149, R150). What a group is: positions 4g
to 4g + 3, bit k of a mask naming position 4g + k; the next group is the lowest one, from a number on, with a position to be
measured (R146). A position fitted is measured in pass 1, one that failed in pass 1 in pass 2. -/
def Obligations.SettledLampsAreJudged : Prop :=
  (∀ (s : State) (t : Moment) (pass : Pass) (group : Nat) (mask : BitVec 4), s.part.mode = .normal →
     s.part.sweep.settle = some t → s.part.sweep.status = .running pass (.settling group mask) →
     Completes .settleTimerExpiry s fun q =>
       q.osc = max s.part.osc t
       ∧ q.sweep = { s.part.sweep with settle := none, status := .running pass (.converting group mask) }
       ∧ q.measure = { s.part.measure with marks := q.measure.marks }
       ∧ (∀ position, position ∈ q.measure.marks ↔
           ∃ k, k < 4 ∧ mask.getLsbD k = true ∧ position = 4 * group + k)
       ∧ unchangedExcept [.osc, .sweep, .measure] s.part q)
  ∧ (∀ (s : State) (code : Code) (position nominal : Nat) (pass : Pass) (group : Nat) (mask : BitVec 4) (j : Judgement),
       s.part.mode = .normal →
       (s.part.measure.ending = some (.lamp position)
         ∨ s.part.measure.converting = some (.lamp position) ∧ ∀ k, s.part.measure.ending ≠ some (.lamp k)) →
       s.part.sweep.status = .running pass (.converting group mask) → nominal = Part.nominalOf s.part position →
       j = (if 1020 ≤ code.toNat ∨ nominal * 3 / 2 < code.toNat then .high
         else if code.toNat < nominal * 5 / 8 then .low else .pass) →
       Completes (.lampConversionEnd code) s fun q =>
         q.measure.marks = s.part.measure.marks.filter (fun m => m != position)
         ∧ (pass = .first → q.sweep.work = s.part.sweep.work ++
             [{ position := position, first := (code.toNat, j), second := none }])
         ∧ (pass = .second → q.sweep.work = s.part.sweep.work.map fun w =>
             if w.position = position then { w with second := some (code.toNat, j) } else w)
         ∧ (q.measure.marks ≠ [] → q.sweep.status = s.part.sweep.status ∧ q.link = s.part.link)
         ∧ (q.measure.marks = [] → MovedOn pass (group + 1) q)
         ∧ unchangedExcept [.osc, .measure, .link, .sweep] s.part q)
  ∧ ((∀ (positions : List Nat) (group k : Nat), k < 4 →
       ((maskOf group positions).getLsbD k = true ↔ 4 * group + k ∈ positions))
     ∧ (∀ (positions : List Nat) (from_ g : Nat), nextGroup positions from_ = some g ↔
         g < 4 ∧ from_ ≤ g ∧ (∃ q ∈ positions, q / 4 = g) ∧ ∀ q ∈ positions, from_ ≤ q / 4 → g ≤ q / 4)
     ∧ (∀ (p : Part) (position : Nat),
         (position ∈ Part.passPositions p .first ↔ ∃ l ∈ p.lamps, l.position = position ∧ l.fit.isSome)
         ∧ (position ∈ Part.passPositions p .second
             ↔ ∃ w ∈ p.sweep.work, w.position = position ∧ w.first.2 ≠ .pass)))

/-- The ACK to the ending's LAMPS completes the sweep: each fitted position takes the verdict and decisive reading of its working
verdicts and the minute of the clock, the BAY entries follow the verdicts, the completion is dated unless the clock is INVALID,
and the heat frame learns that no sweep runs while its ceiling stands (R150, R151, R152, R168). -/
def Obligations.EndingAckCompletesTheSweep : Prop :=
  ∀ (s : State) (f : InFlight) (pass : Pass), s.part.mode = .normal → s.part.link.state ≠ .down →
    s.part.link.inFlight = some f → f.phase ≠ .recovering → f.command.code = .lamps → s.part.link.gathered = [] →
    s.part.sweep.lightsOff ≠ .inFlight → s.part.sweep.status = .running pass .ending →
    Completes .ack s fun q =>
      q.sweep = { s.part.sweep with
        status := .complete, settle := none, work := []
        last := some { minute := s.part.clock.minute, dated := s.part.clock.status != .invalid } }
      ∧ q.heat = { s.part.heat with sweepRunning := false }
      ∧ q.lamps.length = s.part.lamps.length
      ∧ (∀ (i : Nat) (l : Lamp), s.part.lamps[i]? = some l → l.fit = none → q.lamps[i]? = some l)
      ∧ (∀ (i : Nat) (l : Lamp) (fit : LampType × Nat) (work : Work), s.part.lamps[i]? = some l → l.fit = some fit →
          s.part.sweep.work.find? (fun w => w.position == l.position) = some work →
          ∃ m : Lamp, q.lamps[i]? = some m ∧ m.position = l.position ∧ m.fit = l.fit
            ∧ m.minute = some s.part.clock.minute
            ∧ (work.first.2 = .pass → m.verdict = .ok ∧ m.reading = none)
            ∧ (work.first.2 ≠ .pass → ∀ reading, work.second = some (reading, .pass) →
                m.verdict = .flicker ∧ m.reading = some work.first.1)
            ∧ (work.first.2 ≠ .pass → ∀ reading, work.second = some (reading, .low) →
                m.verdict = .low ∧ m.reading = some reading)
            ∧ (work.first.2 ≠ .pass → ∀ reading, work.second = some (reading, .high) →
                m.verdict = .high ∧ m.reading = some reading))
      ∧ q.faults.bay.map (fun e => (e.position, e.cls)) = q.lamps.filterMap (fun l =>
          if l.fit.isSome ∧ (l.verdict = .low ∨ l.verdict = .high) then some (l.position, FaultClass.block)
          else if l.fit.isSome ∧ l.verdict = .flicker then some (l.position, FaultClass.warn) else none)
      ∧ (∀ e ∈ q.faults.bay, (∀ held ∈ s.part.faults.bay, held.position ≠ e.position) →
          e.firstRead = s.part.clock.minute)
      ∧ q.faults.coach = s.part.faults.coach
      ∧ unchangedExcept ([.osc, .lamps] ++ bayBlocks) s.part q

/-- A start request makes the status REQUESTED from NONE, COMPLETE, ABORTED and DROPPED, collapses into one already REQUESTED, and
is dropped while a sweep runs (R144). A read or clear request is received by the operation status, the bay state and the link
state (R161). The class of a merged record: a SAFETY system's is BLOCK when ACTIVE, or INTERMITTENT with a count of 3 or more, and
WARN otherwise; a WARN system's is WARN; any other's INFO (R159). -/
def Obligations.RequestsByStatusAndClassesOfRecords : Prop :=
  (∀ p : Part,
     (sweepRequest p).sweep = { p.sweep with
       status := if SweepStatus.isRunning p.sweep.status then p.sweep.status else .requested }
     ∧ unchangedExcept [.sweep] p (sweepRequest p))
  ∧ (∀ (p : Part) (kind : OpKind),
       (p.faults.status = .idle → p.bay.state = .releasing ∨ p.bay.state = .cleared → faultRequest kind p = p)
       ∧ (p.faults.status = .idle → p.link.state = .down → faultRequest kind p = p)
       ∧ (p.faults.status = .idle → p.bay.state ≠ .releasing → p.bay.state ≠ .cleared → p.link.state = .up →
           (faultRequest kind p).faults = { p.faults with
             status := (match kind with | .read => .counting | .clearAndRead => .clearing)
             kind := some kind, toRead := none, nextIndex := none, staging := [], rejected := 0 }
           ∧ (faultRequest kind p).link.slots.faults = some {
             code := (match kind with | .read => .fcount | .clearAndRead => .fclear), arg := 0 })
       ∧ (p.faults.status = .idle → p.bay.state ≠ .releasing → p.bay.state ≠ .cleared →
           p.link.state = .starting ∨ p.link.state = .lost →
           (faultRequest kind p).faults = { p.faults with
             status := .waiting, kind := some kind, toRead := none, nextIndex := none, staging := [], rejected := 0 }
           ∧ (faultRequest kind p).link = p.link)
       ∧ (p.faults.status = .waiting →
           faultRequest .read p = p
           ∧ faultRequest .clearAndRead p = { p with faults := { p.faults with kind := some .clearAndRead } })
       ∧ (p.faults.status = .clearing ∨ p.faults.status = .counting ∨ p.faults.status = .reading →
           faultRequest kind p = p)
       ∧ unchangedExcept [.faults, .link] p (faultRequest kind p))
  ∧ (∀ r : Staged,
       (r.system ∈ [1, 2, 3, 4, 6, 13] →
         (classOf r = .block ↔ r.state = .active ∨ (r.state = .intermittent ∧ 3 ≤ r.count)) ∧ classOf r ≠ .info)
       ∧ (r.system ∈ [0, 5, 7, 9, 11, 12] → classOf r = .warn)
       ∧ (r.system ∈ [8, 10, 15] → classOf r = .info))

/-! ## Chapter 10: the fault list -/

/-! ## Chapter 11: rosters and departure clearance -/

/-- ROSTER_FRAME with a coach number and a departure minute in range, by the rows of R172: an entry of the coach is replaced, or
removed when overdue by more than 30 minutes; a new one is stored while there is room, dropped when overdue or last in order, and
else takes the place of the last. The roster copy of the bay's own coach follows the frame: arriving in STANDBY with a clock that
is not INVALID it moves the bay to PREPARE with the watches ARMED (R177); an update in PREPARE, READY and HELD closes the window
above M 30 and evaluates the watches (R180); in RELEASING and CLEARED the copy alone changes. Each arrival and update sets off a
recomputation with the trigger of the roster copy, the last thing the event does (R102); that the bay comes before the planner is
notes/assumptions/7. A coach stored while the bay waits for another in STANDBY sets off the lookup, which asks for the number
wanted (R174). ROSTER_CANCEL, or a ROSTER_FRAME with departure 2047, removes the coach's entry from the cache, and the roster copy
when the bay's own coach is named; a bay in PREPARE, READY or HELD returns to STANDBY with its window closed and its latched
reasons kept, and asks for its coach anew; in any other state the copy alone goes (R172, R174, R177). Coach number 0, and a
departure that is no minute and not 2047, are ignored (R198). A removal sets off a recomputation with the trigger of the roster
copy, after that of the change of bay state where there is one (R102). The other forms of ROSTER_FRAME: departure 2047 is the
cancel; coach number 0, and a departure from 1440 on but 2047, are ignored (R172, R198). A frame that names another coach than the
bay's leaves the bay as it is. The moment at which a frame has ended, from which the line's quiet gap is counted, is the model's choice
(notes/assumptions/8). -/
def Obligations.RosterFramesAreHandledByTheCache : Prop :=
  (∀ (s : State) (n : StationNo) (b : RosterPayload) (e : RosterEntry) (m : Int), s.part.mode = .normal →
     n.toNat ≠ s.part.latch.station → b.coach ≠ 0 → b.departure.toNat ≤ 1439 →
     e = { coach := b.coach.toNat, departure := b.departure.toNat, target := b.target.toNat, run := b.run.toNat } →
     m = minutesTo s.part.clock.minute b.departure.toNat →
     Completes (.rosterFrame n b) s fun q =>
       ((∃ x ∈ s.part.cache.entries, x.coach = e.coach) → -30 ≤ m →
         ∀ x, x ∈ q.cache.entries ↔ x = e ∨ (x ∈ s.part.cache.entries ∧ x.coach ≠ e.coach))
       ∧ ((∃ x ∈ s.part.cache.entries, x.coach = e.coach) → m < -30 →
         q.cache.entries = s.part.cache.entries.filter fun x => x.coach != e.coach)
       ∧ ((∀ x ∈ s.part.cache.entries, x.coach ≠ e.coach) → m < -30 → q.cache.entries = s.part.cache.entries)
       ∧ ((∀ x ∈ s.part.cache.entries, x.coach ≠ e.coach) → -30 ≤ m → s.part.cache.entries.length < 16 →
         ∀ x, x ∈ q.cache.entries ↔ x = e ∨ x ∈ s.part.cache.entries)
       ∧ ((∀ x ∈ s.part.cache.entries, x.coach ≠ e.coach) → -30 ≤ m → 16 ≤ s.part.cache.entries.length →
         (∀ x ∈ s.part.cache.entries, RosterEntry.before s.part.clock.minute x e = true) →
         q.cache.entries = s.part.cache.entries)
       ∧ ((∀ x ∈ s.part.cache.entries, x.coach ≠ e.coach) → -30 ≤ m → 16 ≤ s.part.cache.entries.length →
         (∃ x ∈ s.part.cache.entries, RosterEntry.before s.part.clock.minute x e = false) →
         ∀ x, x ∈ q.cache.entries ↔ x = e ∨ x ∈ s.part.cache.entries.dropLast)
       ∧ (∀ d, s.part.bay.identity = some d → d.coach = e.coach →
         q.bay.roster = some { departure := e.departure, target := e.target, run := e.run }
         ∧ (s.part.bay.roster = none → s.part.bay.state = .standby →
             q.cache.want = none ∧ q.cache.askCount = 0
             ∧ (s.part.clock.status = .invalid → q = recompute (.roster s.part.bay.roster) (copySet s.part q)
                 ∧ q.bay = { s.part.bay with roster := q.bay.roster })
             ∧ (s.part.clock.status ≠ .invalid → q.bay.readWatch = .armed ∧ q.bay.sweepWatch = .armed
                 ∧ q.bay.windowWatch = .armed ∧ q.bay.window = s.part.bay.window
                 ∧ q = recompute (.roster s.part.bay.roster) (evaluate (setBayState .prepare { copySet s.part q with
                     bay := { s.part.bay with
                       roster := q.bay.roster, readWatch := .armed, sweepWatch := .armed, windowWatch := .armed } }))
                 ∧ (s.part.bay.window = false → openState q.bay.state = true
                     ∧ (q.bay.state = .held ↔ Reasons.any q.bay.reasons = true))))
         ∧ (s.part.bay.roster.isSome → q.bay.roster ≠ s.part.bay.roster → openState s.part.bay.state = true →
             WatchesRun m (s.part.bay.window && decide (m ≤ 30)) s.part q
             ∧ ∃ w : Part, q = recompute (.roster s.part.bay.roster) (evaluate w)
               ∧ WatchesRun m (s.part.bay.window && decide (m ≤ 30)) s.part w
               ∧ w.bay = { s.part.bay with
                   roster := q.bay.roster, readWatch := w.bay.readWatch, sweepWatch := w.bay.sweepWatch
                   windowWatch := w.bay.windowWatch, window := w.bay.window }
               ∧ unchangedExcept [.bay, .link, .sweep, .faults] (copySet s.part q) w)
         ∧ (s.part.bay.roster.isSome → q.bay.roster ≠ s.part.bay.roster → s.part.bay.state = .standby →
             q = recompute (.roster s.part.bay.roster) (evaluate (copySet s.part q)))
         ∧ (s.part.bay.roster.isSome → q.bay.roster = s.part.bay.roster → q = copySet s.part q)
         ∧ (s.part.bay.state = .releasing ∨ s.part.bay.state = .cleared →
             q.bay = { s.part.bay with roster := q.bay.roster }
             ∧ (q.bay.roster ≠ s.part.bay.roster → q = recompute (.roster s.part.bay.roster) (copySet s.part q))))
       ∧ (∀ d, s.part.bay.identity = some d → d.coach ≠ e.coach → s.part.bay.state = .standby →
         s.part.bay.roster = none → (∀ x ∈ s.part.cache.entries, x.coach ≠ e.coach ∧ x.coach ≠ d.coach) → -30 ≤ m →
         s.part.cache.entries.length < 16 →
         q.bay = s.part.bay ∧ q.cache.want = some d.coach ∧ q.cache.askCount = 0
         ∧ q.line = Line.raised .ask true (Part.lineAfter s.part q.osc))
       ∧ ((∀ d, s.part.bay.identity = some d → d.coach ≠ e.coach ∧ (s.part.bay.state = .standby → s.part.bay.roster = none →
             ∀ x ∈ s.part.cache.entries, x.coach ≠ d.coach)) →
         q.bay = s.part.bay ∧ q.plan = s.part.plan ∧ unchangedExcept [.osc, .line, .cache] s.part q
         ∧ (s.part.bay.identity = none ∨ s.part.bay.state ≠ .standby ∨ s.part.bay.roster.isSome →
             q.line = Part.lineAfter s.part q.osc ∧ q.cache = { s.part.cache with entries := q.cache.entries }))
       ∧ unchangedExcept (.osc :: bayBlocks) s.part q)
  ∧ (∀ (s : State) (n : StationNo) (coach : Word16), s.part.mode = .normal →
       n.toNat ≠ s.part.latch.station → coach ≠ 0 →
       Completes (.rosterCancel n coach) s fun q =>
         q.cache.entries = (s.part.cache.entries.filter fun x => x.coach != coach.toNat)
         ∧ (∀ d, s.part.bay.identity = some d → d.coach = coach.toNat →
             q.bay.roster = none
             ∧ (s.part.bay.roster.isSome → openState s.part.bay.state = true →
                 q.bay.state = .standby ∧ q.bay.window = false ∧ q.bay.readWatch = .notBegun
                 ∧ q.bay.sweepWatch = .notBegun ∧ q.bay.windowWatch = .notBegun
                 ∧ q.bay.reasons.yardHoldRefused = s.part.bay.reasons.yardHoldRefused
                 ∧ q.bay.reasons.orderHold = s.part.bay.reasons.orderHold
                 ∧ q.bay.reasons.releaseRefused = s.part.bay.reasons.releaseRefused
                 ∧ q.cache.want = some coach.toNat ∧ q.cache.askCount = 0
                 ∧ q.line.flags.ask = (Line.raised .ask true s.part.line).flags.ask
                 ∧ q.line.marks.ask = (Line.raised .ask true s.part.line).marks.ask)
             ∧ (s.part.bay.roster.isSome → openState s.part.bay.state = true → ∀ x : Part,
                 x = recompute (.bayState s.part.bay.state)
                   { s.part with osc := q.osc, bay := { s.part.bay with roster := none, state := .standby } } →
                 q.plan = (recompute (.roster s.part.bay.roster) { q with plan := x.plan, free := x.free }).plan)
             ∧ (openState s.part.bay.state = false → q.bay = { s.part.bay with roster := none }
                 ∧ (s.part.bay.roster.isSome → q = recompute (.roster s.part.bay.roster) (copySet s.part q)))
             ∧ (s.part.bay.roster = none → q.plan = s.part.plan))
         ∧ ((∀ d, s.part.bay.identity = some d → d.coach ≠ coach.toNat) → q.bay = s.part.bay ∧ q.plan = s.part.plan)
         ∧ unchangedExcept (.osc :: bayBlocks) s.part q)
  ∧ (∀ (s : State) (n : StationNo) (b : RosterPayload),
       (b.departure.toNat = 2047 → exec (.rosterFrame n b) s = exec (.rosterCancel n b.coach) s)
       ∧ (s.part.mode = .normal → n.toNat ≠ s.part.latch.station →
           b.coach = 0 ∨ (1440 ≤ b.departure.toNat ∧ b.departure.toNat ≠ 2047) →
           Completes (.rosterFrame n b) s fun q => q = frameEnds 86 s.part))

/-- A minute event: the planner recomputes with the trigger of the minute (R6, R102). The cache is purged of entries with M below
−30 (R173) and, while it wants a number, counts to 5, where ASK is raised again (R174). In CLEARED the clearance count rises to
15, where STALE_CLEARANCE is set (R185). In STANDBY the set of reasons is judged. In PREPARE, READY and HELD the three watches are
evaluated, which never closes the window (R180), and the clearance evaluation of the part so left follows (R179), with the reasons
and the state that it gives. In EMPTY, COUPLED and RELEASING the bay takes no part. The order planner, cache, bay is
notes/assumptions/7. A minute event that opens the window with no lane pass held is noted in a field of the model's own, `openedAt`
(notes/assumptions/33). -/
def Obligations.MinuteEventServesCacheAndBay : Prop :=
  ∀ p q : Part, q = minuteEvent p →
    q.cache.entries = (p.cache.entries.filter fun e => decide (-30 ≤ minutesTo p.clock.minute e.departure))
    ∧ q.cache.want = p.cache.want
    ∧ q.cache.askCount = (if p.cache.want = none then p.cache.askCount else if 4 ≤ p.cache.askCount then 0
        else p.cache.askCount + 1)
    ∧ q.line.flags.ask = (Line.raised .ask (p.cache.want.isSome && decide (4 ≤ p.cache.askCount)) p.line).flags.ask
    ∧ q.line.marks.ask = (Line.raised .ask (p.cache.want.isSome && decide (4 ≤ p.cache.askCount)) p.line).marks.ask
    ∧ (p.bay.state = .cleared →
        q.bay = { p.bay with clearance := if p.bay.clearance < 15 then p.bay.clearance + 1 else p.bay.clearance }
        ∧ q.remarks.staleClearance = (p.remarks.staleClearance || p.bay.clearance == 14))
    ∧ (p.bay.state = .standby → q.bay = { p.bay with reasons := Part.judgedReasons q })
    ∧ (q.bay.state = p.bay.state → q.plan = (recompute .minute p).plan)
    ∧ (openState p.bay.state = true → ∃ w : Part, q = evaluate w
        ∧ w.bay = { p.bay with readWatch := w.bay.readWatch, sweepWatch := w.bay.sweepWatch
                               windowWatch := w.bay.windowWatch, window := w.bay.window
                               openedAt := if p.bay.window = false ∧ w.bay.window = true ∧ p.bay.lanePass = false then some p.osc
                                 else p.bay.openedAt }
        ∧ (∀ m, Part.minutesToDeparture p = some m → WatchesRun m p.bay.window p w ∧ WatchesRun m p.bay.window p q)
        ∧ (Part.minutesToDeparture p = none → w.bay = p.bay ∧ unchangedExcept [.cache, .line] (recompute .minute p) w)
        ∧ w.cache = q.cache
        ∧ w.line = Line.raised .ask (p.cache.want.isSome && decide (4 ≤ p.cache.askCount)) (recompute .minute p).line
        ∧ unchangedExcept [.cache, .line, .bay, .link, .sweep, .faults] (recompute .minute p) w)
    ∧ (p.bay.state = .empty ∨ p.bay.state = .coupled ∨ p.bay.state = .releasing → q.bay = p.bay)
    ∧ unchangedExcept bayBlocks p q

/-- COUPLE_SENSE_RISE in EMPTY: the bay is COUPLED, the decouple flag NONE, and the link enters STARTING with its start timer
running and a PING placed (R131, R132, R176). Couple sense is first taken 50 ms after start-up. DECOUPLE: the bay is EMPTY with
its record cleared, DEPARTED from CLEARED and UNPLANNED with three chirps from any other state; grant and duty are 0 at once; the
link is DOWN with empty slots; sweep, lamp table and fault list are cleared, the CABIN channel is reset, and the revocation ends
REFUSED WRONG_STATE (R67, R131, R142, R167, R176, R193). The model's choices: a follow-up job of the revocation has the argument 0
(notes/assumptions/17), and the zero is held to the next boundary in a field of the model's own, `zeroed` (notes/assumptions/27). -/
def Obligations.CoupleSenseIsFollowed : Prop :=
  (∀ s : State, s.part.mode = .normal → s.part.bay.couple = false → s.part.bay.state = .empty →
     Completes .coupleSenseRise s fun q =>
       q.osc = max s.part.osc 50000 ∧ q.bay.couple = true ∧ q.bay.state = .coupled ∧ q.bay.decoupleFlag = .none
       ∧ q.link.state = .starting ∧ q.link.startTimer = some (q.osc + 5000000) ∧ q.link.inFlight = none
       ∧ q.link.slots = { keeper := some { code := .ping, arg := 0 }, bay := none, sweep := none, faults := none }
       ∧ q.link.heard = false ∧ (s.part.link.state = .down → q.link.beat = q.osc)
       ∧ unchangedExcept ([.osc] ++ bayBlocks) s.part q)
  ∧ (∀ s : State, s.part.mode = .normal → s.part.bay.couple = true →
       Completes .decouple s fun q =>
         q.bay.couple = false ∧ q.bay.state = .empty ∧ q.bay.identity = none ∧ q.bay.roster = none ∧ q.bay.reasons = {}
         ∧ q.bay.window = false ∧ q.bay.readWatch = .notBegun ∧ q.bay.sweepWatch = .notBegun
         ∧ q.bay.windowWatch = .notBegun ∧ q.bay.lanePass = false ∧ q.bay.revocation = .none ∧ q.bay.retry = none
         ∧ q.bay.clearance = 0
         ∧ q.bay.decoupleFlag = (if s.part.bay.state = .cleared then .departed else .unplanned)
         ∧ (s.part.bay.state ≠ .cleared → q.bay.chirps = some { cause := .unplanned, start := s.part.osc })
         ∧ q.share = { s.part.share with ga := 0, zeroed := true } ∧ q.heat.duty = 0 ∧ q.heat.shadow = 0 ∧ q.heat.pin = false
         ∧ q.heat.step = s.part.heat.step ∧ q.heat.phase = s.part.heat.phase ∧ q.heat.ceiling = s.part.heat.ceiling
         ∧ q.link.state = .down ∧ q.link.inFlight = none ∧ q.link.holdConfirmed = false ∧ q.link.identConfirmed = false
         ∧ q.link.slots = { keeper := none, bay := none, sweep := none, faults := none }
         ∧ q.link.startTimer = none ∧ q.link.lostTimer = none ∧ q.link.keepAlive = none
         ∧ q.sweep = { status := .none, settle := none, work := [], last := none, lightsOff := .notPlaced }
         ∧ q.lamps = clearedLamps
         ∧ q.faults = { coach := [], bay := [], status := .idle, kind := none, toRead := none, nextIndex := none
                        staging := [], rejected := 0, lastRead := none, lastRejected := 0, lastDropped := 0, memory := none }
         ∧ q.remarks.faultsTruncated = false
         ∧ q.measure.cabin = { ring := [], run := none, status := .ok, stale := 0 }
         ∧ q.measure.outside = s.part.measure.outside ∧ q.measure.owedCabin = false ∧ q.measure.marks = []
         ∧ q.measure.chain = s.part.measure.chain
         ∧ q.cache.entries = (match s.part.bay.state, s.part.bay.identity with
             | .cleared, some d => s.part.cache.entries.filter fun x => x.coach != d.coach
             | _, _ => s.part.cache.entries)
         ∧ RevocationEnded (.refused .wrongState) [] s.part q ∧ q.orders.dropped = s.part.orders.dropped
         ∧ unchangedExcept ([.share, .lamps, .orders] ++ bayBlocks) s.part q)

/-- DEPART_BUTTON_PRESS: in PREPARE, READY and HELD with M at most 30 the window opens; a sweep is requested for a fitted lamp
that is LOW, HIGH or UNKNOWN or a sweep that is not fresh, and a read for a COACH BLOCK entry or a read that is not fresh;
RELEASE_REFUSED is cleared and, with YARD_HOLD_REFUSED held, HOLD is placed and its retry timer restarted; the evaluation follows;
a press too early is ignored but for the overlay; in RELEASING and CLEARED it has no effect (R181). For a press in RELEASING or
CLEARED with M above 30 see notes/assumptions/11. -/
def Obligations.DepartPressOpensTheWindow : Prop :=
  ∀ s : State, s.part.mode = .normal →
    (s.part.bay.state = .releasing ∨ s.part.bay.state = .cleared →
      exec .departButtonPress s = .next s)
    ∧ (s.part.bay.state = .empty ∨ s.part.bay.state = .coupled ∨ s.part.bay.state = .standby
        ∨ (openState s.part.bay.state = true ∧ ∃ m, Part.minutesToDeparture s.part = some m ∧ 30 < m) →
      Completes .departButtonPress s fun q =>
        q = { s.part with bay := { s.part.bay with tooEarly := some s.part.osc } })
    ∧ (openState s.part.bay.state = true → (∃ m, Part.minutesToDeparture s.part = some m ∧ m ≤ 30) →
      Completes .departButtonPress s fun q =>
        (∃ w : Part, q = evaluate w
          ∧ w.bay = { s.part.bay with
              window := true, reasons := { s.part.bay.reasons with releaseRefused := false }
              retry := if s.part.bay.reasons.yardHoldRefused then some (s.part.osc + 30000000) else s.part.bay.retry }
          ∧ w.sweep = (if (∃ l ∈ s.part.lamps, l.fit.isSome ∧ (l.verdict = .low ∨ l.verdict = .high
              ∨ l.verdict = .unknown)) ∨ Part.sweepFresh s.part = false then (sweepRequest s.part).sweep else s.part.sweep)
          ∧ w.faults = (if (∃ e ∈ s.part.faults.coach, e.cls = .block) ∨ Part.readFresh s.part = false then
              (faultRequest .read s.part).faults else s.part.faults)
          ∧ w.link = { s.part.link with slots := { s.part.link.slots with
              bay := if s.part.bay.reasons.yardHoldRefused then some { code := .hold, arg := 0 } else s.part.link.slots.bay
              faults := if (∃ e ∈ s.part.faults.coach, e.cls = .block) ∨ Part.readFresh s.part = false then
                (faultRequest .read s.part).link.slots.faults else s.part.link.slots.faults } }
          ∧ w.line = Line.raised .baystate s.part.bay.reasons.releaseRefused s.part.line
          ∧ unchangedExcept [.bay, .sweep, .faults, .link, .line] s.part w)
        ∧ q.bay.window = true ∧ q.bay.reasons.releaseRefused = false
        ∧ (q.bay.state ≠ .releasing →
            q.sweep = (if (∃ l ∈ s.part.lamps, l.fit.isSome ∧ (l.verdict = .low ∨ l.verdict = .high
                ∨ l.verdict = .unknown)) ∨ Part.sweepFresh s.part = false then (sweepRequest s.part).sweep else s.part.sweep)
            ∧ q.faults = (if (∃ e ∈ s.part.faults.coach, e.cls = .block) ∨ Part.readFresh s.part = false then
                (faultRequest .read s.part).faults else s.part.faults)
            ∧ q.link.slots.faults = (if (∃ e ∈ s.part.faults.coach, e.cls = .block) ∨ Part.readFresh s.part = false then
                (faultRequest .read s.part).link.slots.faults else s.part.link.slots.faults))
        ∧ (s.part.bay.reasons.yardHoldRefused = true →
            q.bay.state = .held ∧ q.bay.retry = some (s.part.osc + 30000000)
            ∧ q.link.slots.bay = some { code := .hold, arg := 0 })
        ∧ (q.bay.state = .held ∨ q.bay.state = .prepare ∨ q.bay.state = .ready ∨ q.bay.state = .releasing)
        ∧ (q.bay.state = .releasing → s.part.link.holdConfirmed = true
            ∧ q.link.slots.bay = some { code := .release, arg := 0 })
        ∧ unchangedExcept bayBlocks s.part q)

/-- The clearance evaluation. The judged reasons are set afresh, each from its own rule, and the latched ones kept (R178); a sweep
is fresh for 60 minutes and a read for 45 (R155, R169). In STANDBY the bay stays. In PREPARE, READY and HELD it goes to HELD with
any reason; without one to PREPARE while sweep, lamps or read are pending; else to READY, and through it, with the window open and
hold confirmed, to RELEASING: the lane pass is consumed, RELEASE placed, a running sweep aborted with the lights-off request
placed, and an operation cut short (R153, R154, R165, R179, R183). A change of state or of the reasons raises BAYSTATE (R25,
R179). In any other state it does nothing. A changed lane view sets it off (R47). Where the change meets the window watch's minute
event that opens the window, the bay ends in the state that the new view gives, whichever is taken first, with the same hold reasons:
HELD where the view is not clear (R190). That an entry to RELEASING by the view before is taken back then, while its RELEASE waits and
no revocation has begun, is the model's reading of R190 (notes/assumptions/33). -/
def Obligations.EvaluationPlacesTheBay : Prop :=
  (∀ (p q : Part) (sweepFresh readFresh pending : Bool) (r : Reasons), q = evaluate p →
    sweepFresh = (match p.sweep.last with
      | some c => c.dated && decide (((p.clock.minute : Int) - c.minute) % 1440 < 60)
      | none => false) →
    readFresh = (match p.faults.lastRead with
      | some c => c.dated && decide (((p.clock.minute : Int) - c.minute) % 1440 < 45)
      | none => false) →
    pending = (!sweepFresh || p.lamps.any fun l => l.fit.isSome && l.verdict == .unknown) →
    r = { p.bay.reasons with
      faultBlock := p.faults.coach.any fun e => e.cls == .block
      lampFail := p.lamps.any fun l => l.fit.isSome && (l.verdict == .low || l.verdict == .high)
      lampUnchecked := p.bay.window && pending
      faultsStale := p.bay.window && !readFresh
      linkLost := p.link.state == .lost
      chainFault := p.measure.chain != .good
      laneBlocked := p.bay.window && !p.bay.lanePass && (Part.laneView p).any (· == .occupied)
      laneUnknown := p.bay.window && !p.bay.lanePass && (Part.laneView p).any (· == .unknown)
        && !(Part.laneView p).any (· == .occupied) } →
    (openState p.bay.state = false → p.bay.state ≠ .standby → q = p)
    ∧ (p.bay.state = .standby → q.bay = { p.bay with reasons := r }
        ∧ q.line = Line.raised .baystate (decide (r ≠ p.bay.reasons)) p.line ∧ unchangedExcept [.bay, .line] p q)
    ∧ (openState p.bay.state = true →
        q.bay = { p.bay with
          state := (if Reasons.any r then .held else if pending || !readFresh then .prepare
            else if p.bay.window && p.link.holdConfirmed then .releasing else .ready)
          reasons := r
          lanePass := p.bay.lanePass && q.bay.state != .releasing
          patternFrom := if q.bay.state = p.bay.state then p.bay.patternFrom else p.osc }
        ∧ q.line = Line.raised .baystate (decide (q.bay.state ≠ p.bay.state ∨ r ≠ p.bay.reasons)) p.line
        ∧ (q.bay.state ≠ .releasing → unchangedExcept [.bay, .line, .plan, .remarks, .free] p q)
        ∧ (q.bay.state = .releasing → q.link.slots.bay = some { code := .release, arg := 0 }
            ∧ q.link.slots.faults = none
            ∧ SweepAborted true p q
            ∧ q.faults = { p.faults with status := .idle, kind := none, toRead := none, nextIndex := none, staging := [] })
        ∧ unchangedExcept bayBlocks p q))
  ∧ (∀ (p q : Part) (before : List Position), q = afterPeers before p → ∃ w : Part,
      w.remarks = { p.remarks with
        feederMismatch := Part.feederLimitInUse p != Part.ownLimit p, laneClash := Part.laneClashes p }
      ∧ w.line = Line.raised .baystate (decide (w.remarks ≠ p.remarks)) p.line
      ∧ unchangedExcept [.remarks, .line] p w
      ∧ (Part.laneView p = before → q = w)
      ∧ (Part.laneView p ≠ before →
          (p.bay.state ≠ .releasing ∨ p.bay.openedAt ≠ some p.osc ∨ Part.laneClear p = true
              ∨ p.link.slots.bay ≠ some { code := .release, arg := 0 } ∨ p.bay.revocation ≠ .none → q = evaluate w)))
  ∧ (∀ (p q r r' : Part) (es : List Peer), openState p.bay.state = true → p.bay.window = false → p.bay.lanePass = false →
      p.bay.revocation = .none → q = minuteEvent p → q.bay.window = true →
      r = afterPeers (Part.laneView q) { q with peers := { q.peers with entries := es } } →
      r' = minuteEvent (afterPeers (Part.laneView p) { p with peers := { p.peers with entries := es } }) →
      r.bay.state = r'.bay.state ∧ r.bay.reasons = r'.bay.reasons ∧ r.bay.window = true ∧ r'.bay.window = true
      ∧ (Part.laneClear r = false → r.bay.state = .held
          ∧ (q.bay.state = .releasing → r.link.slots.bay = none ∧ r.orders = p.orders)))

/-- A step takes a bay into RELEASING only with every condition of clearance met: the window open and hold confirmed, no hold
reason, lamps and read fresh, no COACH entry of class BLOCK and no fitted lamp failed or UNKNOWN, and the lane clear, or a lane
pass that was held or ordered and is consumed; RELEASE is placed, no sweep runs and no operation stands (R178, R179, R183). -/
def Obligations.ReleasingIsEnteredOnlyWhenClear : Prop :=
  ∀ s t : State, step s = .next t → s.part.bay.state ≠ .releasing → t.part.bay.state = .releasing →
    t.part.bay.window = true ∧ t.part.link.holdConfirmed = true ∧ t.part.link.state ≠ .lost
    ∧ t.part.measure.chain = .good ∧ Reasons.any t.part.bay.reasons = false
    ∧ (Part.laneClear t.part = true ∨ s.part.bay.lanePass = true ∨ ∃ o rest, s.pending = .orderLanepass o :: rest)
    ∧ t.part.bay.lanePass = false ∧ t.part.link.slots.bay = some { code := .release, arg := 0 }
    ∧ SweepStatus.isRunning t.part.sweep.status = false ∧ t.part.faults.status = .idle
    ∧ Part.readFresh t.part = true ∧ Part.sweepFresh t.part = true
    ∧ (∀ e ∈ t.part.faults.coach, e.cls ≠ .block)
    ∧ (∀ l ∈ t.part.lamps, l.fit.isSome → l.verdict ≠ .low ∧ l.verdict ≠ .high ∧ l.verdict ≠ .unknown)

/-- The beacon and the sounder in normal operation: the base pattern of the bay state from the moment of its entry, each pattern
in its on phase first, under the too-early overlay, and both under that of NUMBER_CLASH (R188); the sounder chirps 0.25 s on and
0.25 s off from its start (R189). A change of bay state begins the pattern anew, stops the chirps of CLEARED on leaving it, and
raises BAYSTATE, as does each change of the hold-reason set and of the remarks set (R25); then the planner recomputes with the
state that was left (R102). Leaving STANDBY ends the asking (R174), leaving CLEARED clears STALE_CLEARANCE (R185). -/
def Obligations.BeaconAndSounderFollowTheBay : Prop :=
  (∀ (p : Part) (since : Nat), p.mode = .normal → since = p.osc - p.bay.patternFrom →
    (p.bay.clashFrom = none → p.bay.tooEarly = none → Part.beacon p = (match p.bay.state with
      | .empty => { red := false, amber := false, green := false }
      | .coupled => { red := false, amber := true, green := false }
      | .standby => { red := false, amber := true, green := false }
      | .prepare => { red := false, amber := since / 1000000 % 2 == 0, green := false }
      | .ready => { red := false, amber := false, green := since / 1000000 % 2 == 0 }
      | .held => { red := true, amber := false, green := false }
      | .releasing => { red := false, amber := false, green := since / 250000 % 2 == 0 }
      | .cleared => { red := false, amber := false, green := true }))
    ∧ (∀ t, p.bay.tooEarly = some t → p.bay.clashFrom = none →
        Part.beacon p = { red := false, amber := (p.osc - t) / 250000 % 2 == 0, green := false })
    ∧ (∀ t, p.bay.clashFrom = some t → Part.beacon p
        = { red := (p.osc - t) / 500000 % 2 == 0, amber := (p.osc - t) / 500000 % 2 != 0, green := false })
    ∧ (p.bay.chirps = none → Part.sounder p = false)
    ∧ (∀ c, p.bay.chirps = some c → Part.sounder p = ((p.osc - c.start) / 250000 % 2 == 0)))
  ∧ (∀ (p : Part) (new : BayState),
    (p.bay.state = new → setBayState new p = p)
    ∧ (p.bay.state ≠ new → (setBayState new p).bay = { p.bay with
        state := new, patternFrom := p.osc
        chirps := if p.bay.state = .cleared ∧ p.bay.chirps.map (·.cause) = some .cleared then none else p.bay.chirps }
      ∧ (setBayState new p).line = Line.raised .baystate true p.line
      ∧ setBayState new p = recompute (.bayState p.bay.state) { p with
          bay := (setBayState new p).bay, line := Line.raised .baystate true p.line
          cache := if p.bay.state = .standby then { p.cache with want := none, askCount := 0 } else p.cache
          remarks := if p.bay.state = .cleared then { p.remarks with staleClearance := false } else p.remarks }))
  ∧ (∀ (p : Part) (r : Reasons) (k : Remark) (v : Bool),
    setReasons r p = { p with bay := { p.bay with reasons := r }
                              line := Line.raised .baystate (decide (r ≠ p.bay.reasons)) p.line }
    ∧ setRemark k v p = { p with remarks := Remarks.put p.remarks k v
                                 line := Line.raised .baystate (decide (Remarks.get p.remarks k ≠ v)) p.line })

/-- The timers and counts of the bay and the cache. HOLD_RETRY_EXPIRY places HOLD again where YARD_HOLD_REFUSED is held (R182);
TOO_EARLY_OVERLAY_END and SOUNDER_RUN_END end their run (R188, R189); the count ends are those of notes/assumptions/4:
ASK_COUNT_EXPIRY raises ASK again (R174), CLEARANCE_COUNT_EXPIRY sets STALE_CLEARANCE (R185). -/
def Obligations.BayTimersAndCountsEnd : Prop :=
  ∀ s : State, s.part.mode = .normal →
    (∀ t, s.part.bay.retry = some t →
      Completes .holdRetryExpiry s fun q =>
        q.osc = max s.part.osc t ∧ q.bay = { s.part.bay with retry := none }
        ∧ q.link = { s.part.link with slots := { s.part.link.slots with
            bay := if s.part.bay.reasons.yardHoldRefused then some { code := .hold, arg := 0 }
              else s.part.link.slots.bay } }
        ∧ unchangedExcept [.osc, .bay, .link] s.part q)
    ∧ (∀ t, s.part.bay.tooEarly = some t →
      Completes .tooEarlyOverlayEnd s fun q =>
        q = { s.part with osc := max s.part.osc (t + 1500000), bay := { s.part.bay with tooEarly := none } })
    ∧ (∀ c, s.part.bay.chirps = some c →
      Completes .sounderRunEnd s fun q =>
        q = { s.part with
          osc := max s.part.osc (c.start + (match c.cause with | .cleared => 10000000 | .unplanned => 1500000))
          bay := { s.part.bay with chirps := none } })
    ∧ (∀ coach, s.part.cache.want = some coach →
      Completes .askCountExpiry s fun q =>
        q.cache = { s.part.cache with askCount := 0 }
        ∧ (Part.sending s.part ≠ some .ask → q.line = { s.part.line with flags := { s.part.line.flags with ask := true } })
        ∧ (Part.sending s.part = some .ask → q.line = { s.part.line with marks := { s.part.line.marks with ask := true } })
        ∧ unchangedExcept [.cache, .line] s.part q)
    ∧ (s.part.bay.state = .cleared → s.part.bay.clearance < 15 →
      Completes .clearanceCountExpiry s fun q =>
        q.bay = { s.part.bay with clearance := 15 } ∧ q.remarks = { s.part.remarks with staleClearance := true }
        ∧ unchangedExcept [.bay, .remarks, .line] s.part q)

/-! ## Chapter 12: orders -/

/-- An ORDER for another station is ignored; one for the own number that finds 4 jobs is dropped, counted to 255 and raises
BAYSTATE at a rise; every row of the order handler, SHOW and BAD_KIND included (R191). A SHOW is taken and has no effect but its
job; a kind code above 7 is refused BAD_KIND (R191, R192, R198). -/
def Obligations.OrdersIgnoredDroppedShownOrBad : Prop :=
  (∀ (s : State) (o : Order) (c : Instr), s.part.mode = .normal →
     o.sender.toNat ≠ s.part.latch.station →
     (c = .orderSweep o ∨ c = .orderReadfaults o ∨ c = .orderClearstored o ∨ c = .orderHold o ∨ c = .orderUnhold o
       ∨ c = .orderLanepass o ∨ c = .orderBayreset o ∨ (∃ kind, c = .orderBadKind o kind) ∨ (∃ k, c = rowOfShow o k)) →
     (o.target.toNat ≠ s.part.latch.station →
       Completes c s fun q =>
         unchangedExcept [.osc, .line] s.part q ∧ q.line = Part.lineAfter s.part q.osc)
     ∧ (o.target.toNat = s.part.latch.station → s.part.orders.jobs.length = 4 →
       Completes c s fun q =>
         q.orders = { s.part.orders with
           dropped := if s.part.orders.dropped < 255 then s.part.orders.dropped + 1 else s.part.orders.dropped }
         ∧ q.line = Line.raised .baystate (decide (s.part.orders.dropped < 255)) (Part.lineAfter s.part q.osc)
         ∧ unchangedExcept [.osc, .line, .orders] s.part q))
  ∧ (∀ (s : State) (o : Order), s.part.mode = .normal →
       o.sender.toNat ≠ s.part.latch.station → o.target.toNat = s.part.latch.station → s.part.orders.jobs.length < 4 →
       (∀ k, Completes (rowOfShow o k) s fun q =>
         q.orders = { s.part.orders with
           jobs := s.part.orders.jobs ++ [{ tag := o.tag, kind := 6, argument := o.argument, sender := o.sender
                                            show? := some k, outcome := .taken, cursor := 0, total := none
                                            bare := false }] }
         ∧ q.line = Part.lineAfter s.part q.osc
         ∧ unchangedExcept [.osc, .line, .orders] s.part q)
       ∧ (∀ kind : Byte, 7 < kind.toNat → Completes (.orderBadKind o kind) s fun q =>
         q.orders = { s.part.orders with
           jobs := s.part.orders.jobs ++ [{ tag := o.tag, kind := kind, argument := o.argument, sender := o.sender
                                            show? := none, outcome := .refused .badKind, cursor := 0, total := none
                                            bare := false }] }
         ∧ q.line = Part.lineAfter s.part q.osc
         ∧ unchangedExcept [.osc, .line, .orders] s.part q))

/-- SWEEP, READFAULTS and CLEARSTORED are refused WRONG_STATE outside STANDBY, PREPARE, READY and HELD, LINK_DOWN unless the link
is UP, and BUSY while a sweep or an operation runs; otherwise they are taken and hand their request to the owner (R192). -/
def Obligations.CheckOrdersAreTakenOrRefused : Prop :=
  ∀ (s : State) (o : Order) (r : Bool → Option RefusalReason), s.part.mode = .normal →
    o.sender.toNat ≠ s.part.latch.station → o.target.toNat = s.part.latch.station → s.part.orders.jobs.length < 4 →
    (∀ busy, r busy = (if heldCoach s.part.bay.state = false then some .wrongState
      else if s.part.link.state ≠ .up then some .linkDown else if busy then some .busy else none)) →
    Completes (.orderSweep o) s (fun q =>
      q.orders.jobs = s.part.orders.jobs ++ [{ tag := o.tag, kind := 0, argument := o.argument, sender := o.sender
                                               show? := none, cursor := 0, total := none, bare := false
                                               outcome := (match r (SweepStatus.isRunning s.part.sweep.status) with
                                                 | some reason => .refused reason
                                                 | none => .taken) }]
      ∧ q.sweep = (if r (SweepStatus.isRunning s.part.sweep.status) = none
          then { s.part.sweep with status := .requested } else s.part.sweep)
      ∧ unchangedExcept [.osc, .line, .orders, .sweep] s.part q)
    ∧ (∀ kind c code, (kind = OpKind.read ∧ c = .orderReadfaults o ∧ code = (1 : Byte)
          ∨ kind = .clearAndRead ∧ c = .orderClearstored o ∧ code = 2) →
      Completes c s fun q =>
        q.orders.jobs = s.part.orders.jobs ++ [{ tag := o.tag, kind := code, argument := o.argument, sender := o.sender
                                                 show? := none, cursor := 0, total := none, bare := false
                                                 outcome := (match r (s.part.faults.status != .idle) with
                                                   | some reason => .refused reason
                                                   | none => .taken) }]
        ∧ q.faults = (if r (s.part.faults.status != .idle) = none then (faultRequest kind s.part).faults
            else s.part.faults)
        ∧ q.link = (if r (s.part.faults.status != .idle) = none then (faultRequest kind s.part).link else s.part.link)
        ∧ unchangedExcept [.osc, .line, .orders, .faults, .link] s.part q)

/-- HOLD, UNHOLD and LANEPASS are refused WRONG_STATE in EMPTY and COUPLED, and HOLD BUSY while a revocation stands. HOLD taken
sets ORDER_HOLD, or begins a revocation in RELEASING (DEFERRED) and in CLEARED (REQUESTED, HOLD placed), whose outcome is PENDING;
UNHOLD clears ORDER_HOLD and RELEASE_REFUSED, or withdraws the revocation, which ends REFUSED WITHDRAWN; LANEPASS holds the lane pass
until it is consumed (R186, R192, R193). The clearance evaluation follows HOLD and UNHOLD where the bay holds a coach, and LANEPASS
(R179). The model's choices: room for the revocation's follow-up job (notes/assumptions/13) and its argument 0 (notes/assumptions/17);
the moment at which the ORDER has ended (notes/assumptions/8); the opening noted for a lane view that meets it, which a lane pass ends
(notes/assumptions/33). -/
def Obligations.BayOrdersAreTakenOrRefused : Prop :=
  ∀ (s : State) (o : Order) (none_ : Prop), s.part.mode = .normal →
    o.sender.toNat ≠ s.part.latch.station → o.target.toNat = s.part.latch.station → s.part.orders.jobs.length < 4 →
    (none_ ↔ s.part.bay.state = .empty ∨ s.part.bay.state = .coupled) →
    (none_ → ∀ c code, c = .orderHold o ∧ code = (3 : Byte) ∨ c = .orderUnhold o ∧ code = 4
        ∨ c = .orderLanepass o ∧ code = 5 →
      Completes c s fun q =>
        q.orders.jobs = s.part.orders.jobs ++ [{ tag := o.tag, kind := code, argument := o.argument, sender := o.sender
                                                 show? := none, outcome := .refused .wrongState, cursor := 0
                                                 total := none, bare := false }]
        ∧ unchangedExcept [.osc, .line, .orders] s.part q)
    ∧ (¬none_ → s.part.bay.revocation ≠ .none →
      Completes (.orderHold o) s fun q =>
        q.orders.jobs = s.part.orders.jobs ++ [{ tag := o.tag, kind := 3, argument := o.argument, sender := o.sender
                                                 show? := none, outcome := .refused .busy, cursor := 0, total := none
                                                 bare := false }]
        ∧ unchangedExcept [.osc, .line, .orders] s.part q)
    ∧ (¬none_ → s.part.bay.revocation = .none →
      Completes (.orderHold o) s fun q =>
        (∃ j, q.orders.jobs = s.part.orders.jobs ++ [j] ∧ j.tag = o.tag ∧ j.kind = 3 ∧ j.sender = o.sender
          ∧ j.outcome = (if s.part.bay.state = .releasing ∨ s.part.bay.state = .cleared then .pending else .taken))
        ∧ (heldCoach s.part.bay.state = true → q.bay.reasons.orderHold = true
            ∧ (s.part.bay.state ≠ .standby → q.bay.state = .held)
            ∧ ∃ w : Part, q = { evaluate w with orders := q.orders }
              ∧ w.bay = { s.part.bay with reasons := { s.part.bay.reasons with orderHold := true } }
              ∧ w.line = Line.raised .baystate (!s.part.bay.reasons.orderHold) (Part.lineAfter s.part q.osc)
              ∧ unchangedExcept [.osc, .bay, .line] s.part w)
        ∧ (s.part.bay.state = .releasing → q.bay = { s.part.bay with revocation := .deferred }
            ∧ q.orders.revocation = some { tag := o.tag, sender := o.sender, sent := false })
        ∧ (s.part.bay.state = .cleared → q.bay = { s.part.bay with revocation := .requested }
            ∧ q.orders.revocation = some { tag := o.tag, sender := o.sender, sent := false }
            ∧ q.link.slots.bay = some { code := .hold, arg := 0 })
        ∧ unchangedExcept ([.osc, .orders] ++ bayBlocks) s.part q)
    ∧ (¬none_ →
      Completes (.orderUnhold o) s fun q =>
        (∃ j, q.orders.jobs.getLast? = some j ∧ j.tag = o.tag ∧ j.kind = 4 ∧ j.sender = o.sender ∧ j.outcome = .taken)
        ∧ (heldCoach s.part.bay.state = true → q.bay.reasons.orderHold = false ∧ q.bay.reasons.releaseRefused = false
            ∧ ∃ w : Part, q = { evaluate w with orders := q.orders }
              ∧ w.bay = { s.part.bay with
                  reasons := { s.part.bay.reasons with orderHold := false, releaseRefused := false } }
              ∧ w.line = Line.raised .baystate (s.part.bay.reasons.orderHold || s.part.bay.reasons.releaseRefused)
                  (Part.lineAfter s.part q.osc)
              ∧ unchangedExcept [.osc, .bay, .line] s.part w)
        ∧ (heldCoach s.part.bay.state = true → q.orders.revocation = s.part.orders.revocation
            ∧ ∃ j, q.orders.jobs = s.part.orders.jobs ++ [j])
        ∧ (s.part.bay.state = .releasing ∨ s.part.bay.state = .cleared →
            q.bay = { s.part.bay with revocation := .none }
            ∧ (s.part.bay.revocation = .none → q.orders.revocation = s.part.orders.revocation
                ∧ ∃ j, q.orders.jobs = s.part.orders.jobs ++ [j])
            ∧ (s.part.bay.revocation ≠ .none → RevocationEnded (.refused .withdrawn)
                [{ tag := o.tag, kind := 4, argument := o.argument, sender := o.sender, show? := none, outcome := .taken
                   cursor := 0, total := none, bare := false }] s.part q))
        ∧ unchangedExcept ([.osc, .orders] ++ bayBlocks) s.part q)
    ∧ (¬none_ →
      Completes (.orderLanepass o) s fun q =>
        (∃ j, q.orders.jobs = s.part.orders.jobs ++ [j] ∧ j.tag = o.tag ∧ j.kind = 5 ∧ j.sender = o.sender
          ∧ j.outcome = .taken)
        ∧ (∃ w : Part, q = { evaluate w with orders := q.orders }
            ∧ w.bay = { s.part.bay with lanePass := true, openedAt := none } ∧ w.line = Part.lineAfter s.part q.osc
            ∧ unchangedExcept [.osc, .bay, .line] s.part w)
        ∧ (q.bay.lanePass = true ∨ (openState s.part.bay.state = true ∧ q.bay.state = .releasing))
        ∧ unchangedExcept ([.osc, .orders] ++ bayBlocks) s.part q)

/-- BAYRESET is refused WRONG_STATE in RELEASING, but where a HOLD ACK of the same moment has led there (R190). Taken, it clears the
bay record, sets grant and duty to 0 at once, stops the sounder, and leaves the bay EMPTY, or COUPLED with the link in STARTING where
couple sense is present; the counters, the peer table, the clock, MUTED, the shed lock and the roster cache's entries are kept, a
revocation ends REFUSED WRONG_STATE, and its own job reports TAKEN (R141, R187, R192 to R194). The model's choices: that R190 goes
before R187 at that moment, which a field of the model's own, `holdAckAt`, holds (notes/assumptions/41), the order's moment being the
end of its frame (notes/assumptions/8); room for the revocation's follow-up job (notes/assumptions/13) and its argument 0
(notes/assumptions/17); the zero is held to the next boundary in a field of the model's own, `zeroed` (notes/assumptions/27). -/
def Obligations.BayResetClearsTheBay : Prop :=
  ∀ (s : State) (o : Order) (refused : Prop), s.part.mode = .normal →
    o.sender.toNat ≠ s.part.latch.station → o.target.toNat = s.part.latch.station → s.part.orders.jobs.length < 4 →
    (refused ↔ s.part.bay.state = .releasing
      ∧ s.part.bay.holdAckAt ≠ some (max s.part.osc (Part.frameEnd s.part 62))) →
    (refused →
      Completes (.orderBayreset o) s fun q =>
        q.orders.jobs = s.part.orders.jobs ++ [{ tag := o.tag, kind := 7, argument := o.argument, sender := o.sender
                                                 show? := none, outcome := .refused .wrongState, cursor := 0
                                                 total := none, bare := false }]
        ∧ unchangedExcept [.osc, .line, .orders] s.part q)
    ∧ (¬refused →
      Completes (.orderBayreset o) s fun q =>
        q.bay.couple = s.part.bay.couple
        ∧ q.bay.state = (if s.part.bay.couple then .coupled else .empty)
        ∧ q.bay.identity = none ∧ q.bay.roster = none ∧ q.bay.reasons = {} ∧ q.bay.window = false
        ∧ q.bay.readWatch = .notBegun ∧ q.bay.sweepWatch = .notBegun ∧ q.bay.windowWatch = .notBegun
        ∧ q.bay.lanePass = false ∧ q.bay.revocation = .none ∧ q.bay.decoupleFlag = .none ∧ q.bay.retry = none
        ∧ q.bay.clearance = 0 ∧ q.bay.tooEarly = none ∧ q.bay.chirps = none
        ∧ q.bay.clashFrom = s.part.bay.clashFrom
        ∧ q.share = { s.part.share with ga := 0, zeroed := true } ∧ q.heat.duty = 0 ∧ q.heat.shadow = 0 ∧ q.heat.pin = false
        ∧ (s.part.bay.couple = true → q.link.state = .starting ∧ q.link.inFlight = none
            ∧ q.link.holdConfirmed = false ∧ q.link.identConfirmed = false ∧ q.link.heard = false
            ∧ q.link.startTimer = some (q.osc + 5000000)
            ∧ (s.part.link.state ≠ .down → s.part.link.beat ≤ q.osc →
                q.osc < q.link.beat ∧ q.link.beat ≤ q.osc + 2000 ∧ (q.link.beat - s.part.link.beat) % 2000 = 0)
            ∧ q.link.slots = { keeper := some { code := .ping, arg := 0 }, bay := none, sweep := none, faults := none })
        ∧ (s.part.bay.couple = false → q.link.state = s.part.link.state)
        ∧ q.sweep.status = .none ∧ q.sweep.last = none ∧ q.lamps = clearedLamps ∧ q.faults.coach = [] ∧ q.faults.bay = []
        ∧ q.faults.status = .idle ∧ q.remarks.faultsTruncated = false ∧ q.remarks.numberClash = s.part.remarks.numberClash
        ∧ q.measure.cabin = { ring := [], run := none, status := .ok, stale := 0 }
        ∧ q.measure.owedCabin = s.part.measure.owedCabin
        ∧ q.cache.entries = s.part.cache.entries ∧ q.line.muted = s.part.line.muted
        ∧ q.line.faults = s.part.line.faults ∧ q.line.corrupt = s.part.line.corrupt
        ∧ q.orders.dropped = s.part.orders.dropped
        ∧ RevocationEnded (.refused .wrongState)
            [{ tag := o.tag, kind := 7, argument := o.argument, sender := o.sender, show? := none, outcome := .taken
               cursor := 0, total := none, bare := false }] s.part q
        ∧ unchangedExcept ([.osc, .share, .lamps, .orders] ++ bayBlocks) s.part q)

/-! ## Invariants -/

/-- Every invariant holds at reset (of the straps of notes/assumptions/1) and after every START_UP. -/
def Obligations.InvariantsHoldAtResetAndAfterStartUp : Prop :=
  (∀ p : Part, (p = State.reset.part ∨ ∃ straps s, exec (.startUp straps) s = .next { s with part := p }) →
    ClockInv p ∧ LineInv p ∧ PeerInv p ∧ PeerRemarkInv p ∧ GrantInv p ∧ DutyInv p ∧ ZeroInv p ∧ ReasonInv p ∧ ClearanceInv p
      ∧ BayEntryInv p ∧ FaultListInv p ∧ RosterInv p ∧ OrderInv p ∧ SweepInv p ∧ LinkInv p ∧ CoupleInv p ∧ BayInv p
      ∧ RevocationInv p)

/-- Every step keeps the clock in its range with the silence timer running exactly while the status is VALID, the yard line's
counts in range with MUTED exactly at 16 faults and no transmission in MUTED, and at most 4 reply jobs and an orders-dropped
counter of at most 255 (R7, R26 to R28, R191). -/
def Obligations.EveryStepKeepsClockLineAndQueue : Prop :=
  ∀ s t : State, ClockInv s.part ∧ LineInv s.part ∧ OrderInv s.part → step s = .next t →
    ClockInv t.part ∧ LineInv t.part ∧ OrderInv t.part

/-- Every step keeps the peer table in order, within its 31 entries and to the own group or lane, and its remarks true (R33, R36,
R39, R44, R46). -/
def Obligations.EveryStepKeepsThePeerTable : Prop :=
  ∀ s t : State, PeerInv s.part ∧ PeerRemarkInv s.part → step s = .next t → PeerInv t.part ∧ PeerRemarkInv t.part

/-- Every step keeps the grant within min(Ih, A) and the duty within grant and ceiling, and the heater off where it must be, from
an immediate zero to the next boundary too (R57, R67, R75 to R78, R83). -/
def Obligations.EveryStepKeepsTheHeaterWithinItsGrant : Prop :=
  ∀ s t : State, GrantInv s.part ∧ DutyInv s.part ∧ ZeroInv s.part → step s = .next t →
    GrantInv t.part ∧ DutyInv t.part ∧ ZeroInv t.part

/-- Every step keeps a bay that is RELEASING or CLEARED free of BLOCK entries and of lamps that failed or are UNKNOWN, and the BAY
entries true to the lamp table (R152, R183). -/
def Obligations.EveryStepKeepsClearance : Prop :=
  ∀ s t : State, ClearanceInv s.part ∧ BayEntryInv s.part → step s = .next t → ClearanceInv t.part ∧ BayEntryInv t.part

/-- Every step keeps the fault list in its order (class, COACH before BAY, coach order, lamp position), within 24 COACH entries of
distinct keys, each of the class of its record, the staging set in coach order and the lamp table in its positions; and the roster
cache in order, within 16 entries of distinct coaches and purged of overdue ones (R142, R157, R159, R160, R162, R163, R171). -/
def Obligations.EveryStepKeepsFaultListAndRosterCache : Prop :=
  ∀ s t : State, FaultListInv s.part ∧ RosterInv s.part → step s = .next t → FaultListInv t.part ∧ RosterInv t.part

/-- Every step keeps the coach link's command, slots and timers true to its state, the link DOWN exactly without couple sense, and
a sweep running only with the link UP and the chain GOOD (R130 to R135, R153). -/
def Obligations.EveryStepKeepsTheLinkAndTheSweep : Prop :=
  ∀ s t : State, LinkInv s.part ∧ CoupleInv s.part ∧ SweepInv s.part → step s = .next t →
    LinkInv t.part ∧ CoupleInv t.part ∧ SweepInv t.part

/-- Every step keeps the bay record true to the bay state, a revocation to RELEASING and CLEARED, and the hold-reason set
non-empty in HELD and empty where no reason may stand (R175 to R179, R186, R193). -/
def Obligations.EveryStepKeepsTheBayRecord : Prop :=
  ∀ s t : State, CoupleInv s.part ∧ BayInv s.part ∧ RevocationInv s.part ∧ ReasonInv s.part → step s = .next t →
    CoupleInv t.part ∧ BayInv t.part ∧ RevocationInv t.part ∧ ReasonInv t.part
end

