-- ==== Sys2Proof/Laws/Frames.lean ====
section
/-! SUPPORT. What each operation leaves as it was, block by block: one lemma for each operation, a conjunction of
equations that `simp` uses one by one. A block that a lemma does not name is one the operation may write. -/

namespace Sys2Proof.Machine

@[simp] theorem advanceTo_keeps (t : Moment) (p : Part) :
    (advanceTo t p).mode = p.mode ∧ (advanceTo t p).latch = p.latch ∧ (advanceTo t p).clock = p.clock
      ∧ (advanceTo t p).line = p.line ∧ (advanceTo t p).peers = p.peers ∧ (advanceTo t p).share = p.share
      ∧ (advanceTo t p).heat = p.heat ∧ (advanceTo t p).measure = p.measure ∧ (advanceTo t p).plan = p.plan
      ∧ (advanceTo t p).link = p.link ∧ (advanceTo t p).sweep = p.sweep ∧ (advanceTo t p).lamps = p.lamps
      ∧ (advanceTo t p).faults = p.faults ∧ (advanceTo t p).cache = p.cache ∧ (advanceTo t p).bay = p.bay
      ∧ (advanceTo t p).remarks = p.remarks ∧ (advanceTo t p).orders = p.orders ∧ (advanceTo t p).free = p.free := by
  simp [advanceTo]

@[simp] theorem raise_keeps (k : SendKind) (p : Part) :
    (raise k p).mode = p.mode ∧ (raise k p).osc = p.osc ∧ (raise k p).latch = p.latch ∧ (raise k p).clock = p.clock
      ∧ (raise k p).peers = p.peers ∧ (raise k p).share = p.share ∧ (raise k p).heat = p.heat
      ∧ (raise k p).measure = p.measure ∧ (raise k p).plan = p.plan ∧ (raise k p).link = p.link
      ∧ (raise k p).sweep = p.sweep ∧ (raise k p).lamps = p.lamps ∧ (raise k p).faults = p.faults
      ∧ (raise k p).cache = p.cache ∧ (raise k p).bay = p.bay ∧ (raise k p).remarks = p.remarks
      ∧ (raise k p).orders = p.orders ∧ (raise k p).free = p.free := by
  unfold raise
  split <;> simp

@[simp] theorem setRemark_keeps (k : Remark) (v : Bool) (p : Part) :
    (setRemark k v p).mode = p.mode ∧ (setRemark k v p).osc = p.osc ∧ (setRemark k v p).latch = p.latch
      ∧ (setRemark k v p).clock = p.clock ∧ (setRemark k v p).peers = p.peers ∧ (setRemark k v p).share = p.share
      ∧ (setRemark k v p).heat = p.heat ∧ (setRemark k v p).measure = p.measure ∧ (setRemark k v p).plan = p.plan
      ∧ (setRemark k v p).link = p.link ∧ (setRemark k v p).sweep = p.sweep ∧ (setRemark k v p).lamps = p.lamps
      ∧ (setRemark k v p).faults = p.faults ∧ (setRemark k v p).cache = p.cache ∧ (setRemark k v p).bay = p.bay
      ∧ (setRemark k v p).orders = p.orders ∧ (setRemark k v p).free = p.free := by
  unfold setRemark
  split <;> simp

@[simp] theorem setReasons_keeps (r : Reasons) (p : Part) :
    (setReasons r p).mode = p.mode ∧ (setReasons r p).osc = p.osc ∧ (setReasons r p).latch = p.latch
      ∧ (setReasons r p).clock = p.clock ∧ (setReasons r p).peers = p.peers ∧ (setReasons r p).share = p.share
      ∧ (setReasons r p).heat = p.heat ∧ (setReasons r p).measure = p.measure ∧ (setReasons r p).plan = p.plan
      ∧ (setReasons r p).link = p.link ∧ (setReasons r p).sweep = p.sweep ∧ (setReasons r p).lamps = p.lamps
      ∧ (setReasons r p).faults = p.faults ∧ (setReasons r p).cache = p.cache ∧ (setReasons r p).remarks = p.remarks
      ∧ (setReasons r p).orders = p.orders ∧ (setReasons r p).free = p.free := by
  unfold setReasons
  split <;> simp

@[simp] theorem judgePlanRemarks_keeps (i : PlanInputs) (p : Part) :
    (judgePlanRemarks i p).mode = p.mode ∧ (judgePlanRemarks i p).osc = p.osc
      ∧ (judgePlanRemarks i p).latch = p.latch ∧ (judgePlanRemarks i p).clock = p.clock
      ∧ (judgePlanRemarks i p).peers = p.peers ∧ (judgePlanRemarks i p).share = p.share
      ∧ (judgePlanRemarks i p).heat = p.heat ∧ (judgePlanRemarks i p).measure = p.measure
      ∧ (judgePlanRemarks i p).plan = p.plan ∧ (judgePlanRemarks i p).link = p.link
      ∧ (judgePlanRemarks i p).sweep = p.sweep ∧ (judgePlanRemarks i p).lamps = p.lamps
      ∧ (judgePlanRemarks i p).faults = p.faults ∧ (judgePlanRemarks i p).cache = p.cache
      ∧ (judgePlanRemarks i p).bay = p.bay ∧ (judgePlanRemarks i p).orders = p.orders
      ∧ (judgePlanRemarks i p).free = p.free := by
  simp [judgePlanRemarks]

@[simp] theorem recompute_keeps (t : Trigger) (p : Part) :
    (recompute t p).mode = p.mode ∧ (recompute t p).osc = p.osc ∧ (recompute t p).latch = p.latch
      ∧ (recompute t p).clock = p.clock ∧ (recompute t p).peers = p.peers ∧ (recompute t p).share = p.share
      ∧ (recompute t p).heat = p.heat ∧ (recompute t p).measure = p.measure ∧ (recompute t p).link = p.link
      ∧ (recompute t p).sweep = p.sweep ∧ (recompute t p).lamps = p.lamps ∧ (recompute t p).faults = p.faults
      ∧ (recompute t p).cache = p.cache ∧ (recompute t p).bay = p.bay ∧ (recompute t p).orders = p.orders := by
  simp [recompute]

@[simp] theorem setSlot_keeps (who : Requester) (c : Option Command) (p : Part) :
    (setSlot who c p).mode = p.mode ∧ (setSlot who c p).osc = p.osc ∧ (setSlot who c p).latch = p.latch
      ∧ (setSlot who c p).clock = p.clock ∧ (setSlot who c p).line = p.line ∧ (setSlot who c p).peers = p.peers
      ∧ (setSlot who c p).share = p.share ∧ (setSlot who c p).heat = p.heat ∧ (setSlot who c p).measure = p.measure
      ∧ (setSlot who c p).plan = p.plan ∧ (setSlot who c p).sweep = p.sweep ∧ (setSlot who c p).lamps = p.lamps
      ∧ (setSlot who c p).faults = p.faults ∧ (setSlot who c p).cache = p.cache ∧ (setSlot who c p).bay = p.bay
      ∧ (setSlot who c p).remarks = p.remarks ∧ (setSlot who c p).orders = p.orders
      ∧ (setSlot who c p).free = p.free := by
  simp [setSlot]

@[simp] theorem place_keeps (who : Requester) (code : CommandCode) (p : Part) :
    (place who code p).mode = p.mode ∧ (place who code p).osc = p.osc ∧ (place who code p).latch = p.latch
      ∧ (place who code p).clock = p.clock ∧ (place who code p).line = p.line ∧ (place who code p).peers = p.peers
      ∧ (place who code p).share = p.share ∧ (place who code p).heat = p.heat
      ∧ (place who code p).measure = p.measure ∧ (place who code p).plan = p.plan
      ∧ (place who code p).sweep = p.sweep ∧ (place who code p).lamps = p.lamps
      ∧ (place who code p).faults = p.faults ∧ (place who code p).cache = p.cache ∧ (place who code p).bay = p.bay
      ∧ (place who code p).remarks = p.remarks ∧ (place who code p).orders = p.orders
      ∧ (place who code p).free = p.free := by
  simp [place]

@[simp] theorem placeLamps_keeps (arg : Byte) (p : Part) :
    (placeLamps arg p).mode = p.mode ∧ (placeLamps arg p).osc = p.osc ∧ (placeLamps arg p).latch = p.latch
      ∧ (placeLamps arg p).clock = p.clock ∧ (placeLamps arg p).line = p.line ∧ (placeLamps arg p).peers = p.peers
      ∧ (placeLamps arg p).share = p.share ∧ (placeLamps arg p).heat = p.heat
      ∧ (placeLamps arg p).measure = p.measure ∧ (placeLamps arg p).plan = p.plan
      ∧ (placeLamps arg p).lamps = p.lamps ∧ (placeLamps arg p).faults = p.faults
      ∧ (placeLamps arg p).cache = p.cache ∧ (placeLamps arg p).bay = p.bay ∧ (placeLamps arg p).remarks = p.remarks
      ∧ (placeLamps arg p).orders = p.orders ∧ (placeLamps arg p).free = p.free := by
  simp [placeLamps]

@[simp] theorem withdrawLamps_keeps (p : Part) :
    (withdrawLamps p).mode = p.mode ∧ (withdrawLamps p).osc = p.osc ∧ (withdrawLamps p).latch = p.latch
      ∧ (withdrawLamps p).clock = p.clock ∧ (withdrawLamps p).line = p.line ∧ (withdrawLamps p).peers = p.peers
      ∧ (withdrawLamps p).share = p.share ∧ (withdrawLamps p).heat = p.heat ∧ (withdrawLamps p).measure = p.measure
      ∧ (withdrawLamps p).plan = p.plan ∧ (withdrawLamps p).lamps = p.lamps ∧ (withdrawLamps p).faults = p.faults
      ∧ (withdrawLamps p).cache = p.cache ∧ (withdrawLamps p).bay = p.bay ∧ (withdrawLamps p).remarks = p.remarks
      ∧ (withdrawLamps p).orders = p.orders ∧ (withdrawLamps p).free = p.free := by
  simp [withdrawLamps]

@[simp] theorem placeLightsOff_keeps (p : Part) :
    (placeLightsOff p).mode = p.mode ∧ (placeLightsOff p).osc = p.osc ∧ (placeLightsOff p).latch = p.latch
      ∧ (placeLightsOff p).clock = p.clock ∧ (placeLightsOff p).line = p.line ∧ (placeLightsOff p).peers = p.peers
      ∧ (placeLightsOff p).share = p.share ∧ (placeLightsOff p).heat = p.heat
      ∧ (placeLightsOff p).measure = p.measure ∧ (placeLightsOff p).plan = p.plan
      ∧ (placeLightsOff p).lamps = p.lamps ∧ (placeLightsOff p).faults = p.faults
      ∧ (placeLightsOff p).cache = p.cache ∧ (placeLightsOff p).bay = p.bay ∧ (placeLightsOff p).remarks = p.remarks
      ∧ (placeLightsOff p).orders = p.orders ∧ (placeLightsOff p).free = p.free := by
  simp [placeLightsOff]

@[simp] theorem sweepRequest_keeps (p : Part) :
    (sweepRequest p).mode = p.mode ∧ (sweepRequest p).osc = p.osc ∧ (sweepRequest p).latch = p.latch
      ∧ (sweepRequest p).clock = p.clock ∧ (sweepRequest p).line = p.line ∧ (sweepRequest p).peers = p.peers
      ∧ (sweepRequest p).share = p.share ∧ (sweepRequest p).heat = p.heat ∧ (sweepRequest p).measure = p.measure
      ∧ (sweepRequest p).plan = p.plan ∧ (sweepRequest p).link = p.link ∧ (sweepRequest p).lamps = p.lamps
      ∧ (sweepRequest p).faults = p.faults ∧ (sweepRequest p).cache = p.cache ∧ (sweepRequest p).bay = p.bay
      ∧ (sweepRequest p).remarks = p.remarks ∧ (sweepRequest p).orders = p.orders ∧ (sweepRequest p).free = p.free := by
  unfold sweepRequest
  split <;> simp

@[simp] theorem discardLampCodes_keeps (p : Part) :
    (discardLampCodes p).mode = p.mode ∧ (discardLampCodes p).osc = p.osc ∧ (discardLampCodes p).latch = p.latch
      ∧ (discardLampCodes p).clock = p.clock ∧ (discardLampCodes p).line = p.line
      ∧ (discardLampCodes p).peers = p.peers ∧ (discardLampCodes p).share = p.share
      ∧ (discardLampCodes p).heat = p.heat ∧ (discardLampCodes p).plan = p.plan ∧ (discardLampCodes p).link = p.link
      ∧ (discardLampCodes p).sweep = p.sweep ∧ (discardLampCodes p).lamps = p.lamps
      ∧ (discardLampCodes p).faults = p.faults ∧ (discardLampCodes p).cache = p.cache
      ∧ (discardLampCodes p).bay = p.bay ∧ (discardLampCodes p).remarks = p.remarks
      ∧ (discardLampCodes p).orders = p.orders ∧ (discardLampCodes p).free = p.free := by
  simp [discardLampCodes]

@[simp] theorem sweepAbort_keeps (b : Bool) (p : Part) :
    (sweepAbort b p).mode = p.mode ∧ (sweepAbort b p).osc = p.osc ∧ (sweepAbort b p).latch = p.latch
      ∧ (sweepAbort b p).clock = p.clock ∧ (sweepAbort b p).line = p.line ∧ (sweepAbort b p).peers = p.peers
      ∧ (sweepAbort b p).share = p.share ∧ (sweepAbort b p).plan = p.plan ∧ (sweepAbort b p).lamps = p.lamps
      ∧ (sweepAbort b p).faults = p.faults ∧ (sweepAbort b p).cache = p.cache ∧ (sweepAbort b p).bay = p.bay
      ∧ (sweepAbort b p).remarks = p.remarks ∧ (sweepAbort b p).orders = p.orders ∧ (sweepAbort b p).free = p.free := by
  unfold sweepAbort
  (repeat' split) <;> simp

@[simp] theorem clearSweep_keeps (p : Part) :
    (clearSweep p).mode = p.mode ∧ (clearSweep p).osc = p.osc ∧ (clearSweep p).latch = p.latch
      ∧ (clearSweep p).clock = p.clock ∧ (clearSweep p).line = p.line ∧ (clearSweep p).peers = p.peers
      ∧ (clearSweep p).share = p.share ∧ (clearSweep p).plan = p.plan ∧ (clearSweep p).faults = p.faults
      ∧ (clearSweep p).cache = p.cache ∧ (clearSweep p).bay = p.bay ∧ (clearSweep p).remarks = p.remarks
      ∧ (clearSweep p).orders = p.orders ∧ (clearSweep p).free = p.free := by
  simp [clearSweep]

@[simp] theorem waitOperation_keeps (k : Option OpKind) (p : Part) :
    (waitOperation k p).mode = p.mode ∧ (waitOperation k p).osc = p.osc ∧ (waitOperation k p).latch = p.latch
      ∧ (waitOperation k p).clock = p.clock ∧ (waitOperation k p).line = p.line
      ∧ (waitOperation k p).peers = p.peers ∧ (waitOperation k p).share = p.share
      ∧ (waitOperation k p).heat = p.heat ∧ (waitOperation k p).measure = p.measure
      ∧ (waitOperation k p).plan = p.plan ∧ (waitOperation k p).link = p.link ∧ (waitOperation k p).sweep = p.sweep
      ∧ (waitOperation k p).lamps = p.lamps ∧ (waitOperation k p).cache = p.cache ∧ (waitOperation k p).bay = p.bay
      ∧ (waitOperation k p).remarks = p.remarks ∧ (waitOperation k p).orders = p.orders
      ∧ (waitOperation k p).free = p.free := by
  simp [waitOperation]

@[simp] theorem startOperation_keeps (k : OpKind) (p : Part) :
    (startOperation k p).mode = p.mode ∧ (startOperation k p).osc = p.osc ∧ (startOperation k p).latch = p.latch
      ∧ (startOperation k p).clock = p.clock ∧ (startOperation k p).line = p.line
      ∧ (startOperation k p).peers = p.peers ∧ (startOperation k p).share = p.share
      ∧ (startOperation k p).heat = p.heat ∧ (startOperation k p).measure = p.measure
      ∧ (startOperation k p).plan = p.plan ∧ (startOperation k p).sweep = p.sweep
      ∧ (startOperation k p).lamps = p.lamps ∧ (startOperation k p).cache = p.cache
      ∧ (startOperation k p).bay = p.bay ∧ (startOperation k p).remarks = p.remarks
      ∧ (startOperation k p).orders = p.orders ∧ (startOperation k p).free = p.free := by
  cases k <;> simp [startOperation]

@[simp] theorem faultRequest_keeps (k : OpKind) (p : Part) :
    (faultRequest k p).mode = p.mode ∧ (faultRequest k p).osc = p.osc ∧ (faultRequest k p).latch = p.latch
      ∧ (faultRequest k p).clock = p.clock ∧ (faultRequest k p).line = p.line ∧ (faultRequest k p).peers = p.peers
      ∧ (faultRequest k p).share = p.share ∧ (faultRequest k p).heat = p.heat
      ∧ (faultRequest k p).measure = p.measure ∧ (faultRequest k p).plan = p.plan
      ∧ (faultRequest k p).sweep = p.sweep ∧ (faultRequest k p).lamps = p.lamps ∧ (faultRequest k p).cache = p.cache
      ∧ (faultRequest k p).bay = p.bay ∧ (faultRequest k p).remarks = p.remarks
      ∧ (faultRequest k p).orders = p.orders ∧ (faultRequest k p).free = p.free := by
  unfold faultRequest
  (repeat' split) <;> simp

@[simp] theorem operationWaits_keeps (p : Part) :
    (operationWaits p).mode = p.mode ∧ (operationWaits p).osc = p.osc ∧ (operationWaits p).latch = p.latch
      ∧ (operationWaits p).clock = p.clock ∧ (operationWaits p).line = p.line ∧ (operationWaits p).peers = p.peers
      ∧ (operationWaits p).share = p.share ∧ (operationWaits p).heat = p.heat
      ∧ (operationWaits p).measure = p.measure ∧ (operationWaits p).plan = p.plan
      ∧ (operationWaits p).sweep = p.sweep ∧ (operationWaits p).lamps = p.lamps ∧ (operationWaits p).cache = p.cache
      ∧ (operationWaits p).bay = p.bay ∧ (operationWaits p).remarks = p.remarks
      ∧ (operationWaits p).orders = p.orders ∧ (operationWaits p).free = p.free := by
  unfold operationWaits
  split <;> simp

@[simp] theorem operationEnds_keeps (p : Part) :
    (operationEnds p).mode = p.mode ∧ (operationEnds p).osc = p.osc ∧ (operationEnds p).latch = p.latch
      ∧ (operationEnds p).clock = p.clock ∧ (operationEnds p).line = p.line ∧ (operationEnds p).peers = p.peers
      ∧ (operationEnds p).share = p.share ∧ (operationEnds p).heat = p.heat ∧ (operationEnds p).measure = p.measure
      ∧ (operationEnds p).plan = p.plan ∧ (operationEnds p).sweep = p.sweep ∧ (operationEnds p).lamps = p.lamps
      ∧ (operationEnds p).cache = p.cache ∧ (operationEnds p).bay = p.bay ∧ (operationEnds p).remarks = p.remarks
      ∧ (operationEnds p).orders = p.orders ∧ (operationEnds p).free = p.free := by
  simp [operationEnds]

@[simp] theorem operationResumes_keeps (p : Part) :
    (operationResumes p).mode = p.mode ∧ (operationResumes p).osc = p.osc ∧ (operationResumes p).latch = p.latch
      ∧ (operationResumes p).clock = p.clock ∧ (operationResumes p).line = p.line
      ∧ (operationResumes p).peers = p.peers ∧ (operationResumes p).share = p.share
      ∧ (operationResumes p).heat = p.heat ∧ (operationResumes p).measure = p.measure
      ∧ (operationResumes p).plan = p.plan ∧ (operationResumes p).sweep = p.sweep
      ∧ (operationResumes p).lamps = p.lamps ∧ (operationResumes p).cache = p.cache
      ∧ (operationResumes p).bay = p.bay ∧ (operationResumes p).remarks = p.remarks
      ∧ (operationResumes p).orders = p.orders ∧ (operationResumes p).free = p.free := by
  unfold operationResumes
  split <;> simp

@[simp] theorem clearFaults_keeps (p : Part) :
    (clearFaults p).mode = p.mode ∧ (clearFaults p).osc = p.osc ∧ (clearFaults p).latch = p.latch
      ∧ (clearFaults p).clock = p.clock ∧ (clearFaults p).peers = p.peers ∧ (clearFaults p).share = p.share
      ∧ (clearFaults p).heat = p.heat ∧ (clearFaults p).measure = p.measure ∧ (clearFaults p).plan = p.plan
      ∧ (clearFaults p).sweep = p.sweep ∧ (clearFaults p).lamps = p.lamps ∧ (clearFaults p).cache = p.cache
      ∧ (clearFaults p).bay = p.bay ∧ (clearFaults p).orders = p.orders ∧ (clearFaults p).free = p.free := by
  simp [clearFaults]

@[simp] theorem resetCabin_keeps (p : Part) :
    (resetCabin p).mode = p.mode ∧ (resetCabin p).osc = p.osc ∧ (resetCabin p).latch = p.latch
      ∧ (resetCabin p).clock = p.clock ∧ (resetCabin p).line = p.line ∧ (resetCabin p).peers = p.peers
      ∧ (resetCabin p).share = p.share ∧ (resetCabin p).heat = p.heat ∧ (resetCabin p).plan = p.plan
      ∧ (resetCabin p).link = p.link ∧ (resetCabin p).sweep = p.sweep ∧ (resetCabin p).lamps = p.lamps
      ∧ (resetCabin p).faults = p.faults ∧ (resetCabin p).cache = p.cache ∧ (resetCabin p).bay = p.bay
      ∧ (resetCabin p).remarks = p.remarks ∧ (resetCabin p).orders = p.orders ∧ (resetCabin p).free = p.free := by
  simp [resetCabin]

@[simp] theorem cabinNotOwed_keeps (p : Part) :
    (cabinNotOwed p).mode = p.mode ∧ (cabinNotOwed p).osc = p.osc ∧ (cabinNotOwed p).latch = p.latch
      ∧ (cabinNotOwed p).clock = p.clock ∧ (cabinNotOwed p).line = p.line ∧ (cabinNotOwed p).peers = p.peers
      ∧ (cabinNotOwed p).share = p.share ∧ (cabinNotOwed p).heat = p.heat ∧ (cabinNotOwed p).plan = p.plan
      ∧ (cabinNotOwed p).link = p.link ∧ (cabinNotOwed p).sweep = p.sweep ∧ (cabinNotOwed p).lamps = p.lamps
      ∧ (cabinNotOwed p).faults = p.faults ∧ (cabinNotOwed p).cache = p.cache ∧ (cabinNotOwed p).bay = p.bay
      ∧ (cabinNotOwed p).remarks = p.remarks ∧ (cabinNotOwed p).orders = p.orders ∧ (cabinNotOwed p).free = p.free := by
  simp [cabinNotOwed]

@[simp] theorem immediateZero_keeps (p : Part) :
    (immediateZero p).mode = p.mode ∧ (immediateZero p).osc = p.osc ∧ (immediateZero p).latch = p.latch
      ∧ (immediateZero p).clock = p.clock ∧ (immediateZero p).line = p.line ∧ (immediateZero p).peers = p.peers
      ∧ (immediateZero p).measure = p.measure ∧ (immediateZero p).plan = p.plan ∧ (immediateZero p).link = p.link
      ∧ (immediateZero p).sweep = p.sweep ∧ (immediateZero p).lamps = p.lamps ∧ (immediateZero p).faults = p.faults
      ∧ (immediateZero p).cache = p.cache ∧ (immediateZero p).bay = p.bay ∧ (immediateZero p).remarks = p.remarks
      ∧ (immediateZero p).orders = p.orders ∧ (immediateZero p).free = p.free := by
  simp [immediateZero]

@[simp] theorem lockShed_keeps (p : Part) :
    (lockShed p).mode = p.mode ∧ (lockShed p).osc = p.osc ∧ (lockShed p).latch = p.latch
      ∧ (lockShed p).clock = p.clock ∧ (lockShed p).line = p.line ∧ (lockShed p).peers = p.peers
      ∧ (lockShed p).heat = p.heat ∧ (lockShed p).measure = p.measure ∧ (lockShed p).plan = p.plan
      ∧ (lockShed p).link = p.link ∧ (lockShed p).sweep = p.sweep ∧ (lockShed p).lamps = p.lamps
      ∧ (lockShed p).faults = p.faults ∧ (lockShed p).cache = p.cache ∧ (lockShed p).bay = p.bay
      ∧ (lockShed p).remarks = p.remarks ∧ (lockShed p).orders = p.orders ∧ (lockShed p).free = p.free := by
  simp [lockShed]

@[simp] theorem shedCheck_keeps (p : Part) :
    (shedCheck p).mode = p.mode ∧ (shedCheck p).osc = p.osc ∧ (shedCheck p).latch = p.latch
      ∧ (shedCheck p).clock = p.clock ∧ (shedCheck p).peers = p.peers ∧ (shedCheck p).heat = p.heat
      ∧ (shedCheck p).measure = p.measure ∧ (shedCheck p).plan = p.plan ∧ (shedCheck p).link = p.link
      ∧ (shedCheck p).sweep = p.sweep ∧ (shedCheck p).lamps = p.lamps ∧ (shedCheck p).faults = p.faults
      ∧ (shedCheck p).cache = p.cache ∧ (shedCheck p).bay = p.bay ∧ (shedCheck p).remarks = p.remarks
      ∧ (shedCheck p).orders = p.orders ∧ (shedCheck p).free = p.free := by
  unfold shedCheck
  (repeat' split) <;> simp

@[simp] theorem grantStep_keeps (p : Part) :
    (grantStep p).mode = p.mode ∧ (grantStep p).osc = p.osc ∧ (grantStep p).latch = p.latch
      ∧ (grantStep p).clock = p.clock ∧ (grantStep p).peers = p.peers ∧ (grantStep p).measure = p.measure
      ∧ (grantStep p).plan = p.plan ∧ (grantStep p).link = p.link ∧ (grantStep p).sweep = p.sweep
      ∧ (grantStep p).lamps = p.lamps ∧ (grantStep p).faults = p.faults ∧ (grantStep p).cache = p.cache
      ∧ (grantStep p).bay = p.bay ∧ (grantStep p).remarks = p.remarks ∧ (grantStep p).orders = p.orders
      ∧ (grantStep p).free = p.free := by
  simp only [grantStep]
  split <;> simp

@[simp] theorem queueJob_keeps (j : Job) (p : Part) :
    (queueJob j p).mode = p.mode ∧ (queueJob j p).osc = p.osc ∧ (queueJob j p).latch = p.latch
      ∧ (queueJob j p).clock = p.clock ∧ (queueJob j p).line = p.line ∧ (queueJob j p).peers = p.peers
      ∧ (queueJob j p).share = p.share ∧ (queueJob j p).heat = p.heat ∧ (queueJob j p).measure = p.measure
      ∧ (queueJob j p).plan = p.plan ∧ (queueJob j p).link = p.link ∧ (queueJob j p).sweep = p.sweep
      ∧ (queueJob j p).lamps = p.lamps ∧ (queueJob j p).faults = p.faults ∧ (queueJob j p).cache = p.cache
      ∧ (queueJob j p).bay = p.bay ∧ (queueJob j p).remarks = p.remarks ∧ (queueJob j p).free = p.free := by
  simp [queueJob]

@[simp] theorem revocationEnd_keeps (o : JobOutcome) (n : Nat) (p : Part) :
    (revocationEnd o n p).mode = p.mode ∧ (revocationEnd o n p).osc = p.osc ∧ (revocationEnd o n p).latch = p.latch
      ∧ (revocationEnd o n p).clock = p.clock ∧ (revocationEnd o n p).line = p.line
      ∧ (revocationEnd o n p).peers = p.peers ∧ (revocationEnd o n p).share = p.share
      ∧ (revocationEnd o n p).heat = p.heat ∧ (revocationEnd o n p).measure = p.measure
      ∧ (revocationEnd o n p).plan = p.plan ∧ (revocationEnd o n p).link = p.link
      ∧ (revocationEnd o n p).sweep = p.sweep ∧ (revocationEnd o n p).lamps = p.lamps
      ∧ (revocationEnd o n p).faults = p.faults ∧ (revocationEnd o n p).cache = p.cache
      ∧ (revocationEnd o n p).bay = p.bay ∧ (revocationEnd o n p).remarks = p.remarks
      ∧ (revocationEnd o n p).free = p.free := by
  simp only [revocationEnd]
  (repeat' split) <;> simp

@[simp] theorem stopAsking_keeps (p : Part) :
    (stopAsking p).mode = p.mode ∧ (stopAsking p).osc = p.osc ∧ (stopAsking p).latch = p.latch
      ∧ (stopAsking p).clock = p.clock ∧ (stopAsking p).line = p.line ∧ (stopAsking p).peers = p.peers
      ∧ (stopAsking p).share = p.share ∧ (stopAsking p).heat = p.heat ∧ (stopAsking p).measure = p.measure
      ∧ (stopAsking p).plan = p.plan ∧ (stopAsking p).link = p.link ∧ (stopAsking p).sweep = p.sweep
      ∧ (stopAsking p).lamps = p.lamps ∧ (stopAsking p).faults = p.faults ∧ (stopAsking p).bay = p.bay
      ∧ (stopAsking p).remarks = p.remarks ∧ (stopAsking p).orders = p.orders ∧ (stopAsking p).free = p.free := by
  simp [stopAsking]

@[simp] theorem leaveState_keeps (p : Part) :
    (leaveState p).mode = p.mode ∧ (leaveState p).osc = p.osc ∧ (leaveState p).latch = p.latch
      ∧ (leaveState p).clock = p.clock ∧ (leaveState p).peers = p.peers ∧ (leaveState p).share = p.share
      ∧ (leaveState p).heat = p.heat ∧ (leaveState p).measure = p.measure ∧ (leaveState p).plan = p.plan
      ∧ (leaveState p).link = p.link ∧ (leaveState p).sweep = p.sweep ∧ (leaveState p).lamps = p.lamps
      ∧ (leaveState p).faults = p.faults ∧ (leaveState p).orders = p.orders ∧ (leaveState p).free = p.free := by
  unfold leaveState
  split <;> simp

@[simp] theorem setBayState_keeps (new : BayState) (p : Part) :
    (setBayState new p).mode = p.mode ∧ (setBayState new p).osc = p.osc ∧ (setBayState new p).latch = p.latch
      ∧ (setBayState new p).clock = p.clock ∧ (setBayState new p).peers = p.peers
      ∧ (setBayState new p).share = p.share ∧ (setBayState new p).heat = p.heat
      ∧ (setBayState new p).measure = p.measure ∧ (setBayState new p).link = p.link
      ∧ (setBayState new p).sweep = p.sweep ∧ (setBayState new p).lamps = p.lamps
      ∧ (setBayState new p).faults = p.faults ∧ (setBayState new p).orders = p.orders := by
  unfold setBayState
  split <;> simp

@[simp] theorem judge_keeps (p : Part) :
    (judge p).mode = p.mode ∧ (judge p).osc = p.osc ∧ (judge p).latch = p.latch ∧ (judge p).clock = p.clock
      ∧ (judge p).peers = p.peers ∧ (judge p).share = p.share ∧ (judge p).heat = p.heat
      ∧ (judge p).measure = p.measure ∧ (judge p).plan = p.plan ∧ (judge p).link = p.link
      ∧ (judge p).sweep = p.sweep ∧ (judge p).lamps = p.lamps ∧ (judge p).faults = p.faults
      ∧ (judge p).cache = p.cache ∧ (judge p).remarks = p.remarks ∧ (judge p).orders = p.orders
      ∧ (judge p).free = p.free := by
  simp [judge]

@[simp] theorem enterReleasing_keeps (p : Part) :
    (enterReleasing p).mode = p.mode ∧ (enterReleasing p).osc = p.osc ∧ (enterReleasing p).latch = p.latch
      ∧ (enterReleasing p).clock = p.clock ∧ (enterReleasing p).peers = p.peers ∧ (enterReleasing p).share = p.share
      ∧ (enterReleasing p).lamps = p.lamps ∧ (enterReleasing p).orders = p.orders := by
  simp [enterReleasing]

@[simp] theorem placeBay_keeps (p : Part) :
    (placeBay p).mode = p.mode ∧ (placeBay p).osc = p.osc ∧ (placeBay p).latch = p.latch
      ∧ (placeBay p).clock = p.clock ∧ (placeBay p).peers = p.peers ∧ (placeBay p).share = p.share
      ∧ (placeBay p).lamps = p.lamps ∧ (placeBay p).orders = p.orders := by
  simp only [placeBay]
  (repeat' split) <;> simp

@[simp] theorem evaluate_keeps (p : Part) :
    (evaluate p).mode = p.mode ∧ (evaluate p).osc = p.osc ∧ (evaluate p).latch = p.latch
      ∧ (evaluate p).clock = p.clock ∧ (evaluate p).peers = p.peers ∧ (evaluate p).share = p.share
      ∧ (evaluate p).lamps = p.lamps ∧ (evaluate p).orders = p.orders := by
  unfold evaluate
  split <;> simp

@[simp] theorem setWatches_keeps (w : Watch) (p : Part) :
    (setWatches w p).mode = p.mode ∧ (setWatches w p).osc = p.osc ∧ (setWatches w p).latch = p.latch
      ∧ (setWatches w p).clock = p.clock ∧ (setWatches w p).line = p.line ∧ (setWatches w p).peers = p.peers
      ∧ (setWatches w p).share = p.share ∧ (setWatches w p).heat = p.heat ∧ (setWatches w p).measure = p.measure
      ∧ (setWatches w p).plan = p.plan ∧ (setWatches w p).link = p.link ∧ (setWatches w p).sweep = p.sweep
      ∧ (setWatches w p).lamps = p.lamps ∧ (setWatches w p).faults = p.faults ∧ (setWatches w p).cache = p.cache
      ∧ (setWatches w p).remarks = p.remarks ∧ (setWatches w p).orders = p.orders ∧ (setWatches w p).free = p.free := by
  simp [setWatches]

@[simp] theorem tryPrepare_keeps (p : Part) :
    (tryPrepare p).mode = p.mode ∧ (tryPrepare p).osc = p.osc ∧ (tryPrepare p).latch = p.latch
      ∧ (tryPrepare p).clock = p.clock ∧ (tryPrepare p).peers = p.peers ∧ (tryPrepare p).share = p.share
      ∧ (tryPrepare p).lamps = p.lamps ∧ (tryPrepare p).orders = p.orders := by
  unfold tryPrepare
  split <;> simp

@[simp] theorem copyArrives_keeps (c : RosterCopy) (p : Part) :
    (copyArrives c p).mode = p.mode ∧ (copyArrives c p).osc = p.osc ∧ (copyArrives c p).latch = p.latch
      ∧ (copyArrives c p).clock = p.clock ∧ (copyArrives c p).peers = p.peers ∧ (copyArrives c p).share = p.share
      ∧ (copyArrives c p).lamps = p.lamps ∧ (copyArrives c p).orders = p.orders := by
  simp [copyArrives]

@[simp] theorem rosterLookup_keeps (p : Part) :
    (rosterLookup p).mode = p.mode ∧ (rosterLookup p).osc = p.osc ∧ (rosterLookup p).latch = p.latch
      ∧ (rosterLookup p).clock = p.clock ∧ (rosterLookup p).peers = p.peers ∧ (rosterLookup p).share = p.share
      ∧ (rosterLookup p).lamps = p.lamps ∧ (rosterLookup p).orders = p.orders := by
  unfold rosterLookup
  (repeat' split) <;> simp

@[simp] theorem standBy_keeps (p : Part) :
    (standBy p).mode = p.mode ∧ (standBy p).osc = p.osc ∧ (standBy p).latch = p.latch
      ∧ (standBy p).clock = p.clock ∧ (standBy p).peers = p.peers ∧ (standBy p).share = p.share
      ∧ (standBy p).heat = p.heat ∧ (standBy p).measure = p.measure ∧ (standBy p).link = p.link
      ∧ (standBy p).sweep = p.sweep ∧ (standBy p).lamps = p.lamps ∧ (standBy p).faults = p.faults
      ∧ (standBy p).orders = p.orders := by
  simp [standBy]

@[simp] theorem toStandby_keeps (p : Part) :
    (toStandby p).mode = p.mode ∧ (toStandby p).osc = p.osc ∧ (toStandby p).latch = p.latch
      ∧ (toStandby p).clock = p.clock ∧ (toStandby p).peers = p.peers ∧ (toStandby p).share = p.share
      ∧ (toStandby p).heat = p.heat ∧ (toStandby p).measure = p.measure ∧ (toStandby p).link = p.link
      ∧ (toStandby p).sweep = p.sweep ∧ (toStandby p).lamps = p.lamps ∧ (toStandby p).faults = p.faults
      ∧ (toStandby p).orders = p.orders := by
  simp [toStandby]

@[simp] theorem requestReadIf_keeps (b : Bool) (p : Part) :
    (requestReadIf b p).mode = p.mode ∧ (requestReadIf b p).osc = p.osc ∧ (requestReadIf b p).latch = p.latch
      ∧ (requestReadIf b p).clock = p.clock ∧ (requestReadIf b p).line = p.line
      ∧ (requestReadIf b p).peers = p.peers ∧ (requestReadIf b p).share = p.share
      ∧ (requestReadIf b p).heat = p.heat ∧ (requestReadIf b p).measure = p.measure
      ∧ (requestReadIf b p).plan = p.plan ∧ (requestReadIf b p).sweep = p.sweep
      ∧ (requestReadIf b p).lamps = p.lamps ∧ (requestReadIf b p).cache = p.cache ∧ (requestReadIf b p).bay = p.bay
      ∧ (requestReadIf b p).remarks = p.remarks ∧ (requestReadIf b p).orders = p.orders
      ∧ (requestReadIf b p).free = p.free := by
  unfold requestReadIf
  split <;> simp

@[simp] theorem requestSweepIf_keeps (b : Bool) (p : Part) :
    (requestSweepIf b p).mode = p.mode ∧ (requestSweepIf b p).osc = p.osc ∧ (requestSweepIf b p).latch = p.latch
      ∧ (requestSweepIf b p).clock = p.clock ∧ (requestSweepIf b p).line = p.line
      ∧ (requestSweepIf b p).peers = p.peers ∧ (requestSweepIf b p).share = p.share
      ∧ (requestSweepIf b p).heat = p.heat ∧ (requestSweepIf b p).measure = p.measure
      ∧ (requestSweepIf b p).plan = p.plan ∧ (requestSweepIf b p).link = p.link
      ∧ (requestSweepIf b p).lamps = p.lamps ∧ (requestSweepIf b p).faults = p.faults
      ∧ (requestSweepIf b p).cache = p.cache ∧ (requestSweepIf b p).bay = p.bay
      ∧ (requestSweepIf b p).remarks = p.remarks ∧ (requestSweepIf b p).orders = p.orders
      ∧ (requestSweepIf b p).free = p.free := by
  unfold requestSweepIf
  split <;> simp

@[simp] theorem runWatches_keeps (p : Part) :
    (runWatches p).mode = p.mode ∧ (runWatches p).osc = p.osc ∧ (runWatches p).latch = p.latch
      ∧ (runWatches p).clock = p.clock ∧ (runWatches p).line = p.line ∧ (runWatches p).peers = p.peers
      ∧ (runWatches p).share = p.share ∧ (runWatches p).heat = p.heat ∧ (runWatches p).measure = p.measure
      ∧ (runWatches p).plan = p.plan ∧ (runWatches p).lamps = p.lamps ∧ (runWatches p).cache = p.cache
      ∧ (runWatches p).remarks = p.remarks ∧ (runWatches p).orders = p.orders ∧ (runWatches p).free = p.free := by
  unfold runWatches
  split <;> simp

@[simp] theorem clearanceCheck_keeps (p : Part) :
    (clearanceCheck p).mode = p.mode ∧ (clearanceCheck p).osc = p.osc ∧ (clearanceCheck p).latch = p.latch
      ∧ (clearanceCheck p).clock = p.clock ∧ (clearanceCheck p).peers = p.peers ∧ (clearanceCheck p).share = p.share
      ∧ (clearanceCheck p).heat = p.heat ∧ (clearanceCheck p).measure = p.measure ∧ (clearanceCheck p).plan = p.plan
      ∧ (clearanceCheck p).link = p.link ∧ (clearanceCheck p).sweep = p.sweep ∧ (clearanceCheck p).lamps = p.lamps
      ∧ (clearanceCheck p).faults = p.faults ∧ (clearanceCheck p).cache = p.cache ∧ (clearanceCheck p).bay = p.bay
      ∧ (clearanceCheck p).orders = p.orders ∧ (clearanceCheck p).free = p.free := by
  unfold clearanceCheck
  split <;> simp

@[simp] theorem clearanceMinute_keeps (p : Part) :
    (clearanceMinute p).mode = p.mode ∧ (clearanceMinute p).osc = p.osc ∧ (clearanceMinute p).latch = p.latch
      ∧ (clearanceMinute p).clock = p.clock ∧ (clearanceMinute p).peers = p.peers
      ∧ (clearanceMinute p).share = p.share ∧ (clearanceMinute p).heat = p.heat
      ∧ (clearanceMinute p).measure = p.measure ∧ (clearanceMinute p).plan = p.plan
      ∧ (clearanceMinute p).link = p.link ∧ (clearanceMinute p).sweep = p.sweep
      ∧ (clearanceMinute p).lamps = p.lamps ∧ (clearanceMinute p).faults = p.faults
      ∧ (clearanceMinute p).cache = p.cache ∧ (clearanceMinute p).orders = p.orders
      ∧ (clearanceMinute p).free = p.free := by
  unfold clearanceMinute
  split <;> simp

@[simp] theorem noteOpening_keeps (b : Bool) (p : Part) :
    (noteOpening b p).mode = p.mode ∧ (noteOpening b p).osc = p.osc ∧ (noteOpening b p).latch = p.latch
      ∧ (noteOpening b p).clock = p.clock ∧ (noteOpening b p).line = p.line ∧ (noteOpening b p).peers = p.peers
      ∧ (noteOpening b p).share = p.share ∧ (noteOpening b p).heat = p.heat ∧ (noteOpening b p).measure = p.measure
      ∧ (noteOpening b p).plan = p.plan ∧ (noteOpening b p).link = p.link ∧ (noteOpening b p).sweep = p.sweep
      ∧ (noteOpening b p).lamps = p.lamps ∧ (noteOpening b p).faults = p.faults ∧ (noteOpening b p).cache = p.cache
      ∧ (noteOpening b p).remarks = p.remarks ∧ (noteOpening b p).orders = p.orders
      ∧ (noteOpening b p).free = p.free := by
  unfold noteOpening
  split <;> simp

@[simp] theorem bayMinute_keeps (p : Part) :
    (bayMinute p).mode = p.mode ∧ (bayMinute p).osc = p.osc ∧ (bayMinute p).latch = p.latch
      ∧ (bayMinute p).clock = p.clock ∧ (bayMinute p).peers = p.peers ∧ (bayMinute p).share = p.share
      ∧ (bayMinute p).lamps = p.lamps ∧ (bayMinute p).orders = p.orders := by
  unfold bayMinute
  split <;> simp

@[simp] theorem askCheck_keeps (p : Part) :
    (askCheck p).mode = p.mode ∧ (askCheck p).osc = p.osc ∧ (askCheck p).latch = p.latch
      ∧ (askCheck p).clock = p.clock ∧ (askCheck p).peers = p.peers ∧ (askCheck p).share = p.share
      ∧ (askCheck p).heat = p.heat ∧ (askCheck p).measure = p.measure ∧ (askCheck p).plan = p.plan
      ∧ (askCheck p).link = p.link ∧ (askCheck p).sweep = p.sweep ∧ (askCheck p).lamps = p.lamps
      ∧ (askCheck p).faults = p.faults ∧ (askCheck p).bay = p.bay ∧ (askCheck p).remarks = p.remarks
      ∧ (askCheck p).orders = p.orders ∧ (askCheck p).free = p.free := by
  unfold askCheck
  split <;> simp

@[simp] theorem cacheMinute_keeps (p : Part) :
    (cacheMinute p).mode = p.mode ∧ (cacheMinute p).osc = p.osc ∧ (cacheMinute p).latch = p.latch
      ∧ (cacheMinute p).clock = p.clock ∧ (cacheMinute p).peers = p.peers ∧ (cacheMinute p).share = p.share
      ∧ (cacheMinute p).heat = p.heat ∧ (cacheMinute p).measure = p.measure ∧ (cacheMinute p).plan = p.plan
      ∧ (cacheMinute p).link = p.link ∧ (cacheMinute p).sweep = p.sweep ∧ (cacheMinute p).lamps = p.lamps
      ∧ (cacheMinute p).faults = p.faults ∧ (cacheMinute p).bay = p.bay ∧ (cacheMinute p).remarks = p.remarks
      ∧ (cacheMinute p).orders = p.orders ∧ (cacheMinute p).free = p.free := by
  simp only [cacheMinute]
  split <;> simp

@[simp] theorem minuteEvent_keeps (p : Part) :
    (minuteEvent p).mode = p.mode ∧ (minuteEvent p).osc = p.osc ∧ (minuteEvent p).latch = p.latch
      ∧ (minuteEvent p).clock = p.clock ∧ (minuteEvent p).peers = p.peers ∧ (minuteEvent p).share = p.share
      ∧ (minuteEvent p).lamps = p.lamps ∧ (minuteEvent p).orders = p.orders := by
  simp [minuteEvent]

@[simp] theorem closeWindowIfEarly_keeps (p : Part) :
    (closeWindowIfEarly p).mode = p.mode ∧ (closeWindowIfEarly p).osc = p.osc
      ∧ (closeWindowIfEarly p).latch = p.latch ∧ (closeWindowIfEarly p).clock = p.clock
      ∧ (closeWindowIfEarly p).line = p.line ∧ (closeWindowIfEarly p).peers = p.peers
      ∧ (closeWindowIfEarly p).share = p.share ∧ (closeWindowIfEarly p).heat = p.heat
      ∧ (closeWindowIfEarly p).measure = p.measure ∧ (closeWindowIfEarly p).plan = p.plan
      ∧ (closeWindowIfEarly p).link = p.link ∧ (closeWindowIfEarly p).sweep = p.sweep
      ∧ (closeWindowIfEarly p).lamps = p.lamps ∧ (closeWindowIfEarly p).faults = p.faults
      ∧ (closeWindowIfEarly p).cache = p.cache ∧ (closeWindowIfEarly p).remarks = p.remarks
      ∧ (closeWindowIfEarly p).orders = p.orders ∧ (closeWindowIfEarly p).free = p.free := by
  unfold closeWindowIfEarly
  (repeat' split) <;> simp

@[simp] theorem setCopy_keeps (c : RosterCopy) (p : Part) :
    (setCopy c p).mode = p.mode ∧ (setCopy c p).osc = p.osc ∧ (setCopy c p).latch = p.latch
      ∧ (setCopy c p).clock = p.clock ∧ (setCopy c p).peers = p.peers ∧ (setCopy c p).share = p.share
      ∧ (setCopy c p).lamps = p.lamps ∧ (setCopy c p).orders = p.orders := by
  simp only [setCopy]
  (repeat' split) <;> simp

@[simp] theorem removeCopy_keeps (p : Part) :
    (removeCopy p).mode = p.mode ∧ (removeCopy p).osc = p.osc ∧ (removeCopy p).latch = p.latch
      ∧ (removeCopy p).clock = p.clock ∧ (removeCopy p).peers = p.peers ∧ (removeCopy p).share = p.share
      ∧ (removeCopy p).lamps = p.lamps ∧ (removeCopy p).orders = p.orders := by
  simp only [removeCopy]
  (repeat' split) <;> simp

@[simp] theorem returnToHeld_keeps (r : ReturnReasons) (p : Part) :
    (returnToHeld r p).mode = p.mode ∧ (returnToHeld r p).osc = p.osc ∧ (returnToHeld r p).latch = p.latch
      ∧ (returnToHeld r p).clock = p.clock ∧ (returnToHeld r p).peers = p.peers ∧ (returnToHeld r p).share = p.share
      ∧ (returnToHeld r p).lamps = p.lamps ∧ (returnToHeld r p).orders = p.orders := by
  simp only [returnToHeld]
  split <;> simp

@[simp] theorem laneViewChanged_keeps (p : Part) :
    (laneViewChanged p).mode = p.mode ∧ (laneViewChanged p).osc = p.osc ∧ (laneViewChanged p).latch = p.latch
      ∧ (laneViewChanged p).clock = p.clock ∧ (laneViewChanged p).peers = p.peers
      ∧ (laneViewChanged p).share = p.share ∧ (laneViewChanged p).lamps = p.lamps
      ∧ (laneViewChanged p).orders = p.orders := by
  unfold laneViewChanged
  split <;> simp

@[simp] theorem releaseEnds_keeps (b : Bool) (p : Part) :
    (releaseEnds b p).mode = p.mode ∧ (releaseEnds b p).osc = p.osc ∧ (releaseEnds b p).latch = p.latch
      ∧ (releaseEnds b p).clock = p.clock ∧ (releaseEnds b p).peers = p.peers ∧ (releaseEnds b p).share = p.share
      ∧ (releaseEnds b p).lamps = p.lamps := by
  simp only [releaseEnds]
  split <;> simp

@[simp] theorem enterCleared_keeps (p : Part) :
    (enterCleared p).mode = p.mode ∧ (enterCleared p).osc = p.osc ∧ (enterCleared p).latch = p.latch
      ∧ (enterCleared p).clock = p.clock ∧ (enterCleared p).peers = p.peers ∧ (enterCleared p).measure = p.measure
      ∧ (enterCleared p).sweep = p.sweep ∧ (enterCleared p).lamps = p.lamps ∧ (enterCleared p).faults = p.faults
      ∧ (enterCleared p).orders = p.orders := by
  simp only [enterCleared]
  split <;> simp

@[simp] theorem holdOutcome_keeps (o : BayOutcome) (p : Part) :
    (holdOutcome o p).mode = p.mode ∧ (holdOutcome o p).osc = p.osc ∧ (holdOutcome o p).latch = p.latch
      ∧ (holdOutcome o p).clock = p.clock ∧ (holdOutcome o p).peers = p.peers ∧ (holdOutcome o p).share = p.share
      ∧ (holdOutcome o p).lamps = p.lamps := by
  unfold holdOutcome
  (repeat' split) <;> simp

@[simp] theorem releaseOutcome_keeps (o : BayOutcome) (p : Part) :
    (releaseOutcome o p).mode = p.mode ∧ (releaseOutcome o p).osc = p.osc ∧ (releaseOutcome o p).latch = p.latch
      ∧ (releaseOutcome o p).clock = p.clock ∧ (releaseOutcome o p).peers = p.peers
      ∧ (releaseOutcome o p).lamps = p.lamps := by
  simp only [releaseOutcome]
  (repeat' split) <;> simp

@[simp] theorem bayLinkLost_keeps (p : Part) :
    (bayLinkLost p).mode = p.mode ∧ (bayLinkLost p).osc = p.osc ∧ (bayLinkLost p).latch = p.latch
      ∧ (bayLinkLost p).clock = p.clock ∧ (bayLinkLost p).peers = p.peers ∧ (bayLinkLost p).share = p.share
      ∧ (bayLinkLost p).lamps = p.lamps := by
  unfold bayLinkLost
  split <;> simp

@[simp] theorem bayNotHeld_keeps (p : Part) :
    (bayNotHeld p).mode = p.mode ∧ (bayNotHeld p).osc = p.osc ∧ (bayNotHeld p).latch = p.latch
      ∧ (bayNotHeld p).clock = p.clock ∧ (bayNotHeld p).line = p.line ∧ (bayNotHeld p).peers = p.peers
      ∧ (bayNotHeld p).share = p.share ∧ (bayNotHeld p).heat = p.heat ∧ (bayNotHeld p).measure = p.measure
      ∧ (bayNotHeld p).plan = p.plan ∧ (bayNotHeld p).sweep = p.sweep ∧ (bayNotHeld p).lamps = p.lamps
      ∧ (bayNotHeld p).faults = p.faults ∧ (bayNotHeld p).cache = p.cache ∧ (bayNotHeld p).bay = p.bay
      ∧ (bayNotHeld p).remarks = p.remarks ∧ (bayNotHeld p).orders = p.orders ∧ (bayNotHeld p).free = p.free := by
  unfold bayNotHeld
  split <;> simp

@[simp] theorem departPress_keeps (p : Part) :
    (departPress p).mode = p.mode ∧ (departPress p).osc = p.osc ∧ (departPress p).latch = p.latch
      ∧ (departPress p).clock = p.clock ∧ (departPress p).peers = p.peers ∧ (departPress p).share = p.share
      ∧ (departPress p).lamps = p.lamps ∧ (departPress p).orders = p.orders := by
  simp only [departPress]
  (repeat' split) <;> simp

@[simp] theorem firstIdentity_keeps (d : Identity) (p : Part) :
    (firstIdentity d p).mode = p.mode ∧ (firstIdentity d p).osc = p.osc ∧ (firstIdentity d p).latch = p.latch
      ∧ (firstIdentity d p).clock = p.clock ∧ (firstIdentity d p).peers = p.peers
      ∧ (firstIdentity d p).share = p.share ∧ (firstIdentity d p).orders = p.orders := by
  simp [firstIdentity]

@[simp] theorem linkDown_keeps (p : Part) :
    (linkDown p).mode = p.mode ∧ (linkDown p).osc = p.osc ∧ (linkDown p).latch = p.latch
      ∧ (linkDown p).clock = p.clock ∧ (linkDown p).line = p.line ∧ (linkDown p).peers = p.peers
      ∧ (linkDown p).share = p.share ∧ (linkDown p).heat = p.heat ∧ (linkDown p).measure = p.measure
      ∧ (linkDown p).plan = p.plan ∧ (linkDown p).sweep = p.sweep ∧ (linkDown p).lamps = p.lamps
      ∧ (linkDown p).faults = p.faults ∧ (linkDown p).cache = p.cache ∧ (linkDown p).bay = p.bay
      ∧ (linkDown p).remarks = p.remarks ∧ (linkDown p).orders = p.orders ∧ (linkDown p).free = p.free := by
  simp [linkDown]

@[simp] theorem linkStart_keeps (p : Part) :
    (linkStart p).mode = p.mode ∧ (linkStart p).osc = p.osc ∧ (linkStart p).latch = p.latch
      ∧ (linkStart p).clock = p.clock ∧ (linkStart p).line = p.line ∧ (linkStart p).peers = p.peers
      ∧ (linkStart p).share = p.share ∧ (linkStart p).heat = p.heat ∧ (linkStart p).measure = p.measure
      ∧ (linkStart p).plan = p.plan ∧ (linkStart p).sweep = p.sweep ∧ (linkStart p).lamps = p.lamps
      ∧ (linkStart p).faults = p.faults ∧ (linkStart p).cache = p.cache ∧ (linkStart p).bay = p.bay
      ∧ (linkStart p).remarks = p.remarks ∧ (linkStart p).orders = p.orders ∧ (linkStart p).free = p.free := by
  simp [linkStart]

@[simp] theorem forgetDeparted_keeps (p : Part) :
    (forgetDeparted p).mode = p.mode ∧ (forgetDeparted p).osc = p.osc ∧ (forgetDeparted p).latch = p.latch
      ∧ (forgetDeparted p).clock = p.clock ∧ (forgetDeparted p).line = p.line ∧ (forgetDeparted p).peers = p.peers
      ∧ (forgetDeparted p).share = p.share ∧ (forgetDeparted p).heat = p.heat
      ∧ (forgetDeparted p).measure = p.measure ∧ (forgetDeparted p).plan = p.plan ∧ (forgetDeparted p).link = p.link
      ∧ (forgetDeparted p).sweep = p.sweep ∧ (forgetDeparted p).lamps = p.lamps
      ∧ (forgetDeparted p).faults = p.faults ∧ (forgetDeparted p).bay = p.bay
      ∧ (forgetDeparted p).remarks = p.remarks ∧ (forgetDeparted p).orders = p.orders
      ∧ (forgetDeparted p).free = p.free := by
  unfold forgetDeparted
  split <;> simp

@[simp] theorem clearRecord_keeps (f : DecoupleFlag) (p : Part) :
    (clearRecord f p).mode = p.mode ∧ (clearRecord f p).osc = p.osc ∧ (clearRecord f p).latch = p.latch
      ∧ (clearRecord f p).clock = p.clock ∧ (clearRecord f p).line = p.line ∧ (clearRecord f p).peers = p.peers
      ∧ (clearRecord f p).share = p.share ∧ (clearRecord f p).heat = p.heat ∧ (clearRecord f p).measure = p.measure
      ∧ (clearRecord f p).plan = p.plan ∧ (clearRecord f p).link = p.link ∧ (clearRecord f p).sweep = p.sweep
      ∧ (clearRecord f p).lamps = p.lamps ∧ (clearRecord f p).faults = p.faults ∧ (clearRecord f p).cache = p.cache
      ∧ (clearRecord f p).remarks = p.remarks ∧ (clearRecord f p).orders = p.orders
      ∧ (clearRecord f p).free = p.free := by
  simp [clearRecord]

@[simp] theorem clearBlocks_keeps (p : Part) :
    (clearBlocks p).mode = p.mode ∧ (clearBlocks p).osc = p.osc ∧ (clearBlocks p).latch = p.latch
      ∧ (clearBlocks p).clock = p.clock ∧ (clearBlocks p).peers = p.peers ∧ (clearBlocks p).plan = p.plan
      ∧ (clearBlocks p).cache = p.cache ∧ (clearBlocks p).bay = p.bay ∧ (clearBlocks p).orders = p.orders
      ∧ (clearBlocks p).free = p.free := by
  simp [clearBlocks]

@[simp] theorem unplannedChirps_keeps (f : DecoupleFlag) (p : Part) :
    (unplannedChirps f p).mode = p.mode ∧ (unplannedChirps f p).osc = p.osc ∧ (unplannedChirps f p).latch = p.latch
      ∧ (unplannedChirps f p).clock = p.clock ∧ (unplannedChirps f p).line = p.line
      ∧ (unplannedChirps f p).peers = p.peers ∧ (unplannedChirps f p).share = p.share
      ∧ (unplannedChirps f p).heat = p.heat ∧ (unplannedChirps f p).measure = p.measure
      ∧ (unplannedChirps f p).plan = p.plan ∧ (unplannedChirps f p).link = p.link
      ∧ (unplannedChirps f p).sweep = p.sweep ∧ (unplannedChirps f p).lamps = p.lamps
      ∧ (unplannedChirps f p).faults = p.faults ∧ (unplannedChirps f p).cache = p.cache
      ∧ (unplannedChirps f p).remarks = p.remarks ∧ (unplannedChirps f p).orders = p.orders
      ∧ (unplannedChirps f p).free = p.free := by
  unfold unplannedChirps
  split <;> simp

@[simp] theorem tearDown_keeps (p : Part) :
    (tearDown p).mode = p.mode ∧ (tearDown p).osc = p.osc ∧ (tearDown p).latch = p.latch
      ∧ (tearDown p).clock = p.clock ∧ (tearDown p).peers = p.peers := by
  simp [tearDown]

@[simp] theorem decoupled_keeps (p : Part) :
    (decoupled p).mode = p.mode ∧ (decoupled p).osc = p.osc ∧ (decoupled p).latch = p.latch
      ∧ (decoupled p).clock = p.clock ∧ (decoupled p).peers = p.peers := by
  simp [decoupled]

@[simp] theorem coachChange_keeps (d : Identity) (p : Part) :
    (coachChange d p).mode = p.mode ∧ (coachChange d p).osc = p.osc ∧ (coachChange d p).latch = p.latch
      ∧ (coachChange d p).clock = p.clock ∧ (coachChange d p).peers = p.peers := by
  simp [coachChange]

@[simp] theorem bayReset_keeps (p : Part) :
    (bayReset p).mode = p.mode ∧ (bayReset p).osc = p.osc ∧ (bayReset p).latch = p.latch
      ∧ (bayReset p).clock = p.clock ∧ (bayReset p).peers = p.peers := by
  simp only [bayReset]
  (repeat' split) <;> simp

@[simp] theorem frameEnds_keeps (n : Nat) (p : Part) :
    (frameEnds n p).mode = p.mode ∧ (frameEnds n p).latch = p.latch ∧ (frameEnds n p).clock = p.clock
      ∧ (frameEnds n p).peers = p.peers ∧ (frameEnds n p).share = p.share ∧ (frameEnds n p).heat = p.heat
      ∧ (frameEnds n p).measure = p.measure ∧ (frameEnds n p).plan = p.plan ∧ (frameEnds n p).link = p.link
      ∧ (frameEnds n p).sweep = p.sweep ∧ (frameEnds n p).lamps = p.lamps ∧ (frameEnds n p).faults = p.faults
      ∧ (frameEnds n p).cache = p.cache ∧ (frameEnds n p).bay = p.bay ∧ (frameEnds n p).remarks = p.remarks
      ∧ (frameEnds n p).orders = p.orders ∧ (frameEnds n p).free = p.free := by
  simp [frameEnds]

@[simp] theorem numberClash_keeps (p : Part) :
    (numberClash p).mode = p.mode ∧ (numberClash p).osc = p.osc ∧ (numberClash p).latch = p.latch
      ∧ (numberClash p).clock = p.clock ∧ (numberClash p).peers = p.peers ∧ (numberClash p).share = p.share
      ∧ (numberClash p).heat = p.heat ∧ (numberClash p).measure = p.measure ∧ (numberClash p).plan = p.plan
      ∧ (numberClash p).link = p.link ∧ (numberClash p).sweep = p.sweep ∧ (numberClash p).lamps = p.lamps
      ∧ (numberClash p).faults = p.faults ∧ (numberClash p).cache = p.cache ∧ (numberClash p).orders = p.orders
      ∧ (numberClash p).free = p.free := by
  unfold numberClash
  split <;> simp

@[simp] theorem countCorrupt_keeps (p : Part) :
    (countCorrupt p).mode = p.mode ∧ (countCorrupt p).osc = p.osc ∧ (countCorrupt p).latch = p.latch
      ∧ (countCorrupt p).clock = p.clock ∧ (countCorrupt p).peers = p.peers ∧ (countCorrupt p).share = p.share
      ∧ (countCorrupt p).heat = p.heat ∧ (countCorrupt p).measure = p.measure ∧ (countCorrupt p).plan = p.plan
      ∧ (countCorrupt p).link = p.link ∧ (countCorrupt p).sweep = p.sweep ∧ (countCorrupt p).lamps = p.lamps
      ∧ (countCorrupt p).faults = p.faults ∧ (countCorrupt p).cache = p.cache ∧ (countCorrupt p).bay = p.bay
      ∧ (countCorrupt p).remarks = p.remarks ∧ (countCorrupt p).orders = p.orders ∧ (countCorrupt p).free = p.free := by
  simp [countCorrupt]

@[simp] theorem bitRead_keeps (t : Transmission) (i : Nat) (p : Part) :
    (bitRead t i p).mode = p.mode ∧ (bitRead t i p).latch = p.latch ∧ (bitRead t i p).clock = p.clock
      ∧ (bitRead t i p).line = p.line ∧ (bitRead t i p).peers = p.peers ∧ (bitRead t i p).share = p.share
      ∧ (bitRead t i p).heat = p.heat ∧ (bitRead t i p).measure = p.measure ∧ (bitRead t i p).plan = p.plan
      ∧ (bitRead t i p).link = p.link ∧ (bitRead t i p).sweep = p.sweep ∧ (bitRead t i p).lamps = p.lamps
      ∧ (bitRead t i p).faults = p.faults ∧ (bitRead t i p).cache = p.cache ∧ (bitRead t i p).bay = p.bay
      ∧ (bitRead t i p).remarks = p.remarks ∧ (bitRead t i p).orders = p.orders ∧ (bitRead t i p).free = p.free := by
  simp [bitRead]

@[simp] theorem attemptEnds_keeps (t : Transmission) (p : Part) :
    (attemptEnds t p).mode = p.mode ∧ (attemptEnds t p).osc = p.osc ∧ (attemptEnds t p).latch = p.latch
      ∧ (attemptEnds t p).clock = p.clock ∧ (attemptEnds t p).peers = p.peers ∧ (attemptEnds t p).share = p.share
      ∧ (attemptEnds t p).heat = p.heat ∧ (attemptEnds t p).measure = p.measure ∧ (attemptEnds t p).plan = p.plan
      ∧ (attemptEnds t p).link = p.link ∧ (attemptEnds t p).sweep = p.sweep ∧ (attemptEnds t p).lamps = p.lamps
      ∧ (attemptEnds t p).faults = p.faults ∧ (attemptEnds t p).cache = p.cache ∧ (attemptEnds t p).bay = p.bay
      ∧ (attemptEnds t p).remarks = p.remarks ∧ (attemptEnds t p).orders = p.orders
      ∧ (attemptEnds t p).free = p.free := by
  simp [attemptEnds]

@[simp] theorem countFault_keeps (p : Part) :
    (countFault p).mode = p.mode ∧ (countFault p).osc = p.osc ∧ (countFault p).latch = p.latch
      ∧ (countFault p).clock = p.clock ∧ (countFault p).peers = p.peers ∧ (countFault p).heat = p.heat
      ∧ (countFault p).measure = p.measure ∧ (countFault p).plan = p.plan ∧ (countFault p).link = p.link
      ∧ (countFault p).sweep = p.sweep ∧ (countFault p).lamps = p.lamps ∧ (countFault p).faults = p.faults
      ∧ (countFault p).cache = p.cache ∧ (countFault p).bay = p.bay ∧ (countFault p).remarks = p.remarks
      ∧ (countFault p).orders = p.orders ∧ (countFault p).free = p.free := by
  unfold countFault
  split <;> simp

@[simp] theorem frameCompletes_keeps (t : Transmission) (p : Part) :
    (frameCompletes t p).mode = p.mode ∧ (frameCompletes t p).latch = p.latch ∧ (frameCompletes t p).clock = p.clock
      ∧ (frameCompletes t p).peers = p.peers ∧ (frameCompletes t p).share = p.share
      ∧ (frameCompletes t p).heat = p.heat ∧ (frameCompletes t p).measure = p.measure
      ∧ (frameCompletes t p).plan = p.plan ∧ (frameCompletes t p).link = p.link
      ∧ (frameCompletes t p).sweep = p.sweep ∧ (frameCompletes t p).lamps = p.lamps
      ∧ (frameCompletes t p).faults = p.faults ∧ (frameCompletes t p).cache = p.cache
      ∧ (frameCompletes t p).bay = p.bay ∧ (frameCompletes t p).remarks = p.remarks
      ∧ (frameCompletes t p).orders = p.orders ∧ (frameCompletes t p).free = p.free := by
  simp [frameCompletes]

@[simp] theorem fixHeadTotal_keeps (p : Part) :
    (fixHeadTotal p).mode = p.mode ∧ (fixHeadTotal p).osc = p.osc ∧ (fixHeadTotal p).latch = p.latch
      ∧ (fixHeadTotal p).clock = p.clock ∧ (fixHeadTotal p).line = p.line ∧ (fixHeadTotal p).peers = p.peers
      ∧ (fixHeadTotal p).share = p.share ∧ (fixHeadTotal p).heat = p.heat ∧ (fixHeadTotal p).measure = p.measure
      ∧ (fixHeadTotal p).plan = p.plan ∧ (fixHeadTotal p).link = p.link ∧ (fixHeadTotal p).sweep = p.sweep
      ∧ (fixHeadTotal p).lamps = p.lamps ∧ (fixHeadTotal p).faults = p.faults ∧ (fixHeadTotal p).cache = p.cache
      ∧ (fixHeadTotal p).bay = p.bay ∧ (fixHeadTotal p).remarks = p.remarks ∧ (fixHeadTotal p).free = p.free := by
  unfold fixHeadTotal
  split <;> simp

@[simp] theorem beginFrame_keeps (k : SendKind) (p : Part) :
    (beginFrame k p).mode = p.mode ∧ (beginFrame k p).osc = p.osc ∧ (beginFrame k p).latch = p.latch
      ∧ (beginFrame k p).clock = p.clock ∧ (beginFrame k p).peers = p.peers ∧ (beginFrame k p).share = p.share
      ∧ (beginFrame k p).heat = p.heat ∧ (beginFrame k p).measure = p.measure ∧ (beginFrame k p).plan = p.plan
      ∧ (beginFrame k p).link = p.link ∧ (beginFrame k p).sweep = p.sweep ∧ (beginFrame k p).lamps = p.lamps
      ∧ (beginFrame k p).faults = p.faults ∧ (beginFrame k p).cache = p.cache ∧ (beginFrame k p).bay = p.bay
      ∧ (beginFrame k p).remarks = p.remarks ∧ (beginFrame k p).free = p.free := by
  simp only [beginFrame]
  split <;> simp

@[simp] theorem attemptStarts_keeps (p : Part) :
    (attemptStarts p).mode = p.mode ∧ (attemptStarts p).latch = p.latch ∧ (attemptStarts p).clock = p.clock
      ∧ (attemptStarts p).peers = p.peers ∧ (attemptStarts p).share = p.share ∧ (attemptStarts p).heat = p.heat
      ∧ (attemptStarts p).measure = p.measure ∧ (attemptStarts p).plan = p.plan ∧ (attemptStarts p).link = p.link
      ∧ (attemptStarts p).sweep = p.sweep ∧ (attemptStarts p).lamps = p.lamps ∧ (attemptStarts p).faults = p.faults
      ∧ (attemptStarts p).cache = p.cache ∧ (attemptStarts p).bay = p.bay ∧ (attemptStarts p).remarks = p.remarks
      ∧ (attemptStarts p).free = p.free := by
  simp only [attemptStarts]
  (repeat' split) <;> simp

@[simp] theorem arbitrationIsLost_keeps (bit : Fin 9) (p : Part) :
    (arbitrationIsLost bit p).mode = p.mode ∧ (arbitrationIsLost bit p).latch = p.latch
      ∧ (arbitrationIsLost bit p).clock = p.clock ∧ (arbitrationIsLost bit p).peers = p.peers
      ∧ (arbitrationIsLost bit p).share = p.share ∧ (arbitrationIsLost bit p).heat = p.heat
      ∧ (arbitrationIsLost bit p).measure = p.measure ∧ (arbitrationIsLost bit p).plan = p.plan
      ∧ (arbitrationIsLost bit p).link = p.link ∧ (arbitrationIsLost bit p).sweep = p.sweep
      ∧ (arbitrationIsLost bit p).lamps = p.lamps ∧ (arbitrationIsLost bit p).faults = p.faults
      ∧ (arbitrationIsLost bit p).cache = p.cache ∧ (arbitrationIsLost bit p).bay = p.bay
      ∧ (arbitrationIsLost bit p).remarks = p.remarks ∧ (arbitrationIsLost bit p).orders = p.orders
      ∧ (arbitrationIsLost bit p).free = p.free := by
  unfold arbitrationIsLost
  (repeat' split) <;> simp

@[simp] theorem transmitFaults_keeps (bit : Nat) (p : Part) :
    (transmitFaults bit p).mode = p.mode ∧ (transmitFaults bit p).latch = p.latch
      ∧ (transmitFaults bit p).clock = p.clock ∧ (transmitFaults bit p).peers = p.peers
      ∧ (transmitFaults bit p).heat = p.heat ∧ (transmitFaults bit p).measure = p.measure
      ∧ (transmitFaults bit p).plan = p.plan ∧ (transmitFaults bit p).link = p.link
      ∧ (transmitFaults bit p).sweep = p.sweep ∧ (transmitFaults bit p).lamps = p.lamps
      ∧ (transmitFaults bit p).faults = p.faults ∧ (transmitFaults bit p).cache = p.cache
      ∧ (transmitFaults bit p).bay = p.bay ∧ (transmitFaults bit p).remarks = p.remarks
      ∧ (transmitFaults bit p).orders = p.orders ∧ (transmitFaults bit p).free = p.free := by
  unfold transmitFaults
  (repeat' split) <;> simp

@[simp] theorem mutedEnds_keeps (p : Part) :
    (mutedEnds p).mode = p.mode ∧ (mutedEnds p).latch = p.latch ∧ (mutedEnds p).clock = p.clock
      ∧ (mutedEnds p).peers = p.peers ∧ (mutedEnds p).heat = p.heat ∧ (mutedEnds p).measure = p.measure
      ∧ (mutedEnds p).plan = p.plan ∧ (mutedEnds p).link = p.link ∧ (mutedEnds p).sweep = p.sweep
      ∧ (mutedEnds p).lamps = p.lamps ∧ (mutedEnds p).faults = p.faults ∧ (mutedEnds p).cache = p.cache
      ∧ (mutedEnds p).bay = p.bay ∧ (mutedEnds p).remarks = p.remarks ∧ (mutedEnds p).orders = p.orders
      ∧ (mutedEnds p).free = p.free := by
  unfold mutedEnds
  split <;> simp

@[simp] theorem loadNotice_keeps (t : Transmission) (p : Part) :
    (loadNotice t p).mode = p.mode ∧ (loadNotice t p).osc = p.osc ∧ (loadNotice t p).latch = p.latch
      ∧ (loadNotice t p).clock = p.clock ∧ (loadNotice t p).peers = p.peers ∧ (loadNotice t p).heat = p.heat
      ∧ (loadNotice t p).measure = p.measure ∧ (loadNotice t p).plan = p.plan ∧ (loadNotice t p).link = p.link
      ∧ (loadNotice t p).sweep = p.sweep ∧ (loadNotice t p).lamps = p.lamps ∧ (loadNotice t p).faults = p.faults
      ∧ (loadNotice t p).cache = p.cache ∧ (loadNotice t p).bay = p.bay ∧ (loadNotice t p).remarks = p.remarks
      ∧ (loadNotice t p).orders = p.orders ∧ (loadNotice t p).free = p.free := by
  simp [loadNotice]

@[simp] theorem baystateNotice_keeps (t : Transmission) (p : Part) :
    (baystateNotice t p).mode = p.mode ∧ (baystateNotice t p).osc = p.osc ∧ (baystateNotice t p).latch = p.latch
      ∧ (baystateNotice t p).clock = p.clock ∧ (baystateNotice t p).peers = p.peers
      ∧ (baystateNotice t p).share = p.share ∧ (baystateNotice t p).heat = p.heat
      ∧ (baystateNotice t p).measure = p.measure ∧ (baystateNotice t p).plan = p.plan
      ∧ (baystateNotice t p).link = p.link ∧ (baystateNotice t p).sweep = p.sweep
      ∧ (baystateNotice t p).lamps = p.lamps ∧ (baystateNotice t p).faults = p.faults
      ∧ (baystateNotice t p).cache = p.cache ∧ (baystateNotice t p).bay = p.bay
      ∧ (baystateNotice t p).remarks = p.remarks ∧ (baystateNotice t p).orders = p.orders
      ∧ (baystateNotice t p).free = p.free := by
  simp [baystateNotice]

@[simp] theorem pendingSent_keeps (j : Job) (p : Part) :
    (pendingSent j p).mode = p.mode ∧ (pendingSent j p).osc = p.osc ∧ (pendingSent j p).latch = p.latch
      ∧ (pendingSent j p).clock = p.clock ∧ (pendingSent j p).line = p.line ∧ (pendingSent j p).peers = p.peers
      ∧ (pendingSent j p).share = p.share ∧ (pendingSent j p).heat = p.heat ∧ (pendingSent j p).measure = p.measure
      ∧ (pendingSent j p).plan = p.plan ∧ (pendingSent j p).link = p.link ∧ (pendingSent j p).sweep = p.sweep
      ∧ (pendingSent j p).lamps = p.lamps ∧ (pendingSent j p).faults = p.faults ∧ (pendingSent j p).cache = p.cache
      ∧ (pendingSent j p).bay = p.bay ∧ (pendingSent j p).remarks = p.remarks ∧ (pendingSent j p).free = p.free := by
  unfold pendingSent
  (repeat' split) <;> simp

@[simp] theorem reportNotice_keeps (t : Transmission) (p : Part) :
    (reportNotice t p).mode = p.mode ∧ (reportNotice t p).osc = p.osc ∧ (reportNotice t p).latch = p.latch
      ∧ (reportNotice t p).clock = p.clock ∧ (reportNotice t p).line = p.line ∧ (reportNotice t p).peers = p.peers
      ∧ (reportNotice t p).share = p.share ∧ (reportNotice t p).heat = p.heat
      ∧ (reportNotice t p).measure = p.measure ∧ (reportNotice t p).plan = p.plan ∧ (reportNotice t p).link = p.link
      ∧ (reportNotice t p).sweep = p.sweep ∧ (reportNotice t p).lamps = p.lamps
      ∧ (reportNotice t p).faults = p.faults ∧ (reportNotice t p).cache = p.cache ∧ (reportNotice t p).bay = p.bay
      ∧ (reportNotice t p).remarks = p.remarks ∧ (reportNotice t p).free = p.free := by
  simp only [reportNotice]
  (repeat' split) <;> simp

@[simp] theorem loadRefreshExpires_keeps (p : Part) :
    (loadRefreshExpires p).mode = p.mode ∧ (loadRefreshExpires p).latch = p.latch
      ∧ (loadRefreshExpires p).clock = p.clock ∧ (loadRefreshExpires p).peers = p.peers
      ∧ (loadRefreshExpires p).share = p.share ∧ (loadRefreshExpires p).heat = p.heat
      ∧ (loadRefreshExpires p).measure = p.measure ∧ (loadRefreshExpires p).plan = p.plan
      ∧ (loadRefreshExpires p).link = p.link ∧ (loadRefreshExpires p).sweep = p.sweep
      ∧ (loadRefreshExpires p).lamps = p.lamps ∧ (loadRefreshExpires p).faults = p.faults
      ∧ (loadRefreshExpires p).cache = p.cache ∧ (loadRefreshExpires p).bay = p.bay
      ∧ (loadRefreshExpires p).remarks = p.remarks ∧ (loadRefreshExpires p).orders = p.orders
      ∧ (loadRefreshExpires p).free = p.free := by
  unfold loadRefreshExpires
  split <;> simp

@[simp] theorem baystateRefreshExpires_keeps (p : Part) :
    (baystateRefreshExpires p).mode = p.mode ∧ (baystateRefreshExpires p).latch = p.latch
      ∧ (baystateRefreshExpires p).clock = p.clock ∧ (baystateRefreshExpires p).peers = p.peers
      ∧ (baystateRefreshExpires p).share = p.share ∧ (baystateRefreshExpires p).heat = p.heat
      ∧ (baystateRefreshExpires p).measure = p.measure ∧ (baystateRefreshExpires p).plan = p.plan
      ∧ (baystateRefreshExpires p).link = p.link ∧ (baystateRefreshExpires p).sweep = p.sweep
      ∧ (baystateRefreshExpires p).lamps = p.lamps ∧ (baystateRefreshExpires p).faults = p.faults
      ∧ (baystateRefreshExpires p).cache = p.cache ∧ (baystateRefreshExpires p).bay = p.bay
      ∧ (baystateRefreshExpires p).remarks = p.remarks ∧ (baystateRefreshExpires p).orders = p.orders
      ∧ (baystateRefreshExpires p).free = p.free := by
  unfold baystateRefreshExpires
  split <;> simp

@[simp] theorem corruptFrameEnds_keeps (f : RawFrame) (p : Part) :
    (corruptFrameEnds f p).mode = p.mode ∧ (corruptFrameEnds f p).latch = p.latch
      ∧ (corruptFrameEnds f p).clock = p.clock ∧ (corruptFrameEnds f p).peers = p.peers
      ∧ (corruptFrameEnds f p).share = p.share ∧ (corruptFrameEnds f p).heat = p.heat
      ∧ (corruptFrameEnds f p).measure = p.measure ∧ (corruptFrameEnds f p).plan = p.plan
      ∧ (corruptFrameEnds f p).link = p.link ∧ (corruptFrameEnds f p).sweep = p.sweep
      ∧ (corruptFrameEnds f p).lamps = p.lamps ∧ (corruptFrameEnds f p).faults = p.faults
      ∧ (corruptFrameEnds f p).cache = p.cache ∧ (corruptFrameEnds f p).bay = p.bay
      ∧ (corruptFrameEnds f p).remarks = p.remarks ∧ (corruptFrameEnds f p).orders = p.orders
      ∧ (corruptFrameEnds f p).free = p.free := by
  unfold corruptFrameEnds
  split <;> simp

@[simp] theorem secondEnds_keeps (p : Part) :
    (secondEnds p).mode = p.mode ∧ (secondEnds p).latch = p.latch ∧ (secondEnds p).peers = p.peers
      ∧ (secondEnds p).share = p.share ∧ (secondEnds p).lamps = p.lamps ∧ (secondEnds p).orders = p.orders := by
  simp only [secondEnds]
  split <;> simp

@[simp] theorem statusChanged_keeps (p : Part) :
    (statusChanged p).mode = p.mode ∧ (statusChanged p).osc = p.osc ∧ (statusChanged p).latch = p.latch
      ∧ (statusChanged p).clock = p.clock ∧ (statusChanged p).peers = p.peers ∧ (statusChanged p).share = p.share
      ∧ (statusChanged p).lamps = p.lamps ∧ (statusChanged p).orders = p.orders := by
  simp [statusChanged]

@[simp] theorem timeSilenceExpires_keeps (p : Part) :
    (timeSilenceExpires p).mode = p.mode ∧ (timeSilenceExpires p).latch = p.latch
      ∧ (timeSilenceExpires p).peers = p.peers ∧ (timeSilenceExpires p).share = p.share
      ∧ (timeSilenceExpires p).lamps = p.lamps ∧ (timeSilenceExpires p).orders = p.orders := by
  unfold timeSilenceExpires
  split <;> simp

@[simp] theorem cacheShift_keeps (p : Part) :
    (cacheShift p).mode = p.mode ∧ (cacheShift p).osc = p.osc ∧ (cacheShift p).latch = p.latch
      ∧ (cacheShift p).clock = p.clock ∧ (cacheShift p).line = p.line ∧ (cacheShift p).peers = p.peers
      ∧ (cacheShift p).share = p.share ∧ (cacheShift p).heat = p.heat ∧ (cacheShift p).measure = p.measure
      ∧ (cacheShift p).plan = p.plan ∧ (cacheShift p).link = p.link ∧ (cacheShift p).sweep = p.sweep
      ∧ (cacheShift p).lamps = p.lamps ∧ (cacheShift p).faults = p.faults ∧ (cacheShift p).bay = p.bay
      ∧ (cacheShift p).remarks = p.remarks ∧ (cacheShift p).orders = p.orders ∧ (cacheShift p).free = p.free := by
  simp [cacheShift]

@[simp] theorem adoptTime_keeps (m n : Nat) (p : Part) :
    (adoptTime m n p).mode = p.mode ∧ (adoptTime m n p).osc = p.osc ∧ (adoptTime m n p).latch = p.latch
      ∧ (adoptTime m n p).peers = p.peers ∧ (adoptTime m n p).share = p.share ∧ (adoptTime m n p).lamps = p.lamps
      ∧ (adoptTime m n p).orders = p.orders := by
  simp only [adoptTime]
  (repeat' split) <;> simp

@[simp] theorem takeTime_keeps (t : TimePayload) (p : Part) :
    (takeTime t p).mode = p.mode ∧ (takeTime t p).osc = p.osc ∧ (takeTime t p).latch = p.latch
      ∧ (takeTime t p).peers = p.peers ∧ (takeTime t p).share = p.share ∧ (takeTime t p).lamps = p.lamps
      ∧ (takeTime t p).orders = p.orders := by
  unfold takeTime
  split <;> simp

@[simp] theorem afterPeers_keeps (v : List Position) (p : Part) :
    (afterPeers v p).mode = p.mode ∧ (afterPeers v p).osc = p.osc ∧ (afterPeers v p).latch = p.latch
      ∧ (afterPeers v p).clock = p.clock ∧ (afterPeers v p).peers = p.peers ∧ (afterPeers v p).share = p.share
      ∧ (afterPeers v p).lamps = p.lamps ∧ (afterPeers v p).orders = p.orders := by
  simp only [afterPeers]
  split <;> simp

@[simp] theorem overflowBegins_keeps (p : Part) :
    (overflowBegins p).mode = p.mode ∧ (overflowBegins p).osc = p.osc ∧ (overflowBegins p).latch = p.latch
      ∧ (overflowBegins p).clock = p.clock ∧ (overflowBegins p).heat = p.heat
      ∧ (overflowBegins p).measure = p.measure ∧ (overflowBegins p).plan = p.plan ∧ (overflowBegins p).link = p.link
      ∧ (overflowBegins p).sweep = p.sweep ∧ (overflowBegins p).lamps = p.lamps
      ∧ (overflowBegins p).faults = p.faults ∧ (overflowBegins p).cache = p.cache ∧ (overflowBegins p).bay = p.bay
      ∧ (overflowBegins p).orders = p.orders ∧ (overflowBegins p).free = p.free := by
  unfold overflowBegins
  split <;> simp

@[simp] theorem overflowEnds_keeps (p : Part) :
    (overflowEnds p).mode = p.mode ∧ (overflowEnds p).osc = p.osc ∧ (overflowEnds p).latch = p.latch
      ∧ (overflowEnds p).clock = p.clock ∧ (overflowEnds p).heat = p.heat ∧ (overflowEnds p).measure = p.measure
      ∧ (overflowEnds p).plan = p.plan ∧ (overflowEnds p).link = p.link ∧ (overflowEnds p).sweep = p.sweep
      ∧ (overflowEnds p).lamps = p.lamps ∧ (overflowEnds p).faults = p.faults ∧ (overflowEnds p).cache = p.cache
      ∧ (overflowEnds p).bay = p.bay ∧ (overflowEnds p).orders = p.orders ∧ (overflowEnds p).free = p.free := by
  unfold overflowEnds
  split <;> simp

@[simp] theorem setEntries_keeps (es : List Peer) (p : Part) :
    (setEntries es p).mode = p.mode ∧ (setEntries es p).osc = p.osc ∧ (setEntries es p).latch = p.latch
      ∧ (setEntries es p).clock = p.clock ∧ (setEntries es p).line = p.line ∧ (setEntries es p).share = p.share
      ∧ (setEntries es p).heat = p.heat ∧ (setEntries es p).measure = p.measure ∧ (setEntries es p).plan = p.plan
      ∧ (setEntries es p).link = p.link ∧ (setEntries es p).sweep = p.sweep ∧ (setEntries es p).lamps = p.lamps
      ∧ (setEntries es p).faults = p.faults ∧ (setEntries es p).cache = p.cache ∧ (setEntries es p).bay = p.bay
      ∧ (setEntries es p).remarks = p.remarks ∧ (setEntries es p).orders = p.orders
      ∧ (setEntries es p).free = p.free := by
  simp [setEntries]

@[simp] theorem deletionOf_keeps (n : Nat) (p : Part) :
    (deletionOf n p).mode = p.mode ∧ (deletionOf n p).osc = p.osc ∧ (deletionOf n p).latch = p.latch
      ∧ (deletionOf n p).clock = p.clock ∧ (deletionOf n p).lamps = p.lamps ∧ (deletionOf n p).orders = p.orders := by
  simp [deletionOf]

@[simp] theorem writePeer_keeps (e : Peer) (p : Part) :
    (writePeer e p).mode = p.mode ∧ (writePeer e p).osc = p.osc ∧ (writePeer e p).latch = p.latch
      ∧ (writePeer e p).clock = p.clock ∧ (writePeer e p).share = p.share ∧ (writePeer e p).lamps = p.lamps
      ∧ (writePeer e p).orders = p.orders := by
  simp [writePeer]

@[simp] theorem peerArrives_keeps (f : PeerFields) (p : Part) :
    (peerArrives f p).mode = p.mode ∧ (peerArrives f p).osc = p.osc ∧ (peerArrives f p).latch = p.latch
      ∧ (peerArrives f p).clock = p.clock ∧ (peerArrives f p).lamps = p.lamps ∧ (peerArrives f p).orders = p.orders := by
  unfold peerArrives
  (repeat' split) <;> simp

@[simp] theorem arrivesIfGood_keeps (f : Option PeerFields) (p : Part) :
    (arrivesIfGood f p).mode = p.mode ∧ (arrivesIfGood f p).osc = p.osc ∧ (arrivesIfGood f p).latch = p.latch
      ∧ (arrivesIfGood f p).clock = p.clock ∧ (arrivesIfGood f p).lamps = p.lamps
      ∧ (arrivesIfGood f p).orders = p.orders := by
  unfold arrivesIfGood
  split <;> simp

@[simp] theorem peerAges_keeps (n : Nat) (p : Part) :
    (peerAges n p).mode = p.mode ∧ (peerAges n p).latch = p.latch ∧ (peerAges n p).clock = p.clock
      ∧ (peerAges n p).lamps = p.lamps ∧ (peerAges n p).orders = p.orders := by
  simp only [peerAges]
  (repeat' split) <;> simp

@[simp] theorem ghostAges_keeps (n : Nat) (p : Part) :
    (ghostAges n p).mode = p.mode ∧ (ghostAges n p).latch = p.latch ∧ (ghostAges n p).clock = p.clock
      ∧ (ghostAges n p).lamps = p.lamps ∧ (ghostAges n p).orders = p.orders := by
  unfold ghostAges
  (repeat' split) <;> simp

@[simp] theorem takeShed_keeps (b : ShedPayload) (p : Part) :
    (takeShed b p).mode = p.mode ∧ (takeShed b p).osc = p.osc ∧ (takeShed b p).latch = p.latch
      ∧ (takeShed b p).clock = p.clock ∧ (takeShed b p).line = p.line ∧ (takeShed b p).peers = p.peers
      ∧ (takeShed b p).heat = p.heat ∧ (takeShed b p).measure = p.measure ∧ (takeShed b p).plan = p.plan
      ∧ (takeShed b p).link = p.link ∧ (takeShed b p).sweep = p.sweep ∧ (takeShed b p).lamps = p.lamps
      ∧ (takeShed b p).faults = p.faults ∧ (takeShed b p).cache = p.cache ∧ (takeShed b p).bay = p.bay
      ∧ (takeShed b p).remarks = p.remarks ∧ (takeShed b p).orders = p.orders ∧ (takeShed b p).free = p.free := by
  unfold takeShed
  split <;> simp

@[simp] theorem shedLockEnds_keeps (p : Part) :
    (shedLockEnds p).mode = p.mode ∧ (shedLockEnds p).latch = p.latch ∧ (shedLockEnds p).clock = p.clock
      ∧ (shedLockEnds p).line = p.line ∧ (shedLockEnds p).peers = p.peers ∧ (shedLockEnds p).heat = p.heat
      ∧ (shedLockEnds p).measure = p.measure ∧ (shedLockEnds p).plan = p.plan ∧ (shedLockEnds p).link = p.link
      ∧ (shedLockEnds p).sweep = p.sweep ∧ (shedLockEnds p).lamps = p.lamps ∧ (shedLockEnds p).faults = p.faults
      ∧ (shedLockEnds p).cache = p.cache ∧ (shedLockEnds p).bay = p.bay ∧ (shedLockEnds p).remarks = p.remarks
      ∧ (shedLockEnds p).orders = p.orders ∧ (shedLockEnds p).free = p.free := by
  unfold shedLockEnds
  split <;> simp

@[simp] theorem setPhase_keeps (q : Pass) (f : SweepPhase) (p : Part) :
    (setPhase q f p).mode = p.mode ∧ (setPhase q f p).osc = p.osc ∧ (setPhase q f p).latch = p.latch
      ∧ (setPhase q f p).clock = p.clock ∧ (setPhase q f p).line = p.line ∧ (setPhase q f p).peers = p.peers
      ∧ (setPhase q f p).share = p.share ∧ (setPhase q f p).heat = p.heat ∧ (setPhase q f p).measure = p.measure
      ∧ (setPhase q f p).plan = p.plan ∧ (setPhase q f p).link = p.link ∧ (setPhase q f p).lamps = p.lamps
      ∧ (setPhase q f p).faults = p.faults ∧ (setPhase q f p).cache = p.cache ∧ (setPhase q f p).bay = p.bay
      ∧ (setPhase q f p).remarks = p.remarks ∧ (setPhase q f p).orders = p.orders ∧ (setPhase q f p).free = p.free := by
  simp [setPhase]

@[simp] theorem energise_keeps (q : Pass) (g : Nat) (p : Part) :
    (energise q g p).mode = p.mode ∧ (energise q g p).osc = p.osc ∧ (energise q g p).latch = p.latch
      ∧ (energise q g p).clock = p.clock ∧ (energise q g p).line = p.line ∧ (energise q g p).peers = p.peers
      ∧ (energise q g p).share = p.share ∧ (energise q g p).heat = p.heat ∧ (energise q g p).measure = p.measure
      ∧ (energise q g p).plan = p.plan ∧ (energise q g p).lamps = p.lamps ∧ (energise q g p).faults = p.faults
      ∧ (energise q g p).cache = p.cache ∧ (energise q g p).bay = p.bay ∧ (energise q g p).remarks = p.remarks
      ∧ (energise q g p).orders = p.orders ∧ (energise q g p).free = p.free := by
  simp [energise]

@[simp] theorem endSweep_keeps (q : Pass) (p : Part) :
    (endSweep q p).mode = p.mode ∧ (endSweep q p).osc = p.osc ∧ (endSweep q p).latch = p.latch
      ∧ (endSweep q p).clock = p.clock ∧ (endSweep q p).line = p.line ∧ (endSweep q p).peers = p.peers
      ∧ (endSweep q p).share = p.share ∧ (endSweep q p).heat = p.heat ∧ (endSweep q p).measure = p.measure
      ∧ (endSweep q p).plan = p.plan ∧ (endSweep q p).lamps = p.lamps ∧ (endSweep q p).faults = p.faults
      ∧ (endSweep q p).cache = p.cache ∧ (endSweep q p).bay = p.bay ∧ (endSweep q p).remarks = p.remarks
      ∧ (endSweep q p).orders = p.orders ∧ (endSweep q p).free = p.free := by
  simp [endSweep]

@[simp] theorem moveOn_keeps (q : Pass) (g : Nat) (p : Part) :
    (moveOn q g p).mode = p.mode ∧ (moveOn q g p).osc = p.osc ∧ (moveOn q g p).latch = p.latch
      ∧ (moveOn q g p).clock = p.clock ∧ (moveOn q g p).line = p.line ∧ (moveOn q g p).peers = p.peers
      ∧ (moveOn q g p).share = p.share ∧ (moveOn q g p).heat = p.heat ∧ (moveOn q g p).measure = p.measure
      ∧ (moveOn q g p).plan = p.plan ∧ (moveOn q g p).lamps = p.lamps ∧ (moveOn q g p).faults = p.faults
      ∧ (moveOn q g p).cache = p.cache ∧ (moveOn q g p).bay = p.bay ∧ (moveOn q g p).remarks = p.remarks
      ∧ (moveOn q g p).orders = p.orders ∧ (moveOn q g p).free = p.free := by
  unfold moveOn
  (repeat' split) <;> simp

@[simp] theorem startSweep_keeps (p : Part) :
    (startSweep p).mode = p.mode ∧ (startSweep p).osc = p.osc ∧ (startSweep p).latch = p.latch
      ∧ (startSweep p).clock = p.clock ∧ (startSweep p).line = p.line ∧ (startSweep p).peers = p.peers
      ∧ (startSweep p).share = p.share ∧ (startSweep p).measure = p.measure ∧ (startSweep p).plan = p.plan
      ∧ (startSweep p).lamps = p.lamps ∧ (startSweep p).faults = p.faults ∧ (startSweep p).cache = p.cache
      ∧ (startSweep p).bay = p.bay ∧ (startSweep p).remarks = p.remarks ∧ (startSweep p).orders = p.orders
      ∧ (startSweep p).free = p.free := by
  simp [startSweep]

@[simp] theorem takeLampCode_keeps (q c : Nat) (p : Part) :
    (takeLampCode q c p).mode = p.mode ∧ (takeLampCode q c p).osc = p.osc ∧ (takeLampCode q c p).latch = p.latch
      ∧ (takeLampCode q c p).clock = p.clock ∧ (takeLampCode q c p).line = p.line
      ∧ (takeLampCode q c p).peers = p.peers ∧ (takeLampCode q c p).share = p.share
      ∧ (takeLampCode q c p).heat = p.heat ∧ (takeLampCode q c p).measure = p.measure
      ∧ (takeLampCode q c p).plan = p.plan ∧ (takeLampCode q c p).lamps = p.lamps
      ∧ (takeLampCode q c p).faults = p.faults ∧ (takeLampCode q c p).cache = p.cache
      ∧ (takeLampCode q c p).bay = p.bay ∧ (takeLampCode q c p).remarks = p.remarks
      ∧ (takeLampCode q c p).orders = p.orders ∧ (takeLampCode q c p).free = p.free := by
  simp only [takeLampCode]
  (repeat' split) <;> simp

@[simp] theorem settleExpires_keeps (p : Part) :
    (settleExpires p).mode = p.mode ∧ (settleExpires p).latch = p.latch ∧ (settleExpires p).clock = p.clock
      ∧ (settleExpires p).line = p.line ∧ (settleExpires p).peers = p.peers ∧ (settleExpires p).share = p.share
      ∧ (settleExpires p).heat = p.heat ∧ (settleExpires p).plan = p.plan ∧ (settleExpires p).link = p.link
      ∧ (settleExpires p).lamps = p.lamps ∧ (settleExpires p).faults = p.faults ∧ (settleExpires p).cache = p.cache
      ∧ (settleExpires p).bay = p.bay ∧ (settleExpires p).remarks = p.remarks ∧ (settleExpires p).orders = p.orders
      ∧ (settleExpires p).free = p.free := by
  unfold settleExpires
  split <;> simp

@[simp] theorem completeSweep_keeps (p : Part) :
    (completeSweep p).mode = p.mode ∧ (completeSweep p).osc = p.osc ∧ (completeSweep p).latch = p.latch
      ∧ (completeSweep p).clock = p.clock ∧ (completeSweep p).peers = p.peers ∧ (completeSweep p).share = p.share
      ∧ (completeSweep p).orders = p.orders := by
  simp [completeSweep]

@[simp] theorem lampsOutcome_keeps (o : LampsOutcome) (p : Part) :
    (lampsOutcome o p).mode = p.mode ∧ (lampsOutcome o p).osc = p.osc ∧ (lampsOutcome o p).latch = p.latch
      ∧ (lampsOutcome o p).clock = p.clock ∧ (lampsOutcome o p).peers = p.peers ∧ (lampsOutcome o p).share = p.share
      ∧ (lampsOutcome o p).orders = p.orders := by
  unfold lampsOutcome
  (repeat' split) <;> simp

@[simp] theorem offerSlot_keeps (p : Part) :
    (offerSlot p).mode = p.mode ∧ (offerSlot p).osc = p.osc ∧ (offerSlot p).latch = p.latch
      ∧ (offerSlot p).clock = p.clock ∧ (offerSlot p).line = p.line ∧ (offerSlot p).peers = p.peers
      ∧ (offerSlot p).share = p.share ∧ (offerSlot p).heat = p.heat ∧ (offerSlot p).plan = p.plan
      ∧ (offerSlot p).link = p.link ∧ (offerSlot p).sweep = p.sweep ∧ (offerSlot p).lamps = p.lamps
      ∧ (offerSlot p).faults = p.faults ∧ (offerSlot p).cache = p.cache ∧ (offerSlot p).bay = p.bay
      ∧ (offerSlot p).remarks = p.remarks ∧ (offerSlot p).orders = p.orders ∧ (offerSlot p).free = p.free := by
  unfold offerSlot
  (repeat' split) <;> simp

@[simp] theorem beginStep_keeps (k : Nat) (p : Part) :
    (beginStep k p).mode = p.mode ∧ (beginStep k p).osc = p.osc ∧ (beginStep k p).latch = p.latch
      ∧ (beginStep k p).clock = p.clock ∧ (beginStep k p).line = p.line ∧ (beginStep k p).peers = p.peers
      ∧ (beginStep k p).share = p.share ∧ (beginStep k p).plan = p.plan ∧ (beginStep k p).link = p.link
      ∧ (beginStep k p).sweep = p.sweep ∧ (beginStep k p).lamps = p.lamps ∧ (beginStep k p).faults = p.faults
      ∧ (beginStep k p).cache = p.cache ∧ (beginStep k p).bay = p.bay ∧ (beginStep k p).remarks = p.remarks
      ∧ (beginStep k p).orders = p.orders ∧ (beginStep k p).free = p.free := by
  unfold beginStep
  split <;> simp

@[simp] theorem stepStarts_keeps (p : Part) :
    (stepStarts p).mode = p.mode ∧ (stepStarts p).latch = p.latch ∧ (stepStarts p).clock = p.clock
      ∧ (stepStarts p).line = p.line ∧ (stepStarts p).peers = p.peers ∧ (stepStarts p).share = p.share
      ∧ (stepStarts p).plan = p.plan ∧ (stepStarts p).link = p.link ∧ (stepStarts p).sweep = p.sweep
      ∧ (stepStarts p).lamps = p.lamps ∧ (stepStarts p).faults = p.faults ∧ (stepStarts p).cache = p.cache
      ∧ (stepStarts p).bay = p.bay ∧ (stepStarts p).remarks = p.remarks ∧ (stepStarts p).orders = p.orders
      ∧ (stepStarts p).free = p.free := by
  unfold stepStarts
  split <;> simp

@[simp] theorem boundary_keeps (p : Part) :
    (boundary p).mode = p.mode ∧ (boundary p).latch = p.latch ∧ (boundary p).clock = p.clock
      ∧ (boundary p).peers = p.peers ∧ (boundary p).plan = p.plan ∧ (boundary p).lamps = p.lamps
      ∧ (boundary p).faults = p.faults ∧ (boundary p).cache = p.cache ∧ (boundary p).bay = p.bay
      ∧ (boundary p).remarks = p.remarks ∧ (boundary p).orders = p.orders ∧ (boundary p).free = p.free := by
  unfold boundary judgeSweepStart
  simp only []
  split <;> (try split) <;> simp

theorem takeConversion_keeps {kind : Conversion → Bool} {p : Part} {c : Conversion} {q : Part} {b : Bool}
    (h : takeConversion kind p = some (c, q, b)) :
    q.mode = p.mode ∧ q.latch = p.latch ∧ q.clock = p.clock ∧ q.line = p.line ∧ q.peers = p.peers
      ∧ q.share = p.share ∧ q.heat = p.heat ∧ q.plan = p.plan ∧ q.link = p.link ∧ q.sweep = p.sweep
      ∧ q.lamps = p.lamps ∧ q.faults = p.faults ∧ q.cache = p.cache ∧ q.bay = p.bay ∧ q.remarks = p.remarks
      ∧ q.orders = p.orders ∧ q.free = p.free := by
  unfold takeConversion at h
  split at h
  · simp only [Option.some.injEq, Prod.mk.injEq] at h; obtain ⟨-, rfl, -⟩ := h; simp
  · simp only [Option.some.injEq, Prod.mk.injEq] at h; obtain ⟨-, rfl, -⟩ := h; simp
  · cases h

@[simp] theorem refloEnds_keeps (c : Code) (p : Part) :
    (refloEnds c p).mode = p.mode ∧ (refloEnds c p).latch = p.latch ∧ (refloEnds c p).clock = p.clock
      ∧ (refloEnds c p).line = p.line ∧ (refloEnds c p).peers = p.peers ∧ (refloEnds c p).share = p.share
      ∧ (refloEnds c p).heat = p.heat ∧ (refloEnds c p).plan = p.plan ∧ (refloEnds c p).link = p.link
      ∧ (refloEnds c p).sweep = p.sweep ∧ (refloEnds c p).lamps = p.lamps ∧ (refloEnds c p).faults = p.faults
      ∧ (refloEnds c p).cache = p.cache ∧ (refloEnds c p).bay = p.bay ∧ (refloEnds c p).remarks = p.remarks
      ∧ (refloEnds c p).orders = p.orders ∧ (refloEnds c p).free = p.free := by
  unfold refloEnds
  split
  case h_1 h => have k := takeConversion_keeps h; simp [k]
  all_goals simp

@[simp] theorem setChain_keeps (c : ChainStatus) (p : Part) :
    (setChain c p).mode = p.mode ∧ (setChain c p).osc = p.osc ∧ (setChain c p).latch = p.latch
      ∧ (setChain c p).clock = p.clock ∧ (setChain c p).peers = p.peers ∧ (setChain c p).share = p.share
      ∧ (setChain c p).lamps = p.lamps ∧ (setChain c p).orders = p.orders := by
  simp only [setChain]
  split <;> simp

@[simp] theorem refhiEnds_keeps (c : Code) (p : Part) :
    (refhiEnds c p).mode = p.mode ∧ (refhiEnds c p).latch = p.latch ∧ (refhiEnds c p).clock = p.clock
      ∧ (refhiEnds c p).peers = p.peers ∧ (refhiEnds c p).share = p.share ∧ (refhiEnds c p).lamps = p.lamps
      ∧ (refhiEnds c p).orders = p.orders := by
  unfold refhiEnds
  split
  case h_1 h => have k := takeConversion_keeps h; (repeat' split) <;> simp [k]
  all_goals simp

@[simp] theorem temperatureEnds_keeps (c : Code) (p : Part) :
    (temperatureEnds c p).mode = p.mode ∧ (temperatureEnds c p).latch = p.latch
      ∧ (temperatureEnds c p).clock = p.clock ∧ (temperatureEnds c p).line = p.line
      ∧ (temperatureEnds c p).peers = p.peers ∧ (temperatureEnds c p).share = p.share
      ∧ (temperatureEnds c p).heat = p.heat ∧ (temperatureEnds c p).plan = p.plan
      ∧ (temperatureEnds c p).link = p.link ∧ (temperatureEnds c p).sweep = p.sweep
      ∧ (temperatureEnds c p).lamps = p.lamps ∧ (temperatureEnds c p).faults = p.faults
      ∧ (temperatureEnds c p).cache = p.cache ∧ (temperatureEnds c p).bay = p.bay
      ∧ (temperatureEnds c p).remarks = p.remarks ∧ (temperatureEnds c p).orders = p.orders
      ∧ (temperatureEnds c p).free = p.free := by
  unfold temperatureEnds
  split
  case h_1 h => have k := takeConversion_keeps h; (repeat' split) <;> simp [k]
  all_goals simp

@[simp] theorem lampEnds_keeps (c : Code) (p : Part) :
    (lampEnds c p).mode = p.mode ∧ (lampEnds c p).latch = p.latch ∧ (lampEnds c p).clock = p.clock
      ∧ (lampEnds c p).line = p.line ∧ (lampEnds c p).peers = p.peers ∧ (lampEnds c p).share = p.share
      ∧ (lampEnds c p).heat = p.heat ∧ (lampEnds c p).plan = p.plan ∧ (lampEnds c p).lamps = p.lamps
      ∧ (lampEnds c p).faults = p.faults ∧ (lampEnds c p).cache = p.cache ∧ (lampEnds c p).bay = p.bay
      ∧ (lampEnds c p).remarks = p.remarks ∧ (lampEnds c p).orders = p.orders ∧ (lampEnds c p).free = p.free := by
  unfold lampEnds
  split
  case h_1 h => have k := takeConversion_keeps h; simp [k]
  all_goals simp

@[simp] theorem completeRead_keeps (p : Part) :
    (completeRead p).mode = p.mode ∧ (completeRead p).osc = p.osc ∧ (completeRead p).latch = p.latch
      ∧ (completeRead p).clock = p.clock ∧ (completeRead p).peers = p.peers ∧ (completeRead p).share = p.share
      ∧ (completeRead p).lamps = p.lamps ∧ (completeRead p).orders = p.orders := by
  simp [completeRead]

@[simp] theorem placeRead_keeps (n : Nat) (p : Part) :
    (placeRead n p).mode = p.mode ∧ (placeRead n p).osc = p.osc ∧ (placeRead n p).latch = p.latch
      ∧ (placeRead n p).clock = p.clock ∧ (placeRead n p).line = p.line ∧ (placeRead n p).peers = p.peers
      ∧ (placeRead n p).share = p.share ∧ (placeRead n p).heat = p.heat ∧ (placeRead n p).measure = p.measure
      ∧ (placeRead n p).plan = p.plan ∧ (placeRead n p).sweep = p.sweep ∧ (placeRead n p).lamps = p.lamps
      ∧ (placeRead n p).cache = p.cache ∧ (placeRead n p).bay = p.bay ∧ (placeRead n p).remarks = p.remarks
      ∧ (placeRead n p).orders = p.orders ∧ (placeRead n p).free = p.free := by
  simp [placeRead]

@[simp] theorem nextRecord_keeps (p : Part) :
    (nextRecord p).mode = p.mode ∧ (nextRecord p).osc = p.osc ∧ (nextRecord p).latch = p.latch
      ∧ (nextRecord p).clock = p.clock ∧ (nextRecord p).peers = p.peers ∧ (nextRecord p).share = p.share
      ∧ (nextRecord p).lamps = p.lamps ∧ (nextRecord p).orders = p.orders := by
  unfold nextRecord
  simp only []
  split <;> simp

@[simp] theorem takeRecord_keeps (ws : List Word16) (p : Part) :
    (takeRecord ws p).mode = p.mode ∧ (takeRecord ws p).osc = p.osc ∧ (takeRecord ws p).latch = p.latch
      ∧ (takeRecord ws p).clock = p.clock ∧ (takeRecord ws p).peers = p.peers ∧ (takeRecord ws p).share = p.share
      ∧ (takeRecord ws p).lamps = p.lamps ∧ (takeRecord ws p).orders = p.orders := by
  simp only [takeRecord]
  split <;> simp

@[simp] theorem faultOutcome_keeps (c : CommandCode) (o : FaultOutcome) (p : Part) :
    (faultOutcome c o p).mode = p.mode ∧ (faultOutcome c o p).osc = p.osc ∧ (faultOutcome c o p).latch = p.latch
      ∧ (faultOutcome c o p).clock = p.clock ∧ (faultOutcome c o p).peers = p.peers
      ∧ (faultOutcome c o p).share = p.share ∧ (faultOutcome c o p).lamps = p.lamps
      ∧ (faultOutcome c o p).orders = p.orders := by
  simp only [faultOutcome]
  (repeat' split) <;> simp

@[simp] theorem enterUp_keeps (p : Part) :
    (enterUp p).mode = p.mode ∧ (enterUp p).osc = p.osc ∧ (enterUp p).latch = p.latch ∧ (enterUp p).clock = p.clock
      ∧ (enterUp p).line = p.line ∧ (enterUp p).peers = p.peers ∧ (enterUp p).share = p.share
      ∧ (enterUp p).heat = p.heat ∧ (enterUp p).measure = p.measure ∧ (enterUp p).plan = p.plan
      ∧ (enterUp p).sweep = p.sweep ∧ (enterUp p).lamps = p.lamps ∧ (enterUp p).faults = p.faults
      ∧ (enterUp p).cache = p.cache ∧ (enterUp p).bay = p.bay ∧ (enterUp p).remarks = p.remarks
      ∧ (enterUp p).orders = p.orders ∧ (enterUp p).free = p.free := by
  simp [enterUp]

@[simp] theorem enterLost_keeps (p : Part) :
    (enterLost p).mode = p.mode ∧ (enterLost p).osc = p.osc ∧ (enterLost p).latch = p.latch
      ∧ (enterLost p).clock = p.clock ∧ (enterLost p).peers = p.peers ∧ (enterLost p).share = p.share
      ∧ (enterLost p).lamps = p.lamps := by
  simp [enterLost]

@[simp] theorem acceptIdentity_keeps (d : Identity) (p : Part) :
    (acceptIdentity d p).mode = p.mode ∧ (acceptIdentity d p).osc = p.osc ∧ (acceptIdentity d p).latch = p.latch
      ∧ (acceptIdentity d p).clock = p.clock ∧ (acceptIdentity d p).peers = p.peers := by
  simp only [acceptIdentity]
  (repeat' split) <;> simp

@[simp] theorem leaveFlight_keeps (p : Part) :
    (leaveFlight p).mode = p.mode ∧ (leaveFlight p).osc = p.osc ∧ (leaveFlight p).latch = p.latch
      ∧ (leaveFlight p).clock = p.clock ∧ (leaveFlight p).line = p.line ∧ (leaveFlight p).peers = p.peers
      ∧ (leaveFlight p).share = p.share ∧ (leaveFlight p).heat = p.heat ∧ (leaveFlight p).measure = p.measure
      ∧ (leaveFlight p).plan = p.plan ∧ (leaveFlight p).sweep = p.sweep ∧ (leaveFlight p).lamps = p.lamps
      ∧ (leaveFlight p).faults = p.faults ∧ (leaveFlight p).cache = p.cache ∧ (leaveFlight p).bay = p.bay
      ∧ (leaveFlight p).remarks = p.remarks ∧ (leaveFlight p).orders = p.orders ∧ (leaveFlight p).free = p.free := by
  simp [leaveFlight]

@[simp] theorem setHold_keeps (v : Bool) (p : Part) :
    (setHold v p).mode = p.mode ∧ (setHold v p).osc = p.osc ∧ (setHold v p).latch = p.latch
      ∧ (setHold v p).clock = p.clock ∧ (setHold v p).line = p.line ∧ (setHold v p).peers = p.peers
      ∧ (setHold v p).share = p.share ∧ (setHold v p).heat = p.heat ∧ (setHold v p).measure = p.measure
      ∧ (setHold v p).plan = p.plan ∧ (setHold v p).sweep = p.sweep ∧ (setHold v p).lamps = p.lamps
      ∧ (setHold v p).faults = p.faults ∧ (setHold v p).cache = p.cache ∧ (setHold v p).bay = p.bay
      ∧ (setHold v p).remarks = p.remarks ∧ (setHold v p).orders = p.orders ∧ (setHold v p).free = p.free := by
  simp [setHold]

@[simp] theorem ackOutcome_keeps (c : Command) (p : Part) :
    (ackOutcome c p).mode = p.mode ∧ (ackOutcome c p).osc = p.osc ∧ (ackOutcome c p).latch = p.latch
      ∧ (ackOutcome c p).clock = p.clock ∧ (ackOutcome c p).peers = p.peers := by
  unfold ackOutcome
  (repeat' split) <;> simp

@[simp] theorem lastOutcome_keeps (c : Command) (ws : List Word16) (p : Part) :
    (lastOutcome c ws p).mode = p.mode ∧ (lastOutcome c ws p).osc = p.osc ∧ (lastOutcome c ws p).latch = p.latch
      ∧ (lastOutcome c ws p).clock = p.clock ∧ (lastOutcome c ws p).peers = p.peers
      ∧ (lastOutcome c ws p).share = p.share ∧ (lastOutcome c ws p).lamps = p.lamps
      ∧ (lastOutcome c ws p).orders = p.orders := by
  unfold lastOutcome
  split <;> simp

@[simp] theorem refuseOutcome_keeps (c : Command) (p : Part) :
    (refuseOutcome c p).mode = p.mode ∧ (refuseOutcome c p).osc = p.osc ∧ (refuseOutcome c p).latch = p.latch
      ∧ (refuseOutcome c p).clock = p.clock ∧ (refuseOutcome c p).peers = p.peers := by
  unfold refuseOutcome
  split <;> simp

@[simp] theorem failedOutcome_keeps (c : Command) (p : Part) :
    (failedOutcome c p).mode = p.mode ∧ (failedOutcome c p).osc = p.osc ∧ (failedOutcome c p).latch = p.latch
      ∧ (failedOutcome c p).clock = p.clock ∧ (failedOutcome c p).peers = p.peers
      ∧ (failedOutcome c p).share = p.share ∧ (failedOutcome c p).orders = p.orders := by
  unfold failedOutcome
  split <;> simp

@[simp] theorem failCommand_keeps (f : InFlight) (p : Part) :
    (failCommand f p).mode = p.mode ∧ (failCommand f p).osc = p.osc ∧ (failCommand f p).latch = p.latch
      ∧ (failCommand f p).clock = p.clock ∧ (failCommand f p).peers = p.peers ∧ (failCommand f p).share = p.share := by
  unfold failCommand
  split <;> simp

@[simp] theorem answerEnds_keeps (p : Part) :
    (answerEnds p).mode = p.mode ∧ (answerEnds p).osc = p.osc ∧ (answerEnds p).latch = p.latch
      ∧ (answerEnds p).clock = p.clock ∧ (answerEnds p).line = p.line ∧ (answerEnds p).peers = p.peers
      ∧ (answerEnds p).share = p.share ∧ (answerEnds p).heat = p.heat ∧ (answerEnds p).measure = p.measure
      ∧ (answerEnds p).plan = p.plan ∧ (answerEnds p).sweep = p.sweep ∧ (answerEnds p).lamps = p.lamps
      ∧ (answerEnds p).faults = p.faults ∧ (answerEnds p).cache = p.cache ∧ (answerEnds p).bay = p.bay
      ∧ (answerEnds p).remarks = p.remarks ∧ (answerEnds p).orders = p.orders ∧ (answerEnds p).free = p.free := by
  unfold answerEnds
  split <;> simp

@[simp] theorem takeWait_keeps (f : InFlight) (p : Part) :
    (takeWait f p).mode = p.mode ∧ (takeWait f p).osc = p.osc ∧ (takeWait f p).latch = p.latch
      ∧ (takeWait f p).clock = p.clock ∧ (takeWait f p).peers = p.peers ∧ (takeWait f p).share = p.share := by
  simp only [takeWait]
  split <;> simp

@[simp] theorem takeData_keeps (f : InFlight) (w : Word16) (p : Part) :
    (takeData f w p).mode = p.mode ∧ (takeData f w p).osc = p.osc ∧ (takeData f w p).latch = p.latch
      ∧ (takeData f w p).clock = p.clock ∧ (takeData f w p).peers = p.peers ∧ (takeData f w p).share = p.share := by
  unfold takeData
  split <;> simp

@[simp] theorem takeLast_keeps (f : InFlight) (w : Word16) (p : Part) :
    (takeLast f w p).mode = p.mode ∧ (takeLast f w p).osc = p.osc ∧ (takeLast f w p).latch = p.latch
      ∧ (takeLast f w p).clock = p.clock ∧ (takeLast f w p).peers = p.peers := by
  simp only [takeLast]
  (repeat' split) <;> simp

@[simp] theorem takeAck_keeps (f : InFlight) (p : Part) :
    (takeAck f p).mode = p.mode ∧ (takeAck f p).osc = p.osc ∧ (takeAck f p).latch = p.latch
      ∧ (takeAck f p).clock = p.clock ∧ (takeAck f p).peers = p.peers := by
  simp only [takeAck]
  split <;> simp

@[simp] theorem takeRefuse_keeps (f : InFlight) (w : Word16) (p : Part) :
    (takeRefuse f w p).mode = p.mode ∧ (takeRefuse f w p).osc = p.osc ∧ (takeRefuse f w p).latch = p.latch
      ∧ (takeRefuse f w p).clock = p.clock ∧ (takeRefuse f w p).peers = p.peers := by
  simp only [takeRefuse]
  split <;> simp

@[simp] theorem takeWord_keeps (f : InFlight) (w : CoachWord) (p : Part) :
    (takeWord f w p).mode = p.mode ∧ (takeWord f w p).osc = p.osc ∧ (takeWord f w p).latch = p.latch
      ∧ (takeWord f w p).clock = p.clock ∧ (takeWord f w p).peers = p.peers := by
  unfold takeWord
  split <;> simp

@[simp] theorem beatHeard_keeps (b : Moment) (p : Part) :
    (beatHeard b p).mode = p.mode ∧ (beatHeard b p).latch = p.latch ∧ (beatHeard b p).clock = p.clock
      ∧ (beatHeard b p).line = p.line ∧ (beatHeard b p).peers = p.peers ∧ (beatHeard b p).share = p.share
      ∧ (beatHeard b p).heat = p.heat ∧ (beatHeard b p).measure = p.measure ∧ (beatHeard b p).plan = p.plan
      ∧ (beatHeard b p).sweep = p.sweep ∧ (beatHeard b p).lamps = p.lamps ∧ (beatHeard b p).faults = p.faults
      ∧ (beatHeard b p).cache = p.cache ∧ (beatHeard b p).bay = p.bay ∧ (beatHeard b p).remarks = p.remarks
      ∧ (beatHeard b p).orders = p.orders ∧ (beatHeard b p).free = p.free := by
  simp [beatHeard]

@[simp] theorem beatOpens_keeps (p : Part) :
    (beatOpens p).mode = p.mode ∧ (beatOpens p).latch = p.latch ∧ (beatOpens p).clock = p.clock
      ∧ (beatOpens p).line = p.line ∧ (beatOpens p).peers = p.peers ∧ (beatOpens p).share = p.share
      ∧ (beatOpens p).heat = p.heat ∧ (beatOpens p).measure = p.measure ∧ (beatOpens p).plan = p.plan
      ∧ (beatOpens p).sweep = p.sweep ∧ (beatOpens p).lamps = p.lamps ∧ (beatOpens p).faults = p.faults
      ∧ (beatOpens p).cache = p.cache ∧ (beatOpens p).bay = p.bay ∧ (beatOpens p).remarks = p.remarks
      ∧ (beatOpens p).orders = p.orders ∧ (beatOpens p).free = p.free := by
  simp [beatOpens]

@[simp] theorem coachWord_keeps (w : CoachWord) (p : Part) :
    (coachWord w p).mode = p.mode ∧ (coachWord w p).latch = p.latch ∧ (coachWord w p).clock = p.clock
      ∧ (coachWord w p).peers = p.peers := by
  simp only [coachWord]
  (repeat' split) <;> simp

@[simp] theorem waitCountEnds_keeps (p : Part) :
    (waitCountEnds p).mode = p.mode ∧ (waitCountEnds p).latch = p.latch ∧ (waitCountEnds p).clock = p.clock
      ∧ (waitCountEnds p).peers = p.peers ∧ (waitCountEnds p).share = p.share := by
  simp only [waitCountEnds]
  (repeat' split) <;> simp

@[simp] theorem sendCommand_keeps (who : Requester) (c : Command) (p : Part) :
    (sendCommand who c p).mode = p.mode ∧ (sendCommand who c p).latch = p.latch
      ∧ (sendCommand who c p).clock = p.clock ∧ (sendCommand who c p).line = p.line
      ∧ (sendCommand who c p).peers = p.peers ∧ (sendCommand who c p).share = p.share
      ∧ (sendCommand who c p).heat = p.heat ∧ (sendCommand who c p).measure = p.measure
      ∧ (sendCommand who c p).plan = p.plan ∧ (sendCommand who c p).lamps = p.lamps
      ∧ (sendCommand who c p).faults = p.faults ∧ (sendCommand who c p).cache = p.cache
      ∧ (sendCommand who c p).bay = p.bay ∧ (sendCommand who c p).remarks = p.remarks
      ∧ (sendCommand who c p).orders = p.orders ∧ (sendCommand who c p).free = p.free := by
  simp [sendCommand]

@[simp] theorem chosen_keeps (c : CommandCode) (p : Part) :
    (chosen c p).mode = p.mode ∧ (chosen c p).latch = p.latch ∧ (chosen c p).clock = p.clock
      ∧ (chosen c p).line = p.line ∧ (chosen c p).peers = p.peers ∧ (chosen c p).share = p.share
      ∧ (chosen c p).heat = p.heat ∧ (chosen c p).measure = p.measure ∧ (chosen c p).plan = p.plan
      ∧ (chosen c p).lamps = p.lamps ∧ (chosen c p).faults = p.faults ∧ (chosen c p).cache = p.cache
      ∧ (chosen c p).bay = p.bay ∧ (chosen c p).remarks = p.remarks ∧ (chosen c p).orders = p.orders
      ∧ (chosen c p).free = p.free := by
  unfold chosen
  (repeat' split) <;> simp

@[simp] theorem recoveryBeat_keeps (b : Moment) (p : Part) :
    (recoveryBeat b p).mode = p.mode ∧ (recoveryBeat b p).latch = p.latch ∧ (recoveryBeat b p).clock = p.clock
      ∧ (recoveryBeat b p).line = p.line ∧ (recoveryBeat b p).peers = p.peers ∧ (recoveryBeat b p).share = p.share
      ∧ (recoveryBeat b p).heat = p.heat ∧ (recoveryBeat b p).measure = p.measure ∧ (recoveryBeat b p).plan = p.plan
      ∧ (recoveryBeat b p).sweep = p.sweep ∧ (recoveryBeat b p).lamps = p.lamps
      ∧ (recoveryBeat b p).faults = p.faults ∧ (recoveryBeat b p).cache = p.cache ∧ (recoveryBeat b p).bay = p.bay
      ∧ (recoveryBeat b p).remarks = p.remarks ∧ (recoveryBeat b p).orders = p.orders
      ∧ (recoveryBeat b p).free = p.free := by
  simp [recoveryBeat]

@[simp] theorem recoveryEnds_keeps (p : Part) :
    (recoveryEnds p).mode = p.mode ∧ (recoveryEnds p).latch = p.latch ∧ (recoveryEnds p).clock = p.clock
      ∧ (recoveryEnds p).line = p.line ∧ (recoveryEnds p).peers = p.peers ∧ (recoveryEnds p).share = p.share
      ∧ (recoveryEnds p).heat = p.heat ∧ (recoveryEnds p).measure = p.measure ∧ (recoveryEnds p).plan = p.plan
      ∧ (recoveryEnds p).sweep = p.sweep ∧ (recoveryEnds p).lamps = p.lamps ∧ (recoveryEnds p).faults = p.faults
      ∧ (recoveryEnds p).cache = p.cache ∧ (recoveryEnds p).bay = p.bay ∧ (recoveryEnds p).remarks = p.remarks
      ∧ (recoveryEnds p).orders = p.orders ∧ (recoveryEnds p).free = p.free := by
  unfold recoveryEnds
  (repeat' split) <;> simp

@[simp] theorem startTimerExpires_keeps (p : Part) :
    (startTimerExpires p).mode = p.mode ∧ (startTimerExpires p).latch = p.latch
      ∧ (startTimerExpires p).clock = p.clock ∧ (startTimerExpires p).peers = p.peers
      ∧ (startTimerExpires p).share = p.share ∧ (startTimerExpires p).lamps = p.lamps := by
  unfold startTimerExpires
  split <;> simp

@[simp] theorem lostPingExpires_keeps (p : Part) :
    (lostPingExpires p).mode = p.mode ∧ (lostPingExpires p).latch = p.latch ∧ (lostPingExpires p).clock = p.clock
      ∧ (lostPingExpires p).line = p.line ∧ (lostPingExpires p).peers = p.peers
      ∧ (lostPingExpires p).share = p.share ∧ (lostPingExpires p).heat = p.heat
      ∧ (lostPingExpires p).measure = p.measure ∧ (lostPingExpires p).plan = p.plan
      ∧ (lostPingExpires p).sweep = p.sweep ∧ (lostPingExpires p).lamps = p.lamps
      ∧ (lostPingExpires p).faults = p.faults ∧ (lostPingExpires p).cache = p.cache
      ∧ (lostPingExpires p).bay = p.bay ∧ (lostPingExpires p).remarks = p.remarks
      ∧ (lostPingExpires p).orders = p.orders ∧ (lostPingExpires p).free = p.free := by
  unfold lostPingExpires
  split <;> simp

@[simp] theorem keepAliveExpires_keeps (p : Part) :
    (keepAliveExpires p).mode = p.mode ∧ (keepAliveExpires p).latch = p.latch ∧ (keepAliveExpires p).clock = p.clock
      ∧ (keepAliveExpires p).line = p.line ∧ (keepAliveExpires p).peers = p.peers
      ∧ (keepAliveExpires p).share = p.share ∧ (keepAliveExpires p).heat = p.heat
      ∧ (keepAliveExpires p).measure = p.measure ∧ (keepAliveExpires p).plan = p.plan
      ∧ (keepAliveExpires p).sweep = p.sweep ∧ (keepAliveExpires p).lamps = p.lamps
      ∧ (keepAliveExpires p).faults = p.faults ∧ (keepAliveExpires p).cache = p.cache
      ∧ (keepAliveExpires p).bay = p.bay ∧ (keepAliveExpires p).remarks = p.remarks
      ∧ (keepAliveExpires p).orders = p.orders ∧ (keepAliveExpires p).free = p.free := by
  unfold keepAliveExpires
  split <;> simp

@[simp] theorem takeCancel_keeps (n : Nat) (p : Part) :
    (takeCancel n p).mode = p.mode ∧ (takeCancel n p).osc = p.osc ∧ (takeCancel n p).latch = p.latch
      ∧ (takeCancel n p).clock = p.clock ∧ (takeCancel n p).peers = p.peers ∧ (takeCancel n p).share = p.share
      ∧ (takeCancel n p).lamps = p.lamps ∧ (takeCancel n p).orders = p.orders := by
  simp only [takeCancel]
  split <;> simp

@[simp] theorem takeEntry_keeps (e : RosterEntry) (p : Part) :
    (takeEntry e p).mode = p.mode ∧ (takeEntry e p).osc = p.osc ∧ (takeEntry e p).latch = p.latch
      ∧ (takeEntry e p).clock = p.clock ∧ (takeEntry e p).peers = p.peers ∧ (takeEntry e p).share = p.share
      ∧ (takeEntry e p).lamps = p.lamps ∧ (takeEntry e p).orders = p.orders := by
  simp only [takeEntry]
  (repeat' split) <;> simp

@[simp] theorem takeRosterFrame_keeps (b : RosterPayload) (p : Part) :
    (takeRosterFrame b p).mode = p.mode ∧ (takeRosterFrame b p).osc = p.osc ∧ (takeRosterFrame b p).latch = p.latch
      ∧ (takeRosterFrame b p).clock = p.clock ∧ (takeRosterFrame b p).peers = p.peers
      ∧ (takeRosterFrame b p).share = p.share ∧ (takeRosterFrame b p).lamps = p.lamps
      ∧ (takeRosterFrame b p).orders = p.orders := by
  unfold takeRosterFrame
  (repeat' split) <;> simp

@[simp] theorem askCountEnds_keeps (p : Part) :
    (askCountEnds p).mode = p.mode ∧ (askCountEnds p).osc = p.osc ∧ (askCountEnds p).latch = p.latch
      ∧ (askCountEnds p).clock = p.clock ∧ (askCountEnds p).peers = p.peers ∧ (askCountEnds p).share = p.share
      ∧ (askCountEnds p).heat = p.heat ∧ (askCountEnds p).measure = p.measure ∧ (askCountEnds p).plan = p.plan
      ∧ (askCountEnds p).link = p.link ∧ (askCountEnds p).sweep = p.sweep ∧ (askCountEnds p).lamps = p.lamps
      ∧ (askCountEnds p).faults = p.faults ∧ (askCountEnds p).bay = p.bay ∧ (askCountEnds p).remarks = p.remarks
      ∧ (askCountEnds p).orders = p.orders ∧ (askCountEnds p).free = p.free := by
  unfold askCountEnds
  split <;> simp

@[simp] theorem coupleRises_keeps (p : Part) :
    (coupleRises p).mode = p.mode ∧ (coupleRises p).latch = p.latch ∧ (coupleRises p).clock = p.clock
      ∧ (coupleRises p).peers = p.peers ∧ (coupleRises p).share = p.share ∧ (coupleRises p).lamps = p.lamps
      ∧ (coupleRises p).orders = p.orders := by
  unfold coupleRises
  split <;> simp

@[simp] theorem coupleFalls_keeps (p : Part) :
    (coupleFalls p).mode = p.mode ∧ (coupleFalls p).osc = p.osc ∧ (coupleFalls p).latch = p.latch
      ∧ (coupleFalls p).clock = p.clock ∧ (coupleFalls p).peers = p.peers := by
  unfold coupleFalls
  split <;> simp

@[simp] theorem holdRetryExpires_keeps (p : Part) :
    (holdRetryExpires p).mode = p.mode ∧ (holdRetryExpires p).latch = p.latch ∧ (holdRetryExpires p).clock = p.clock
      ∧ (holdRetryExpires p).line = p.line ∧ (holdRetryExpires p).peers = p.peers
      ∧ (holdRetryExpires p).share = p.share ∧ (holdRetryExpires p).heat = p.heat
      ∧ (holdRetryExpires p).measure = p.measure ∧ (holdRetryExpires p).plan = p.plan
      ∧ (holdRetryExpires p).sweep = p.sweep ∧ (holdRetryExpires p).lamps = p.lamps
      ∧ (holdRetryExpires p).faults = p.faults ∧ (holdRetryExpires p).cache = p.cache
      ∧ (holdRetryExpires p).remarks = p.remarks ∧ (holdRetryExpires p).orders = p.orders
      ∧ (holdRetryExpires p).free = p.free := by
  simp only [holdRetryExpires]
  (repeat' split) <;> simp

@[simp] theorem clearanceCountEnds_keeps (p : Part) :
    (clearanceCountEnds p).mode = p.mode ∧ (clearanceCountEnds p).osc = p.osc
      ∧ (clearanceCountEnds p).latch = p.latch ∧ (clearanceCountEnds p).clock = p.clock
      ∧ (clearanceCountEnds p).peers = p.peers ∧ (clearanceCountEnds p).share = p.share
      ∧ (clearanceCountEnds p).heat = p.heat ∧ (clearanceCountEnds p).measure = p.measure
      ∧ (clearanceCountEnds p).plan = p.plan ∧ (clearanceCountEnds p).link = p.link
      ∧ (clearanceCountEnds p).sweep = p.sweep ∧ (clearanceCountEnds p).lamps = p.lamps
      ∧ (clearanceCountEnds p).faults = p.faults ∧ (clearanceCountEnds p).cache = p.cache
      ∧ (clearanceCountEnds p).orders = p.orders ∧ (clearanceCountEnds p).free = p.free := by
  unfold clearanceCountEnds
  split <;> simp

@[simp] theorem tooEarlyEnds_keeps (p : Part) :
    (tooEarlyEnds p).mode = p.mode ∧ (tooEarlyEnds p).latch = p.latch ∧ (tooEarlyEnds p).clock = p.clock
      ∧ (tooEarlyEnds p).line = p.line ∧ (tooEarlyEnds p).peers = p.peers ∧ (tooEarlyEnds p).share = p.share
      ∧ (tooEarlyEnds p).heat = p.heat ∧ (tooEarlyEnds p).measure = p.measure ∧ (tooEarlyEnds p).plan = p.plan
      ∧ (tooEarlyEnds p).link = p.link ∧ (tooEarlyEnds p).sweep = p.sweep ∧ (tooEarlyEnds p).lamps = p.lamps
      ∧ (tooEarlyEnds p).faults = p.faults ∧ (tooEarlyEnds p).cache = p.cache ∧ (tooEarlyEnds p).remarks = p.remarks
      ∧ (tooEarlyEnds p).orders = p.orders ∧ (tooEarlyEnds p).free = p.free := by
  unfold tooEarlyEnds
  split <;> simp

@[simp] theorem chirpsEnd_keeps (p : Part) :
    (chirpsEnd p).mode = p.mode ∧ (chirpsEnd p).latch = p.latch ∧ (chirpsEnd p).clock = p.clock
      ∧ (chirpsEnd p).line = p.line ∧ (chirpsEnd p).peers = p.peers ∧ (chirpsEnd p).share = p.share
      ∧ (chirpsEnd p).heat = p.heat ∧ (chirpsEnd p).measure = p.measure ∧ (chirpsEnd p).plan = p.plan
      ∧ (chirpsEnd p).link = p.link ∧ (chirpsEnd p).sweep = p.sweep ∧ (chirpsEnd p).lamps = p.lamps
      ∧ (chirpsEnd p).faults = p.faults ∧ (chirpsEnd p).cache = p.cache ∧ (chirpsEnd p).remarks = p.remarks
      ∧ (chirpsEnd p).orders = p.orders ∧ (chirpsEnd p).free = p.free := by
  unfold chirpsEnd
  split <;> simp

@[simp] theorem holdEffect_keeps (o : Order) (p : Part) :
    (holdEffect o p).mode = p.mode ∧ (holdEffect o p).osc = p.osc ∧ (holdEffect o p).latch = p.latch
      ∧ (holdEffect o p).clock = p.clock ∧ (holdEffect o p).peers = p.peers ∧ (holdEffect o p).share = p.share
      ∧ (holdEffect o p).lamps = p.lamps := by
  simp only [holdEffect]
  split <;> simp

@[simp] theorem withdrawRevocation_keeps (p : Part) :
    (withdrawRevocation p).mode = p.mode ∧ (withdrawRevocation p).osc = p.osc
      ∧ (withdrawRevocation p).latch = p.latch ∧ (withdrawRevocation p).clock = p.clock
      ∧ (withdrawRevocation p).line = p.line ∧ (withdrawRevocation p).peers = p.peers
      ∧ (withdrawRevocation p).share = p.share ∧ (withdrawRevocation p).heat = p.heat
      ∧ (withdrawRevocation p).measure = p.measure ∧ (withdrawRevocation p).plan = p.plan
      ∧ (withdrawRevocation p).link = p.link ∧ (withdrawRevocation p).sweep = p.sweep
      ∧ (withdrawRevocation p).lamps = p.lamps ∧ (withdrawRevocation p).faults = p.faults
      ∧ (withdrawRevocation p).cache = p.cache ∧ (withdrawRevocation p).remarks = p.remarks
      ∧ (withdrawRevocation p).free = p.free := by
  unfold withdrawRevocation
  split <;> simp

@[simp] theorem unholdEffect_keeps (p : Part) :
    (unholdEffect p).mode = p.mode ∧ (unholdEffect p).osc = p.osc ∧ (unholdEffect p).latch = p.latch
      ∧ (unholdEffect p).clock = p.clock ∧ (unholdEffect p).peers = p.peers ∧ (unholdEffect p).share = p.share
      ∧ (unholdEffect p).lamps = p.lamps := by
  unfold unholdEffect
  split <;> simp

@[simp] theorem lanepassEffect_keeps (p : Part) :
    (lanepassEffect p).mode = p.mode ∧ (lanepassEffect p).osc = p.osc ∧ (lanepassEffect p).latch = p.latch
      ∧ (lanepassEffect p).clock = p.clock ∧ (lanepassEffect p).peers = p.peers ∧ (lanepassEffect p).share = p.share
      ∧ (lanepassEffect p).lamps = p.lamps ∧ (lanepassEffect p).orders = p.orders := by
  simp [lanepassEffect]

@[simp] theorem dropOrder_keeps (p : Part) :
    (dropOrder p).mode = p.mode ∧ (dropOrder p).osc = p.osc ∧ (dropOrder p).latch = p.latch
      ∧ (dropOrder p).clock = p.clock ∧ (dropOrder p).peers = p.peers ∧ (dropOrder p).share = p.share
      ∧ (dropOrder p).heat = p.heat ∧ (dropOrder p).measure = p.measure ∧ (dropOrder p).plan = p.plan
      ∧ (dropOrder p).link = p.link ∧ (dropOrder p).sweep = p.sweep ∧ (dropOrder p).lamps = p.lamps
      ∧ (dropOrder p).faults = p.faults ∧ (dropOrder p).cache = p.cache ∧ (dropOrder p).bay = p.bay
      ∧ (dropOrder p).remarks = p.remarks ∧ (dropOrder p).free = p.free := by
  unfold dropOrder
  split <;> simp

end Sys2Proof.Machine
end

