-- ==== Sys2Proof/Laws/State.lean ====
section
/-! SUPPORT. The updates of the state, field by field: what an operation that always writes the same fields leaves in each
field of a block it writes, true by `rfl`. The blocks it does not write stand in Laws/Frames.lean. -/

namespace Sys2Proof.Machine

@[simp] theorem advanceTo_osc (t : Moment) (p : Part) : (advanceTo t p).osc = max p.osc t := rfl

@[simp] theorem bitRead_osc (t : Transmission) (i : Nat) (p : Part) : (bitRead t i p).osc = max p.osc (t.start + bitTime * (i + 1)) := rfl

@[simp] theorem frameEnds_osc (bits : Nat) (p : Part) : (frameEnds bits p).osc = max p.osc (Part.frameEnd p bits) := rfl

/-- The line after a frame of another while the station transmits: as it was. -/
theorem lineAfter_sending (p : Part) (now : Moment) (h : p.line.tx.isSome) : Part.lineAfter p now = p.line := if_pos h

/-- The line after a frame while the station does not transmit: the quiet gap is counted from its end. -/
theorem lineAfter_idle (p : Part) (now : Moment) (h : p.line.tx = none) :
    Part.lineAfter p now = { p.line with quietFrom := now, receiving := none } := by
  simp [Part.lineAfter, h]

@[simp] theorem lineAfter_keeps (p : Part) (now : Moment) :
    (Part.lineAfter p now).flags = p.line.flags ∧ (Part.lineAfter p now).marks = p.line.marks
      ∧ (Part.lineAfter p now).tx = p.line.tx ∧ (Part.lineAfter p now).faults = p.line.faults
      ∧ (Part.lineAfter p now).muted = p.line.muted ∧ (Part.lineAfter p now).loadRefresh = p.line.loadRefresh
      ∧ (Part.lineAfter p now).baystateRefresh = p.line.baystateRefresh
      ∧ (Part.lineAfter p now).corrupt = p.line.corrupt := by
  unfold Part.lineAfter
  split <;> simp

@[simp] theorem frameEnds_line (bits : Nat) (p : Part) :
    (frameEnds bits p).line = Part.lineAfter p (max p.osc (Part.frameEnd p bits)) := rfl

@[simp] theorem countCorrupt_line_corrupt (p : Part) :
    (countCorrupt p).line.corrupt = min 65535 (p.line.corrupt + 1) := rfl

@[simp] theorem countCorrupt_keeps_line (p : Part) :
    (countCorrupt p).line.flags = p.line.flags ∧ (countCorrupt p).line.marks = p.line.marks
      ∧ (countCorrupt p).line.tx = p.line.tx ∧ (countCorrupt p).line.faults = p.line.faults
      ∧ (countCorrupt p).line.muted = p.line.muted ∧ (countCorrupt p).line.loadRefresh = p.line.loadRefresh
      ∧ (countCorrupt p).line.baystateRefresh = p.line.baystateRefresh
      ∧ (countCorrupt p).line.quietFrom = p.line.quietFrom ∧ (countCorrupt p).line.receiving = p.line.receiving :=
  ⟨rfl, rfl, rfl, rfl, rfl, rfl, rfl, rfl, rfl⟩

@[simp] theorem attemptEnds_line_tx (t : Transmission) (p : Part) : (attemptEnds t p).line.tx = none := rfl

@[simp] theorem attemptEnds_line_flags (t : Transmission) (p : Part) :
    (attemptEnds t p).line.flags = SendFlags.put p.line.flags t.kind true := rfl

@[simp] theorem attemptEnds_line_marks (t : Transmission) (p : Part) :
    (attemptEnds t p).line.marks = SendFlags.put p.line.marks t.kind false := rfl

@[simp] theorem attemptEnds_line_quietFrom (t : Transmission) (p : Part) :
    (attemptEnds t p).line.quietFrom = p.osc := rfl

@[simp] theorem attemptEnds_line_receiving (t : Transmission) (p : Part) :
    (attemptEnds t p).line.receiving = some t.start := rfl

@[simp] theorem attemptEnds_keeps_line (t : Transmission) (p : Part) :
    (attemptEnds t p).line.faults = p.line.faults ∧ (attemptEnds t p).line.muted = p.line.muted
      ∧ (attemptEnds t p).line.loadRefresh = p.line.loadRefresh
      ∧ (attemptEnds t p).line.baystateRefresh = p.line.baystateRefresh
      ∧ (attemptEnds t p).line.corrupt = p.line.corrupt :=
  ⟨rfl, rfl, rfl, rfl, rfl⟩

@[simp] theorem frameCompletes_osc (t : Transmission) (p : Part) : (frameCompletes t p).osc = max p.osc (t.start + bitTime * frameBitCount t.payload.length) := rfl

@[simp] theorem frameCompletes_line_tx (t : Transmission) (p : Part) : (frameCompletes t p).line.tx = none := rfl

@[simp] theorem frameCompletes_line_faults (t : Transmission) (p : Part) : (frameCompletes t p).line.faults = 0 := rfl

@[simp] theorem frameCompletes_line_flags (t : Transmission) (p : Part) :
    (frameCompletes t p).line.flags = SendFlags.put p.line.flags t.kind (SendFlags.get p.line.marks t.kind) := rfl

@[simp] theorem frameCompletes_line_marks (t : Transmission) (p : Part) :
    (frameCompletes t p).line.marks = SendFlags.put p.line.marks t.kind false := rfl

@[simp] theorem frameCompletes_line_quietFrom (t : Transmission) (p : Part) :
    (frameCompletes t p).line.quietFrom = max p.osc (t.start + bitTime * frameBitCount t.payload.length) := rfl

@[simp] theorem frameCompletes_keeps_line (t : Transmission) (p : Part) :
    (frameCompletes t p).line.muted = p.line.muted ∧ (frameCompletes t p).line.loadRefresh = p.line.loadRefresh
      ∧ (frameCompletes t p).line.baystateRefresh = p.line.baystateRefresh
      ∧ (frameCompletes t p).line.corrupt = p.line.corrupt ∧ (frameCompletes t p).line.receiving = p.line.receiving :=
  ⟨rfl, rfl, rfl, rfl, rfl⟩

@[simp] theorem setEntries_peers_entries (es : List Peer) (p : Part) : (setEntries es p).peers.entries = es := rfl

@[simp] theorem setEntries_keeps_peers (es : List Peer) (p : Part) :
    (setEntries es p).peers.overflow = p.peers.overflow :=
  rfl

@[simp] theorem lockShed_share_shedLock (p : Part) : (lockShed p).share.shedLock = some (p.osc + shedLockPeriod) := rfl

@[simp] theorem lockShed_share_halvingDue (p : Part) :
    (lockShed p).share.halvingDue = (p.share.halvingDue || p.share.shedLock.isNone) := rfl

@[simp] theorem lockShed_keeps_share (p : Part) :
    (lockShed p).share.aInForce = p.share.aInForce ∧ (lockShed p).share.qInForce = p.share.qInForce
      ∧ (lockShed p).share.demand = p.share.demand ∧ (lockShed p).share.urgency = p.share.urgency
      ∧ (lockShed p).share.mode = p.share.mode ∧ (lockShed p).share.gt = p.share.gt
      ∧ (lockShed p).share.ga = p.share.ga ∧ (lockShed p).share.draw = p.share.draw
      ∧ (lockShed p).share.claim = p.share.claim ∧ (lockShed p).share.mutedHeld = p.share.mutedHeld
      ∧ (lockShed p).share.overflowHeld = p.share.overflowHeld ∧ (lockShed p).share.zeroed = p.share.zeroed :=
  ⟨rfl, rfl, rfl, rfl, rfl, rfl, rfl, rfl, rfl, rfl, rfl, rfl⟩

@[simp] theorem immediateZero_share_ga (p : Part) : (immediateZero p).share.ga = 0 := rfl

@[simp] theorem immediateZero_share_zeroed (p : Part) : (immediateZero p).share.zeroed = true := rfl

@[simp] theorem immediateZero_keeps_share (p : Part) :
    (immediateZero p).share.aInForce = p.share.aInForce ∧ (immediateZero p).share.qInForce = p.share.qInForce
      ∧ (immediateZero p).share.demand = p.share.demand ∧ (immediateZero p).share.urgency = p.share.urgency
      ∧ (immediateZero p).share.mode = p.share.mode ∧ (immediateZero p).share.gt = p.share.gt
      ∧ (immediateZero p).share.draw = p.share.draw ∧ (immediateZero p).share.claim = p.share.claim
      ∧ (immediateZero p).share.shedLock = p.share.shedLock ∧ (immediateZero p).share.halvingDue = p.share.halvingDue
      ∧ (immediateZero p).share.mutedHeld = p.share.mutedHeld
      ∧ (immediateZero p).share.overflowHeld = p.share.overflowHeld :=
  ⟨rfl, rfl, rfl, rfl, rfl, rfl, rfl, rfl, rfl, rfl, rfl, rfl⟩

@[simp] theorem immediateZero_heat_duty (p : Part) : (immediateZero p).heat.duty = 0 := rfl

@[simp] theorem immediateZero_heat_shadow (p : Part) : (immediateZero p).heat.shadow = 0 := rfl

@[simp] theorem immediateZero_heat_pin (p : Part) : (immediateZero p).heat.pin = false := rfl

@[simp] theorem immediateZero_keeps_heat (p : Part) :
    (immediateZero p).heat.step = p.heat.step ∧ (immediateZero p).heat.phase = p.heat.phase
      ∧ (immediateZero p).heat.sweepRunning = p.heat.sweepRunning ∧ (immediateZero p).heat.ceiling = p.heat.ceiling
      ∧ (immediateZero p).heat.frameStart = p.heat.frameStart :=
  ⟨rfl, rfl, rfl, rfl, rfl⟩

@[simp] theorem setSlot_link_slots (who : Requester) (c : Option Command) (p : Part) :
    (setSlot who c p).link.slots = Slots.put p.link.slots who c := rfl

@[simp] theorem setSlot_keeps_link (who : Requester) (c : Option Command) (p : Part) :
    (setSlot who c p).link.state = p.link.state ∧ (setSlot who c p).link.identConfirmed = p.link.identConfirmed
      ∧ (setSlot who c p).link.inFlight = p.link.inFlight ∧ (setSlot who c p).link.recovery = p.link.recovery
      ∧ (setSlot who c p).link.waitCount = p.link.waitCount ∧ (setSlot who c p).link.gathered = p.link.gathered
      ∧ (setSlot who c p).link.holdConfirmed = p.link.holdConfirmed
      ∧ (setSlot who c p).link.startTimer = p.link.startTimer ∧ (setSlot who c p).link.lostTimer = p.link.lostTimer
      ∧ (setSlot who c p).link.keepAlive = p.link.keepAlive ∧ (setSlot who c p).link.beat = p.link.beat
      ∧ (setSlot who c p).link.stationWord = p.link.stationWord
      ∧ (setSlot who c p).link.heard = p.link.heard :=
  ⟨rfl, rfl, rfl, rfl, rfl, rfl, rfl, rfl, rfl, rfl, rfl, rfl, rfl⟩

@[simp] theorem place_link_slots (who : Requester) (code : CommandCode) (p : Part) :
    (place who code p).link.slots = Slots.put p.link.slots who (some { code := code }) := rfl

@[simp] theorem place_keeps_link (who : Requester) (code : CommandCode) (p : Part) :
    (place who code p).link.state = p.link.state ∧ (place who code p).link.identConfirmed = p.link.identConfirmed
      ∧ (place who code p).link.inFlight = p.link.inFlight ∧ (place who code p).link.recovery = p.link.recovery
      ∧ (place who code p).link.waitCount = p.link.waitCount ∧ (place who code p).link.gathered = p.link.gathered
      ∧ (place who code p).link.holdConfirmed = p.link.holdConfirmed
      ∧ (place who code p).link.startTimer = p.link.startTimer ∧ (place who code p).link.lostTimer = p.link.lostTimer
      ∧ (place who code p).link.keepAlive = p.link.keepAlive ∧ (place who code p).link.beat = p.link.beat
      ∧ (place who code p).link.stationWord = p.link.stationWord
      ∧ (place who code p).link.heard = p.link.heard :=
  ⟨rfl, rfl, rfl, rfl, rfl, rfl, rfl, rfl, rfl, rfl, rfl, rfl, rfl⟩

@[simp] theorem placeLamps_link_slots (arg : Byte) (p : Part) :
    (placeLamps arg p).link.slots = Slots.put p.link.slots .sweep (some { code := .lamps, arg := arg }) := rfl

@[simp] theorem placeLamps_keeps_link (arg : Byte) (p : Part) :
    (placeLamps arg p).link.state = p.link.state ∧ (placeLamps arg p).link.identConfirmed = p.link.identConfirmed
      ∧ (placeLamps arg p).link.inFlight = p.link.inFlight ∧ (placeLamps arg p).link.recovery = p.link.recovery
      ∧ (placeLamps arg p).link.waitCount = p.link.waitCount ∧ (placeLamps arg p).link.gathered = p.link.gathered
      ∧ (placeLamps arg p).link.holdConfirmed = p.link.holdConfirmed
      ∧ (placeLamps arg p).link.startTimer = p.link.startTimer ∧ (placeLamps arg p).link.lostTimer = p.link.lostTimer
      ∧ (placeLamps arg p).link.keepAlive = p.link.keepAlive ∧ (placeLamps arg p).link.beat = p.link.beat
      ∧ (placeLamps arg p).link.stationWord = p.link.stationWord
      ∧ (placeLamps arg p).link.heard = p.link.heard :=
  ⟨rfl, rfl, rfl, rfl, rfl, rfl, rfl, rfl, rfl, rfl, rfl, rfl, rfl⟩

@[simp] theorem placeLamps_sweep_lightsOff (arg : Byte) (p : Part) :
    (placeLamps arg p).sweep.lightsOff = LightsOff.displaced p.sweep.lightsOff := rfl

@[simp] theorem placeLamps_keeps_sweep (arg : Byte) (p : Part) :
    (placeLamps arg p).sweep.status = p.sweep.status ∧ (placeLamps arg p).sweep.settle = p.sweep.settle
      ∧ (placeLamps arg p).sweep.work = p.sweep.work ∧ (placeLamps arg p).sweep.last = p.sweep.last :=
  ⟨rfl, rfl, rfl, rfl⟩

@[simp] theorem withdrawLamps_link_slots (p : Part) :
    (withdrawLamps p).link.slots = Slots.put p.link.slots .sweep none := rfl

@[simp] theorem withdrawLamps_keeps_link (p : Part) :
    (withdrawLamps p).link.state = p.link.state ∧ (withdrawLamps p).link.identConfirmed = p.link.identConfirmed
      ∧ (withdrawLamps p).link.inFlight = p.link.inFlight ∧ (withdrawLamps p).link.recovery = p.link.recovery
      ∧ (withdrawLamps p).link.waitCount = p.link.waitCount ∧ (withdrawLamps p).link.gathered = p.link.gathered
      ∧ (withdrawLamps p).link.holdConfirmed = p.link.holdConfirmed
      ∧ (withdrawLamps p).link.startTimer = p.link.startTimer ∧ (withdrawLamps p).link.lostTimer = p.link.lostTimer
      ∧ (withdrawLamps p).link.keepAlive = p.link.keepAlive ∧ (withdrawLamps p).link.beat = p.link.beat
      ∧ (withdrawLamps p).link.stationWord = p.link.stationWord
      ∧ (withdrawLamps p).link.heard = p.link.heard :=
  ⟨rfl, rfl, rfl, rfl, rfl, rfl, rfl, rfl, rfl, rfl, rfl, rfl, rfl⟩

@[simp] theorem withdrawLamps_sweep_lightsOff (p : Part) :
    (withdrawLamps p).sweep.lightsOff = LightsOff.displaced p.sweep.lightsOff := rfl

@[simp] theorem withdrawLamps_keeps_sweep (p : Part) :
    (withdrawLamps p).sweep.status = p.sweep.status ∧ (withdrawLamps p).sweep.settle = p.sweep.settle
      ∧ (withdrawLamps p).sweep.work = p.sweep.work ∧ (withdrawLamps p).sweep.last = p.sweep.last :=
  ⟨rfl, rfl, rfl, rfl⟩

@[simp] theorem placeLightsOff_link_slots (p : Part) :
    (placeLightsOff p).link.slots = Slots.put p.link.slots .sweep (some lightsOffCommand) := rfl

@[simp] theorem placeLightsOff_keeps_link (p : Part) :
    (placeLightsOff p).link.state = p.link.state ∧ (placeLightsOff p).link.identConfirmed = p.link.identConfirmed
      ∧ (placeLightsOff p).link.inFlight = p.link.inFlight ∧ (placeLightsOff p).link.recovery = p.link.recovery
      ∧ (placeLightsOff p).link.waitCount = p.link.waitCount ∧ (placeLightsOff p).link.gathered = p.link.gathered
      ∧ (placeLightsOff p).link.holdConfirmed = p.link.holdConfirmed
      ∧ (placeLightsOff p).link.startTimer = p.link.startTimer ∧ (placeLightsOff p).link.lostTimer = p.link.lostTimer
      ∧ (placeLightsOff p).link.keepAlive = p.link.keepAlive ∧ (placeLightsOff p).link.beat = p.link.beat
      ∧ (placeLightsOff p).link.stationWord = p.link.stationWord
      ∧ (placeLightsOff p).link.heard = p.link.heard :=
  ⟨rfl, rfl, rfl, rfl, rfl, rfl, rfl, rfl, rfl, rfl, rfl, rfl, rfl⟩

@[simp] theorem placeLightsOff_sweep_lightsOff (p : Part) : (placeLightsOff p).sweep.lightsOff = .waiting := rfl

@[simp] theorem placeLightsOff_keeps_sweep (p : Part) :
    (placeLightsOff p).sweep.status = p.sweep.status ∧ (placeLightsOff p).sweep.settle = p.sweep.settle
      ∧ (placeLightsOff p).sweep.work = p.sweep.work ∧ (placeLightsOff p).sweep.last = p.sweep.last :=
  ⟨rfl, rfl, rfl, rfl⟩

@[simp] theorem discardLampCodes_measure_converting (p : Part) :
    (discardLampCodes p).measure.converting = discardIf Conversion.isLamp p.measure.converting := rfl

@[simp] theorem discardLampCodes_measure_ending (p : Part) :
    (discardLampCodes p).measure.ending = discardIf Conversion.isLamp p.measure.ending := rfl

@[simp] theorem discardLampCodes_measure_marks (p : Part) : (discardLampCodes p).measure.marks = [] := rfl

@[simp] theorem discardLampCodes_keeps_measure (p : Part) :
    (discardLampCodes p).measure.chain = p.measure.chain ∧ (discardLampCodes p).measure.selfTest = p.measure.selfTest
      ∧ (discardLampCodes p).measure.reflo = p.measure.reflo ∧ (discardLampCodes p).measure.frames = p.measure.frames
      ∧ (discardLampCodes p).measure.owedCabin = p.measure.owedCabin
      ∧ (discardLampCodes p).measure.owedOutside = p.measure.owedOutside
      ∧ (discardLampCodes p).measure.cabin = p.measure.cabin
      ∧ (discardLampCodes p).measure.outside = p.measure.outside :=
  ⟨rfl, rfl, rfl, rfl, rfl, rfl, rfl, rfl⟩

@[simp] theorem resetCabin_measure_converting (p : Part) :
    (resetCabin p).measure.converting = discardIf Conversion.isCabin p.measure.converting := rfl

@[simp] theorem resetCabin_measure_ending (p : Part) :
    (resetCabin p).measure.ending = discardIf Conversion.isCabin p.measure.ending := rfl

@[simp] theorem resetCabin_measure_cabin (p : Part) : (resetCabin p).measure.cabin = {} := rfl

@[simp] theorem resetCabin_keeps_measure (p : Part) :
    (resetCabin p).measure.chain = p.measure.chain ∧ (resetCabin p).measure.selfTest = p.measure.selfTest
      ∧ (resetCabin p).measure.reflo = p.measure.reflo ∧ (resetCabin p).measure.frames = p.measure.frames
      ∧ (resetCabin p).measure.owedCabin = p.measure.owedCabin
      ∧ (resetCabin p).measure.owedOutside = p.measure.owedOutside
      ∧ (resetCabin p).measure.outside = p.measure.outside ∧ (resetCabin p).measure.marks = p.measure.marks :=
  ⟨rfl, rfl, rfl, rfl, rfl, rfl, rfl, rfl⟩

@[simp] theorem cabinNotOwed_measure_owedCabin (p : Part) : (cabinNotOwed p).measure.owedCabin = false := rfl

@[simp] theorem cabinNotOwed_keeps_measure (p : Part) :
    (cabinNotOwed p).measure.chain = p.measure.chain ∧ (cabinNotOwed p).measure.selfTest = p.measure.selfTest
      ∧ (cabinNotOwed p).measure.reflo = p.measure.reflo ∧ (cabinNotOwed p).measure.frames = p.measure.frames
      ∧ (cabinNotOwed p).measure.owedOutside = p.measure.owedOutside
      ∧ (cabinNotOwed p).measure.converting = p.measure.converting
      ∧ (cabinNotOwed p).measure.ending = p.measure.ending ∧ (cabinNotOwed p).measure.cabin = p.measure.cabin
      ∧ (cabinNotOwed p).measure.outside = p.measure.outside ∧ (cabinNotOwed p).measure.marks = p.measure.marks :=
  ⟨rfl, rfl, rfl, rfl, rfl, rfl, rfl, rfl, rfl, rfl⟩

@[simp] theorem waitOperation_faults_status (kind : Option OpKind) (p : Part) :
    (waitOperation kind p).faults.status = .waiting := rfl

@[simp] theorem waitOperation_faults_kind (kind : Option OpKind) (p : Part) :
    (waitOperation kind p).faults.kind = kind := rfl

@[simp] theorem waitOperation_faults_toRead (kind : Option OpKind) (p : Part) :
    (waitOperation kind p).faults.toRead = none := rfl

@[simp] theorem waitOperation_faults_nextIndex (kind : Option OpKind) (p : Part) :
    (waitOperation kind p).faults.nextIndex = none := rfl

@[simp] theorem waitOperation_faults_staging (kind : Option OpKind) (p : Part) :
    (waitOperation kind p).faults.staging = [] := rfl

@[simp] theorem waitOperation_faults_rejected (kind : Option OpKind) (p : Part) :
    (waitOperation kind p).faults.rejected = 0 := rfl

@[simp] theorem waitOperation_keeps_faults (kind : Option OpKind) (p : Part) :
    (waitOperation kind p).faults.coach = p.faults.coach ∧ (waitOperation kind p).faults.bay = p.faults.bay
      ∧ (waitOperation kind p).faults.lastRead = p.faults.lastRead
      ∧ (waitOperation kind p).faults.lastRejected = p.faults.lastRejected
      ∧ (waitOperation kind p).faults.lastDropped = p.faults.lastDropped
      ∧ (waitOperation kind p).faults.memory = p.faults.memory :=
  ⟨rfl, rfl, rfl, rfl, rfl, rfl⟩

@[simp] theorem operationEnds_faults_status (p : Part) : (operationEnds p).faults.status = .idle := rfl

@[simp] theorem operationEnds_faults_kind (p : Part) : (operationEnds p).faults.kind = none := rfl

@[simp] theorem operationEnds_faults_toRead (p : Part) : (operationEnds p).faults.toRead = none := rfl

@[simp] theorem operationEnds_faults_nextIndex (p : Part) : (operationEnds p).faults.nextIndex = none := rfl

@[simp] theorem operationEnds_faults_staging (p : Part) : (operationEnds p).faults.staging = [] := rfl

@[simp] theorem operationEnds_keeps_faults (p : Part) :
    (operationEnds p).faults.coach = p.faults.coach ∧ (operationEnds p).faults.bay = p.faults.bay
      ∧ (operationEnds p).faults.lastRead = p.faults.lastRead
      ∧ (operationEnds p).faults.lastRejected = p.faults.lastRejected
      ∧ (operationEnds p).faults.lastDropped = p.faults.lastDropped
      ∧ (operationEnds p).faults.rejected = p.faults.rejected
      ∧ (operationEnds p).faults.memory = p.faults.memory :=
  ⟨rfl, rfl, rfl, rfl, rfl, rfl, rfl⟩

@[simp] theorem operationEnds_link_slots (p : Part) :
    (operationEnds p).link.slots = Slots.put p.link.slots .faults none := rfl

@[simp] theorem operationEnds_keeps_link (p : Part) :
    (operationEnds p).link.state = p.link.state ∧ (operationEnds p).link.identConfirmed = p.link.identConfirmed
      ∧ (operationEnds p).link.inFlight = p.link.inFlight ∧ (operationEnds p).link.recovery = p.link.recovery
      ∧ (operationEnds p).link.waitCount = p.link.waitCount ∧ (operationEnds p).link.gathered = p.link.gathered
      ∧ (operationEnds p).link.holdConfirmed = p.link.holdConfirmed
      ∧ (operationEnds p).link.startTimer = p.link.startTimer ∧ (operationEnds p).link.lostTimer = p.link.lostTimer
      ∧ (operationEnds p).link.keepAlive = p.link.keepAlive ∧ (operationEnds p).link.beat = p.link.beat
      ∧ (operationEnds p).link.stationWord = p.link.stationWord
      ∧ (operationEnds p).link.heard = p.link.heard :=
  ⟨rfl, rfl, rfl, rfl, rfl, rfl, rfl, rfl, rfl, rfl, rfl, rfl, rfl⟩

@[simp] theorem queueJob_orders_jobs (j : Job) (p : Part) : (queueJob j p).orders.jobs = p.orders.jobs ++ [j] := rfl

@[simp] theorem queueJob_keeps_orders (j : Job) (p : Part) :
    (queueJob j p).orders.dropped = p.orders.dropped ∧ (queueJob j p).orders.revocation = p.orders.revocation :=
  ⟨rfl, rfl⟩

@[simp] theorem stopAsking_cache_want (p : Part) : (stopAsking p).cache.want = none := rfl

@[simp] theorem stopAsking_cache_askCount (p : Part) : (stopAsking p).cache.askCount = 0 := rfl

@[simp] theorem stopAsking_keeps_cache (p : Part) :
    (stopAsking p).cache.entries = p.cache.entries :=
  rfl

@[simp] theorem setWatches_bay_readWatch (w : Watch) (p : Part) : (setWatches w p).bay.readWatch = w := rfl

@[simp] theorem setWatches_bay_sweepWatch (w : Watch) (p : Part) : (setWatches w p).bay.sweepWatch = w := rfl

@[simp] theorem setWatches_bay_windowWatch (w : Watch) (p : Part) : (setWatches w p).bay.windowWatch = w := rfl

@[simp] theorem setWatches_keeps_bay (w : Watch) (p : Part) :
    (setWatches w p).bay.couple = p.bay.couple ∧ (setWatches w p).bay.state = p.bay.state
      ∧ (setWatches w p).bay.identity = p.bay.identity ∧ (setWatches w p).bay.roster = p.bay.roster
      ∧ (setWatches w p).bay.reasons = p.bay.reasons ∧ (setWatches w p).bay.window = p.bay.window
      ∧ (setWatches w p).bay.lanePass = p.bay.lanePass ∧ (setWatches w p).bay.revocation = p.bay.revocation
      ∧ (setWatches w p).bay.decoupleFlag = p.bay.decoupleFlag ∧ (setWatches w p).bay.retry = p.bay.retry
      ∧ (setWatches w p).bay.clearance = p.bay.clearance ∧ (setWatches w p).bay.patternFrom = p.bay.patternFrom
      ∧ (setWatches w p).bay.tooEarly = p.bay.tooEarly ∧ (setWatches w p).bay.clashFrom = p.bay.clashFrom
      ∧ (setWatches w p).bay.chirps = p.bay.chirps ∧ (setWatches w p).bay.openedAt = p.bay.openedAt
      ∧ (setWatches w p).bay.holdAckAt = p.bay.holdAckAt :=
  ⟨rfl, rfl, rfl, rfl, rfl, rfl, rfl, rfl, rfl, rfl, rfl, rfl, rfl, rfl, rfl, rfl, rfl⟩

@[simp] theorem clearRecord_bay_identity (flag : DecoupleFlag) (p : Part) :
    (clearRecord flag p).bay.identity = none := rfl

@[simp] theorem clearRecord_bay_roster (flag : DecoupleFlag) (p : Part) : (clearRecord flag p).bay.roster = none := rfl

@[simp] theorem clearRecord_bay_reasons (flag : DecoupleFlag) (p : Part) : (clearRecord flag p).bay.reasons = {} := rfl

@[simp] theorem clearRecord_bay_window (flag : DecoupleFlag) (p : Part) :
    (clearRecord flag p).bay.window = false := rfl

@[simp] theorem clearRecord_bay_openedAt (flag : DecoupleFlag) (p : Part) :
    (clearRecord flag p).bay.openedAt = none := rfl

@[simp] theorem clearRecord_bay_holdAckAt (flag : DecoupleFlag) (p : Part) :
    (clearRecord flag p).bay.holdAckAt = none := rfl

@[simp] theorem clearRecord_bay_readWatch (flag : DecoupleFlag) (p : Part) :
    (clearRecord flag p).bay.readWatch = .notBegun := rfl

@[simp] theorem clearRecord_bay_sweepWatch (flag : DecoupleFlag) (p : Part) :
    (clearRecord flag p).bay.sweepWatch = .notBegun := rfl

@[simp] theorem clearRecord_bay_windowWatch (flag : DecoupleFlag) (p : Part) :
    (clearRecord flag p).bay.windowWatch = .notBegun := rfl

@[simp] theorem clearRecord_bay_lanePass (flag : DecoupleFlag) (p : Part) :
    (clearRecord flag p).bay.lanePass = false := rfl

@[simp] theorem clearRecord_bay_revocation (flag : DecoupleFlag) (p : Part) :
    (clearRecord flag p).bay.revocation = .none := rfl

@[simp] theorem clearRecord_bay_decoupleFlag (flag : DecoupleFlag) (p : Part) :
    (clearRecord flag p).bay.decoupleFlag = flag := rfl

@[simp] theorem clearRecord_bay_retry (flag : DecoupleFlag) (p : Part) : (clearRecord flag p).bay.retry = none := rfl

@[simp] theorem clearRecord_bay_clearance (flag : DecoupleFlag) (p : Part) :
    (clearRecord flag p).bay.clearance = 0 := rfl

@[simp] theorem clearRecord_keeps_bay (flag : DecoupleFlag) (p : Part) :
    (clearRecord flag p).bay.couple = p.bay.couple ∧ (clearRecord flag p).bay.state = p.bay.state
      ∧ (clearRecord flag p).bay.patternFrom = p.bay.patternFrom ∧ (clearRecord flag p).bay.tooEarly = p.bay.tooEarly
      ∧ (clearRecord flag p).bay.clashFrom = p.bay.clashFrom ∧ (clearRecord flag p).bay.chirps = p.bay.chirps :=
  ⟨rfl, rfl, rfl, rfl, rfl, rfl⟩

@[simp] theorem setPhase_sweep_status (pass : Pass) (phase : SweepPhase) (p : Part) :
    (setPhase pass phase p).sweep.status = .running pass phase := rfl

@[simp] theorem setPhase_keeps_sweep (pass : Pass) (phase : SweepPhase) (p : Part) :
    (setPhase pass phase p).sweep.settle = p.sweep.settle ∧ (setPhase pass phase p).sweep.work = p.sweep.work
      ∧ (setPhase pass phase p).sweep.last = p.sweep.last
      ∧ (setPhase pass phase p).sweep.lightsOff = p.sweep.lightsOff :=
  ⟨rfl, rfl, rfl, rfl⟩

@[simp] theorem leaveFlight_link_inFlight (p : Part) : (leaveFlight p).link.inFlight = none := rfl

@[simp] theorem leaveFlight_link_waitCount (p : Part) : (leaveFlight p).link.waitCount = 0 := rfl

@[simp] theorem leaveFlight_link_gathered (p : Part) : (leaveFlight p).link.gathered = [] := rfl

@[simp] theorem leaveFlight_keeps_link (p : Part) :
    (leaveFlight p).link.state = p.link.state ∧ (leaveFlight p).link.identConfirmed = p.link.identConfirmed
      ∧ (leaveFlight p).link.recovery = p.link.recovery ∧ (leaveFlight p).link.holdConfirmed = p.link.holdConfirmed
      ∧ (leaveFlight p).link.startTimer = p.link.startTimer ∧ (leaveFlight p).link.lostTimer = p.link.lostTimer
      ∧ (leaveFlight p).link.keepAlive = p.link.keepAlive ∧ (leaveFlight p).link.slots = p.link.slots
      ∧ (leaveFlight p).link.beat = p.link.beat ∧ (leaveFlight p).link.stationWord = p.link.stationWord
      ∧ (leaveFlight p).link.heard = p.link.heard :=
  ⟨rfl, rfl, rfl, rfl, rfl, rfl, rfl, rfl, rfl, rfl, rfl⟩

@[simp] theorem setHold_link_holdConfirmed (v : Bool) (p : Part) : (setHold v p).link.holdConfirmed = v := rfl

@[simp] theorem setHold_keeps_link (v : Bool) (p : Part) :
    (setHold v p).link.state = p.link.state ∧ (setHold v p).link.identConfirmed = p.link.identConfirmed
      ∧ (setHold v p).link.inFlight = p.link.inFlight ∧ (setHold v p).link.recovery = p.link.recovery
      ∧ (setHold v p).link.waitCount = p.link.waitCount ∧ (setHold v p).link.gathered = p.link.gathered
      ∧ (setHold v p).link.startTimer = p.link.startTimer ∧ (setHold v p).link.lostTimer = p.link.lostTimer
      ∧ (setHold v p).link.keepAlive = p.link.keepAlive ∧ (setHold v p).link.slots = p.link.slots
      ∧ (setHold v p).link.beat = p.link.beat ∧ (setHold v p).link.stationWord = p.link.stationWord
      ∧ (setHold v p).link.heard = p.link.heard :=
  ⟨rfl, rfl, rfl, rfl, rfl, rfl, rfl, rfl, rfl, rfl, rfl, rfl, rfl⟩

@[simp] theorem beatHeard_osc (b : Moment) (p : Part) : (beatHeard b p).osc = max p.osc b := rfl

@[simp] theorem beatHeard_link_beat (b : Moment) (p : Part) : (beatHeard b p).link.beat = b := rfl

@[simp] theorem beatHeard_link_heard (b : Moment) (p : Part) : (beatHeard b p).link.heard = true := rfl

@[simp] theorem beatHeard_link_stationWord (b : Moment) (p : Part) : (beatHeard b p).link.stationWord = nopWord := rfl

@[simp] theorem beatHeard_keeps_link (b : Moment) (p : Part) :
    (beatHeard b p).link.state = p.link.state ∧ (beatHeard b p).link.identConfirmed = p.link.identConfirmed
      ∧ (beatHeard b p).link.inFlight = p.link.inFlight ∧ (beatHeard b p).link.recovery = p.link.recovery
      ∧ (beatHeard b p).link.waitCount = p.link.waitCount ∧ (beatHeard b p).link.gathered = p.link.gathered
      ∧ (beatHeard b p).link.holdConfirmed = p.link.holdConfirmed
      ∧ (beatHeard b p).link.startTimer = p.link.startTimer ∧ (beatHeard b p).link.lostTimer = p.link.lostTimer
      ∧ (beatHeard b p).link.keepAlive = p.link.keepAlive ∧ (beatHeard b p).link.slots = p.link.slots :=
  ⟨rfl, rfl, rfl, rfl, rfl, rfl, rfl, rfl, rfl, rfl, rfl⟩

@[simp] theorem beatOpens_osc (p : Part) : (beatOpens p).osc = max p.osc (wordBeat p.link p.osc) := rfl

@[simp] theorem beatOpens_link_beat (p : Part) : (beatOpens p).link.beat = wordBeat p.link p.osc := rfl

@[simp] theorem beatOpens_link_heard (p : Part) : (beatOpens p).link.heard = true := rfl

@[simp] theorem beatOpens_link_stationWord (p : Part) : (beatOpens p).link.stationWord = nopWord := rfl

@[simp] theorem beatOpens_keeps_link (p : Part) :
    (beatOpens p).link.state = p.link.state ∧ (beatOpens p).link.identConfirmed = p.link.identConfirmed
      ∧ (beatOpens p).link.inFlight = p.link.inFlight ∧ (beatOpens p).link.recovery = p.link.recovery
      ∧ (beatOpens p).link.waitCount = p.link.waitCount ∧ (beatOpens p).link.gathered = p.link.gathered
      ∧ (beatOpens p).link.holdConfirmed = p.link.holdConfirmed ∧ (beatOpens p).link.startTimer = p.link.startTimer
      ∧ (beatOpens p).link.lostTimer = p.link.lostTimer ∧ (beatOpens p).link.keepAlive = p.link.keepAlive
      ∧ (beatOpens p).link.slots = p.link.slots :=
  ⟨rfl, rfl, rfl, rfl, rfl, rfl, rfl, rfl, rfl, rfl, rfl⟩

@[simp] theorem recoveryBeat_osc (b : Moment) (p : Part) : (recoveryBeat b p).osc = max p.osc (max p.link.beat (b + 9 * beatPeriod)) := rfl

@[simp] theorem recoveryBeat_link_recovery (b : Moment) (p : Part) : (recoveryBeat b p).link.recovery = none := rfl

@[simp] theorem recoveryBeat_link_beat (b : Moment) (p : Part) :
    (recoveryBeat b p).link.beat = max p.link.beat (b + 9 * beatPeriod) := rfl

@[simp] theorem recoveryBeat_link_heard (b : Moment) (p : Part) : (recoveryBeat b p).link.heard = true := rfl

@[simp] theorem recoveryBeat_link_stationWord (b : Moment) (p : Part) :
    (recoveryBeat b p).link.stationWord = nopWord := rfl

@[simp] theorem recoveryBeat_keeps_link (b : Moment) (p : Part) :
    (recoveryBeat b p).link.state = p.link.state ∧ (recoveryBeat b p).link.identConfirmed = p.link.identConfirmed
      ∧ (recoveryBeat b p).link.inFlight = p.link.inFlight ∧ (recoveryBeat b p).link.waitCount = p.link.waitCount
      ∧ (recoveryBeat b p).link.gathered = p.link.gathered
      ∧ (recoveryBeat b p).link.holdConfirmed = p.link.holdConfirmed
      ∧ (recoveryBeat b p).link.startTimer = p.link.startTimer ∧ (recoveryBeat b p).link.lostTimer = p.link.lostTimer
      ∧ (recoveryBeat b p).link.keepAlive = p.link.keepAlive ∧ (recoveryBeat b p).link.slots = p.link.slots :=
  ⟨rfl, rfl, rfl, rfl, rfl, rfl, rfl, rfl, rfl, rfl⟩

@[simp] theorem enterUp_link_state (p : Part) : (enterUp p).link.state = .up := rfl

@[simp] theorem enterUp_link_identConfirmed (p : Part) : (enterUp p).link.identConfirmed = false := rfl

@[simp] theorem enterUp_link_startTimer (p : Part) : (enterUp p).link.startTimer = none := rfl

@[simp] theorem enterUp_link_lostTimer (p : Part) : (enterUp p).link.lostTimer = none := rfl

@[simp] theorem enterUp_link_keepAlive (p : Part) : (enterUp p).link.keepAlive = some (p.osc + keepAlivePeriod) := rfl

@[simp] theorem enterUp_link_slots (p : Part) :
    (enterUp p).link.slots = Slots.put p.link.slots .keeper (some { code := .ident }) := rfl

@[simp] theorem enterUp_keeps_link (p : Part) :
    (enterUp p).link.inFlight = p.link.inFlight ∧ (enterUp p).link.recovery = p.link.recovery
      ∧ (enterUp p).link.waitCount = p.link.waitCount ∧ (enterUp p).link.gathered = p.link.gathered
      ∧ (enterUp p).link.holdConfirmed = p.link.holdConfirmed ∧ (enterUp p).link.beat = p.link.beat
      ∧ (enterUp p).link.stationWord = p.link.stationWord
      ∧ (enterUp p).link.heard = p.link.heard :=
  ⟨rfl, rfl, rfl, rfl, rfl, rfl, rfl, rfl⟩

@[simp] theorem cacheShift_cache_entries (p : Part) :
    (cacheShift p).cache.entries = purgeRoster p.clock.minute (sortRoster p.clock.minute p.cache.entries) := rfl

@[simp] theorem cacheShift_keeps_cache (p : Part) :
    (cacheShift p).cache.want = p.cache.want ∧ (cacheShift p).cache.askCount = p.cache.askCount :=
  ⟨rfl, rfl⟩

end Sys2Proof.Machine
end

