-- ==== Sys2Proof/Laws/Shared.lean ====
section
/-! SUPPORT. The shared operations that write by cases, each said once: requests raised, remarks and hold reasons set,
changes of bay state, the shed check, a sweep that moves on, aborts or ends, the end of a revocation, what a clearance evaluation
keeps and gives, the completion of a read, what follows a change of the peer table, the plan that a recomputation leaves, and the
beat that a command waits for. -/

namespace Sys2Proof.Machine

/-! ## Requests, remarks and reasons -/

/-- A raise sets the kind's flag, or its re-raise mark while a frame of the kind is in flight (R22). -/
theorem raise_line (k : SendKind) (p : Part) :
    (raise k p).line = if Part.sending p = some k then { p.line with marks := SendFlags.put p.line.marks k true }
      else { p.line with flags := SendFlags.put p.line.flags k true } := by
  unfold raise
  split <;> rfl

/-- A raise is the update of the line that the statements speak of. -/
theorem raise_eq_raised (k : SendKind) (p : Part) : raise k p = { p with line := Line.raised k true p.line } := by
  unfold raise Line.raised Part.sending
  by_cases h : Option.map (·.kind) p.line.tx = some k
  · simp only [if_pos h, if_true]
  · simp only [if_neg h, if_true]

/-- A raise writes nothing of the line but flags and marks. -/
@[simp] theorem raise_keeps_line (k : SendKind) (p : Part) :
    (raise k p).line.tx = p.line.tx ∧ (raise k p).line.faults = p.line.faults ∧ (raise k p).line.muted = p.line.muted
      ∧ (raise k p).line.loadRefresh = p.line.loadRefresh ∧ (raise k p).line.baystateRefresh = p.line.baystateRefresh
      ∧ (raise k p).line.corrupt = p.line.corrupt ∧ (raise k p).line.quietFrom = p.line.quietFrom
      ∧ (raise k p).line.receiving = p.line.receiving := by
  unfold raise
  split <;> simp

/-- A remark reads as it was set. -/
@[simp] theorem setRemark_get (k : Remark) (v : Bool) (p : Part) : Remarks.get (setRemark k v p).remarks k = v := by
  unfold setRemark
  split
  · assumption
  · cases k <;> simp [Remarks.get, Remarks.put]

/-- Setting a remark, as one update: BAYSTATE is raised where it changes (R25). -/
theorem setRemark_eq (k : Remark) (v : Bool) (p : Part) :
    setRemark k v p = { p with remarks := Remarks.put p.remarks k v
                               line := Line.raised .baystate (decide (Remarks.get p.remarks k ≠ v)) p.line } := by
  unfold setRemark
  by_cases h : Remarks.get p.remarks k = v
  · have hp : Remarks.put p.remarks k v = p.remarks := by
      subst h
      cases k <;> rfl
    simp [h, hp, Line.raised]
  · simp [h, raise_eq_raised]

/-- Setting the reasons, as one update (R25). -/
theorem setReasons_eq (r : Reasons) (p : Part) :
    setReasons r p = { p with bay := { p.bay with reasons := r }
                              line := Line.raised .baystate (decide (r ≠ p.bay.reasons)) p.line } := by
  unfold setReasons
  by_cases h : p.bay.reasons = r
  · subst h
    simp [Line.raised]
  · simp [h, Ne.symm h, raise_eq_raised]

/-- Two raises of one kind are one. -/
theorem raised_raised (k : SendKind) (a b : Bool) (l : Line) :
    Line.raised k a (Line.raised k b l) = Line.raised k (a || b) l := by
  cases a <;> cases b <;> simp only [Line.raised, Bool.false_eq_true, if_false, if_true, Bool.or_true, Bool.or_false]
  by_cases h : l.tx.map (·.kind) = some k <;> simp only [h, if_true, if_false] <;> cases k <;> rfl

/-- Setting a remark writes no other. -/
theorem setRemark_get_other (j k : Remark) (v : Bool) (p : Part) (h : j ≠ k) :
    Remarks.get (setRemark k v p).remarks j = Remarks.get p.remarks j := by
  unfold setRemark
  split
  · rfl
  · cases j <;> cases k <;> first | exact absurd rfl h | simp [Remarks.get, Remarks.put]

/-- Setting the reasons writes nothing of the bay record but them. -/
@[simp] theorem setReasons_bay (r : Reasons) (p : Part) : (setReasons r p).bay = { p.bay with reasons := r } := by
  unfold setReasons
  split
  · next h => rw [← h]
  · simp

/-! ## Frames received -/

/-- A good frame of another sender is handed on when it has ended (R31). -/
theorem receive_other (sender : StationNo) (n : Nat) (hand : Part → Part) (p : Part) (h : sender.toNat ≠ p.latch.station) :
    receive sender n hand p = hand (frameEnds (frameBitCount n) p) := if_neg h

/-- A good frame under the own number is handed to no block: the own frame during a transmission (R29), else a number clash
(R30). -/
theorem receive_own (sender : StationNo) (n : Nat) (hand : Part → Part) (p : Part) (h : sender.toNat = p.latch.station) :
    receive sender n hand p = if p.line.tx.isSome then p else numberClash (frameEnds (frameBitCount n) p) := if_pos h

/-! ## Changes of bay state -/

/-- What a change of bay state leaves of the bay record. -/
@[simp] theorem setBayState_bay (new : BayState) (p : Part) :
    (setBayState new p).bay.state = new ∧ (setBayState new p).bay.couple = p.bay.couple
      ∧ (setBayState new p).bay.identity = p.bay.identity ∧ (setBayState new p).bay.roster = p.bay.roster
      ∧ (setBayState new p).bay.reasons = p.bay.reasons ∧ (setBayState new p).bay.window = p.bay.window
      ∧ (setBayState new p).bay.readWatch = p.bay.readWatch ∧ (setBayState new p).bay.sweepWatch = p.bay.sweepWatch
      ∧ (setBayState new p).bay.windowWatch = p.bay.windowWatch ∧ (setBayState new p).bay.lanePass = p.bay.lanePass
      ∧ (setBayState new p).bay.revocation = p.bay.revocation
      ∧ (setBayState new p).bay.decoupleFlag = p.bay.decoupleFlag ∧ (setBayState new p).bay.retry = p.bay.retry
      ∧ (setBayState new p).bay.clearance = p.bay.clearance ∧ (setBayState new p).bay.tooEarly = p.bay.tooEarly
      ∧ (setBayState new p).bay.clashFrom = p.bay.clashFrom ∧ (setBayState new p).bay.openedAt = p.bay.openedAt
      ∧ (setBayState new p).bay.holdAckAt = p.bay.holdAckAt := by
  unfold setBayState
  split
  · simp_all
  · unfold leaveState
    split <;> simp

/-- The judgement of the plan record's remarks, as one update: BAYSTATE is raised where one of them changes (R120). -/
theorem judgePlanRemarks_eq (i : PlanInputs) (p : Part) (r : Remarks)
    (h : r = { p.remarks with
      cold := p.plan.planCold || p.plan.clearanceCold
      cabinSensor := cabinJudged i.state && i.cabin.isNone
      outsideSensor := i.outside.isNone }) :
    judgePlanRemarks i p = { p with remarks := r, line := Line.raised .baystate (decide (r ≠ p.remarks)) p.line } := by
  subst h
  have put : ∀ (s : Remarks) (a b c : Bool),
      (decide (Remarks.get (Remarks.put (Remarks.put s .cold a) .cabinSensor b) .outsideSensor ≠ c)
        || (decide (Remarks.get (Remarks.put s .cold a) .cabinSensor ≠ b) || decide (Remarks.get s .cold ≠ a)))
      = decide ({ s with cold := a, cabinSensor := b, outsideSensor := c } ≠ s) := by
    rintro ⟨_, _, _, _, x, y, z, _, _⟩ a b c
    cases a <;> cases b <;> cases c <;> cases x <;> cases y <;> cases z <;> simp [Remarks.get, Remarks.put]
  unfold judgePlanRemarks
  simp only [setRemark_eq, raised_raised, put]
  rfl

/-- What a recomputation writes: the plan, its three remarks, and BAYSTATE where one of them changes (R102, R120). -/
theorem recompute_line (t : Trigger) (p : Part) :
    (recompute t p).line = Line.raised .baystate (decide ((recompute t p).remarks ≠ p.remarks)) p.line := by
  unfold recompute
  rw [judgePlanRemarks_eq _ _ _ rfl]

/-- A change of bay state raises BAYSTATE (R25). -/
theorem setBayState_line (new : BayState) (p : Part) (h : p.bay.state ≠ new) :
    (setBayState new p).line = Line.raised .baystate true p.line := by
  unfold setBayState
  rw [if_neg h]
  dsimp only
  rw [recompute_line, raise_eq_raised]
  dsimp only
  rw [raised_raised]
  unfold leaveState
  split
  · simp [stopAsking]
  · simp [setRemark_eq, raised_raised]
  · simp

/-- The bay in STANDBY: the window closed, the watches and the copy as they were. -/
@[simp] theorem standBy_bay (p : Part) :
    (standBy p).bay.state = .standby ∧ (standBy p).bay.window = false ∧ (standBy p).bay.readWatch = p.bay.readWatch
      ∧ (standBy p).bay.sweepWatch = p.bay.sweepWatch ∧ (standBy p).bay.windowWatch = p.bay.windowWatch
      ∧ (standBy p).bay.couple = p.bay.couple ∧ (standBy p).bay.identity = p.bay.identity
      ∧ (standBy p).bay.roster = p.bay.roster ∧ (standBy p).bay.lanePass = p.bay.lanePass
      ∧ (standBy p).bay.revocation = p.bay.revocation ∧ (standBy p).bay.openedAt = p.bay.openedAt
      ∧ (standBy p).bay.holdAckAt = p.bay.holdAckAt := by
  simp [standBy, judge]

/-! ## The shed check -/

/-- What a shed check does, in the words of the statements (R62, R63). -/
theorem shedCheck_checked (p : Part) : ShedChecked p.share.halvingDue p (shedCheck p) := by
  have view : Part.feederLimitInUse (shedCheck p) = Part.feederLimitInUse p
      ∧ (shedCheck p).share.draw + Part.peerDraws (shedCheck p) = Part.observedSum p := by
    unfold shedCheck lockShed
    split
    · split <;> simp only [raise_eq_raised] <;> exact ⟨rfl, rfl⟩
    · exact ⟨rfl, rfl⟩
  unfold ShedChecked
  rw [view.1, view.2]
  unfold shedCheck lockShed
  by_cases hs : Part.feederLimitInUse p < Part.observedSum p
  · cases hl : p.share.shedLock <;> simp [hs, hl, raise_eq_raised, Line.raised, shedLockPeriod]
  · simp [hs, Line.raised]

/-! ## The sweep -/

/-- What the sweep does when a group is done, in the words of the statements (R146, R149, R150). -/
theorem moveOn_movedOn (pass : Pass) (from_ : Nat) (p : Part) : MovedOn pass from_ (moveOn pass from_ p) := by
  have h : ∀ q : Part, q.lamps = p.lamps → q.sweep.work = p.sweep.work →
      (∀ k, Part.passPositions q k = Part.passPositions p k) ∧ Part.failed q = Part.failed p := by
    intro q h1 h2
    refine ⟨fun k => ?_, by simp [Part.failed, h2]⟩
    cases k <;> simp [Part.passPositions, Part.fitted, Part.failed, h1, h2]
  have hq := h (moveOn pass from_ p)
    (by unfold moveOn energise endSweep; cases pass <;> dsimp only <;> (repeat' split) <;> rfl)
    (by unfold moveOn energise endSweep; cases pass <;> dsimp only <;> (repeat' split) <;> rfl)
  unfold MovedOn Energised
  rw [hq.2]
  simp only [hq.1]
  unfold moveOn
  cases hn : nextGroup (Part.passPositions p pass) from_ with
  | some g => simp [energise, setPhase, placeLamps, setSlot, Slots.put]
  | none =>
    cases pass with
    | first =>
      cases hm : nextGroup (Part.failed p) 0 <;>
        simp [energise, endSweep, setPhase, placeLamps, setSlot, Slots.put]
      rfl
    | second => 
      simp [endSweep, setPhase, placeLamps, setSlot, Slots.put]
      rfl

/-- After an abort no sweep runs. -/
@[simp] theorem sweepAbort_notRunning (lightsOff : Bool) (p : Part) :
    SweepStatus.isRunning (sweepAbort lightsOff p).sweep.status = false := by
  unfold sweepAbort
  split
  · split <;> simp [SweepStatus.isRunning]
  · simp_all

/-- An abort writes nothing of the link but its slots. -/
@[simp] theorem sweepAbort_link (lightsOff : Bool) (p : Part) :
    (sweepAbort lightsOff p).link.state = p.link.state ∧ (sweepAbort lightsOff p).link.inFlight = p.link.inFlight
      ∧ (sweepAbort lightsOff p).link.holdConfirmed = p.link.holdConfirmed
      ∧ (sweepAbort lightsOff p).link.identConfirmed = p.link.identConfirmed := by
  unfold sweepAbort
  split
  · split <;> simp
  · simp

/-- What an abort leaves of the sweep, in the words of the statements (R153, R154). -/
theorem sweepAbort_aborted (lightsOff : Bool) (p : Part) : SweepAborted lightsOff p (sweepAbort lightsOff p) := by
  have kept : ∀ c : Option Conversion, (discardIf Conversion.isLamp c).any Conversion.isLamp = false := by
    intro c
    cases c with
    | none => rfl
    | some c => cases c <;> rfl
  unfold SweepAborted sweepAbort
  cases h : SweepStatus.isRunning p.sweep.status with
  | false => simp
  | true =>
    cases lightsOff
    · simp [withdrawLamps, discardLampCodes, setSlot, Slots.put, kept]
      cases p.sweep.lightsOff <;> simp [LightsOff.displaced]
    · simp [placeLightsOff, withdrawLamps, discardLampCodes, setSlot, Slots.put, kept]
      rfl

/-! ## The end of a revocation -/

/-- What the end of a revocation leaves of the jobs, in the words of the statements (R193). -/
theorem revocationEnd_ended (final : JobOutcome) (own : List Job) (p q : Part)
    (h : q.orders = { (revocationEnd final (4 - own.length) p).orders with
      jobs := (revocationEnd final (4 - own.length) p).orders.jobs ++ own }) : RevocationEnded final own p q := by
  unfold RevocationEnded
  rw [h]
  unfold revocationEnd
  cases hr : p.orders.revocation with
  | none => simp [hr]
  | some r =>
    cases hs : r.sent
    · simp [hs, Job.settle]
    · by_cases hl : p.orders.jobs.length < 4 - own.length
      · simp [hs, hl, queueJob, followUp, holdKind]
        omega
      · simp [hs, hl]

/-! ## The clearance evaluation -/

/-- Entry to RELEASING keeps the bay record but for the state and the lane pass, which is consumed. -/
@[simp] theorem enterReleasing_bay (p : Part) :
    (enterReleasing p).bay.state = .releasing ∧ (enterReleasing p).bay.lanePass = false
      ∧ (enterReleasing p).bay.couple = p.bay.couple ∧ (enterReleasing p).bay.identity = p.bay.identity
      ∧ (enterReleasing p).bay.roster = p.bay.roster ∧ (enterReleasing p).bay.reasons = p.bay.reasons
      ∧ (enterReleasing p).bay.window = p.bay.window ∧ (enterReleasing p).bay.revocation = p.bay.revocation
      ∧ (enterReleasing p).bay.readWatch = p.bay.readWatch ∧ (enterReleasing p).bay.sweepWatch = p.bay.sweepWatch
      ∧ (enterReleasing p).bay.windowWatch = p.bay.windowWatch ∧ (enterReleasing p).bay.openedAt = p.bay.openedAt
      ∧ (enterReleasing p).bay.holdAckAt = p.bay.holdAckAt := by
  simp [enterReleasing]

/-- An evaluation never changes couple sense, identity, roster copy, window, watches or revocation. -/
@[simp] theorem evaluate_bay (p : Part) :
    (evaluate p).bay.couple = p.bay.couple ∧ (evaluate p).bay.identity = p.bay.identity
      ∧ (evaluate p).bay.roster = p.bay.roster ∧ (evaluate p).bay.window = p.bay.window
      ∧ (evaluate p).bay.revocation = p.bay.revocation ∧ (evaluate p).bay.readWatch = p.bay.readWatch
      ∧ (evaluate p).bay.sweepWatch = p.bay.sweepWatch ∧ (evaluate p).bay.windowWatch = p.bay.windowWatch
      ∧ (evaluate p).bay.openedAt = p.bay.openedAt ∧ (evaluate p).bay.holdAckAt = p.bay.holdAckAt := by
  unfold evaluate
  split <;> try (simp [judge]; done)
  all_goals
    unfold placeBay
    split
    · simp [judge]
    · split
      · simp [judge]
      · dsimp only
        split <;> simp [judge]

/-- An evaluation acts in STANDBY, PREPARE, READY and HELD alone. -/
theorem evaluate_elsewhere (p : Part) (h : heldCoach p.bay.state = false) : evaluate p = p := by
  unfold evaluate
  cases hs : p.bay.state <;> simp_all [heldCoach]

/-- An evaluation in PREPARE, READY and HELD raises BAYSTATE where it changes the state or the reasons (R25, R179). -/
theorem evaluate_line (p : Part) (h : openState p.bay.state = true) :
    (evaluate p).line = Line.raised .baystate
      (decide ((evaluate p).bay.state ≠ p.bay.state ∨ Part.judgedReasons p ≠ p.bay.reasons)) p.line := by
  have hset : ∀ (new : BayState) (q : Part), (setBayState new q).line
      = Line.raised .baystate (decide (q.bay.state ≠ new)) q.line := by
    intro new q
    by_cases hn : q.bay.state = new
    · simp [hn, setBayState, Line.raised]
    · simp [hn, setBayState_line]
  have hrel : ∀ q : Part, q.bay.state ≠ .releasing → (enterReleasing q).line = Line.raised .baystate true q.line := by
    intro q hq
    unfold enterReleasing
    rw [hset]
    simp [hq]
  have hne : p.bay.state ≠ .releasing := by
    intro h2
    simp [h2, openState] at h
  have he : evaluate p = placeBay (judge p) := by
    unfold evaluate
    cases hs : p.bay.state <;> simp_all [openState]
  rw [he]
  unfold placeBay
  split
  · simp [hset, judge, setReasons_eq, raised_raised, eq_comm]
  · split
    · simp [hset, judge, setReasons_eq, raised_raised, eq_comm]
    · dsimp only
      split
      · rw [hrel _ (by simp)]
        simp [hset, judge, setReasons_eq, raised_raised, Ne.symm hne]
      · simp [hset, judge, setReasons_eq, raised_raised, eq_comm]

/-- What an evaluation in PREPARE, READY and HELD gives (R178, R179): the reasons as judged, and the state by the rows of its
table. -/
theorem evaluate_placed (p : Part) (h : openState p.bay.state = true) :
    (evaluate p).bay.reasons = Part.judgedReasons p
      ∧ (evaluate p).bay.state = (if Reasons.any (Part.judgedReasons p) then .held
          else if Part.sweepPending p || !Part.readFresh p then .prepare
          else if p.bay.window && p.link.holdConfirmed then .releasing else .ready) := by
  have he : evaluate p = placeBay (judge p) := by
    unfold evaluate
    cases hs : p.bay.state <;> simp_all [openState]
  have hp : Part.sweepPending (judge p) = Part.sweepPending p := by simp [judge, Part.sweepPending, Part.sweepFresh]
  have hr : Part.readFresh (judge p) = Part.readFresh p := by simp [judge, Part.readFresh]
  have hb : (judge p).bay = { p.bay with reasons := Part.judgedReasons p } := by simp [judge]
  rw [he]
  unfold placeBay
  rw [hp, hr, hb]
  by_cases h1 : Reasons.any (Part.judgedReasons p) = true
  · simp [h1, hb]
  · by_cases h2 : (Part.sweepPending p || !Part.readFresh p) = true
    · simp only [h1, h2, if_true]
      simp [hb]
    · simp only [h1, h2]
      have hq : ((setBayState .ready (judge p)).bay.window && (setBayState .ready (judge p)).link.holdConfirmed)
          = (p.bay.window && p.link.holdConfirmed) := by
        simp [hb]
      by_cases h3 : (p.bay.window && p.link.holdConfirmed) = true
      · simp only [hq, h3, if_true]
        simp [hb]
      · simp only [hq, h3]
        simp [hb]

/-- The three watches write of the bay record themselves and the window alone (R180). -/
theorem runWatches_bay (p : Part) :
    (runWatches p).bay = (match Part.minutesToDeparture p with
      | none => p.bay
      | some m => { p.bay with
          readWatch := (evaluateWatch p.bay.readWatch m 30).1
          sweepWatch := (evaluateWatch p.bay.sweepWatch m 20).1
          windowWatch := (evaluateWatch p.bay.windowWatch m 5).1
          window := p.bay.window || (evaluateWatch p.bay.windowWatch m 5).2 }) := by
  unfold runWatches
  cases h : Part.minutesToDeparture p <;> simp

/-- The note of an opening is one update of the bay record. -/
theorem noteOpening_bay (before : Bool) (p : Part) :
    (noteOpening before p).bay = { p.bay with
      openedAt := if !before && p.bay.window && !p.bay.lanePass then some p.osc else p.bay.openedAt } := by
  unfold noteOpening
  split <;> rfl

/-- A minute event in PREPARE, READY and HELD ends in the clearance evaluation (R179, R180). -/
theorem minuteEvent_open (p : Part) (h : openState p.bay.state = true) :
    minuteEvent p = evaluate (noteOpening p.bay.window (runWatches (cacheMinute (recompute .minute p)))) := by
  unfold minuteEvent bayMinute
  rw [show (cacheMinute (recompute .minute p)).bay = p.bay by simp]
  cases hs : p.bay.state <;> simp_all [openState]

/-- An evaluation writes nothing of the fault list but an operation, which it cuts short on entry to RELEASING. -/
@[simp] theorem evaluate_faults (p : Part) :
    (evaluate p).faults.coach = p.faults.coach ∧ (evaluate p).faults.bay = p.faults.bay
      ∧ (evaluate p).faults.lastRead = p.faults.lastRead ∧ (evaluate p).faults.lastRejected = p.faults.lastRejected
      ∧ (evaluate p).faults.lastDropped = p.faults.lastDropped ∧ (evaluate p).faults.memory = p.faults.memory
      ∧ (evaluate p).faults.rejected = p.faults.rejected
      ∧ (p.faults.status = .idle → (evaluate p).faults.status = .idle)
      ∧ (p.faults.kind = none → (evaluate p).faults.kind = none)
      ∧ (p.faults.toRead = none → (evaluate p).faults.toRead = none)
      ∧ (p.faults.nextIndex = none → (evaluate p).faults.nextIndex = none)
      ∧ (p.faults.staging = [] → (evaluate p).faults.staging = []) := by
  unfold evaluate
  split <;> try (simp [judge]; done)
  all_goals
    unfold placeBay
    split
    · simp [judge]
    · split
      · simp [judge]
      · dsimp only
        split <;> simp [judge, enterReleasing]

/-- A recomputation writes no remark but the three of the plan record. -/
theorem recompute_remark (t : Trigger) (p : Part) (k : Remark) (h : k ≠ .cold ∧ k ≠ .cabinSensor ∧ k ≠ .outsideSensor) :
    Remarks.get (recompute t p).remarks k = Remarks.get p.remarks k := by
  unfold recompute judgePlanRemarks
  dsimp only
  rw [setRemark_get_other _ _ _ _ h.2.2, setRemark_get_other _ _ _ _ h.2.1, setRemark_get_other _ _ _ _ h.1]

/-- A change of bay state writes no remark but those and STALE_CLEARANCE. -/
theorem setBayState_remark (new : BayState) (p : Part) (k : Remark)
    (h : k ≠ .cold ∧ k ≠ .cabinSensor ∧ k ≠ .outsideSensor) (h' : k ≠ .staleClearance) :
    Remarks.get (setBayState new p).remarks k = Remarks.get p.remarks k := by
  unfold setBayState
  split
  · rfl
  · rw [recompute_remark _ _ _ h]
    unfold leaveState
    split <;> simp [stopAsking, setRemark_get_other _ _ _ _ h']

/-- Nor does an evaluation. -/
theorem evaluate_remark (p : Part) (k : Remark) (h : k ≠ .cold ∧ k ≠ .cabinSensor ∧ k ≠ .outsideSensor)
    (h' : k ≠ .staleClearance) : Remarks.get (evaluate p).remarks k = Remarks.get p.remarks k := by
  unfold evaluate
  split <;> try (simp [judge]; done)
  all_goals
    unfold placeBay
    split
    · simp [judge, setBayState_remark _ _ _ h h']
    · split
      · simp [judge, setBayState_remark _ _ _ h h']
      · dsimp only
        split <;> simp [judge, enterReleasing, setBayState_remark _ _ _ h h']

/-- What the completion of a read installs, in the words of the statements (R163). -/
theorem completeRead_installed (p : Part) : ReadInstalled p.faults.staging p.faults.rejected p (completeRead p) := by
  unfold ReadInstalled completeRead
  have hr := fun q => evaluate_remark q .faultsTruncated (by decide) (by decide)
  simp only [Remarks.get] at hr
  have hs := fun v q => setRemark_get .faultsTruncated v q
  simp only [Remarks.get] at hs
  have hmap : List.map (·.record) (List.map (entryOf p.clock.minute p.faults.coach)
      ((inClassOrder p.faults.staging).take coachLimit)) = (inClassOrder p.faults.staging).take coachLimit := by
    rw [List.map_map]
    exact List.map_id _
  refine ⟨by simpa [inClassOrder, coachLimit] using hmap, fun e he => ?_, ?_⟩
  · rw [(evaluate_faults _).1] at he
    simp only [setRemark_keeps] at he
    obtain ⟨r, -, rfl⟩ := List.mem_map.mp he
    exact ⟨rfl, rfl⟩
  · simp [hr, hs, coachLimit, Part.completionNow, Part.dated]

/-! ## After a change of the peer table -/

/-- A changed lane view sets off the clearance evaluation but where it revises an entry to RELEASING (R47, R190). -/
theorem laneViewChanged_evaluates (p : Part) (h : Part.entryRevised p = false) : laneViewChanged p = evaluate p := by
  simp [laneViewChanged, h]

/-- What follows a change of the peer table: two remarks are judged, and a lane view that is not the one before reaches the bay
controller (R44, R46, R47). -/
theorem afterPeers_follows (before : List Position) (p : Part) : ∃ w : Part,
    afterPeers before p = (if Part.laneView p = before then w else laneViewChanged w)
      ∧ w.remarks.feederMismatch = (Part.feederLimitInUse p != Part.ownLimit p)
      ∧ w.remarks.laneClash = Part.laneClashes p
      ∧ unchangedExcept [.remarks, .line] p w := by
  let q := setRemark .feederMismatch (Part.feederLimitInUse p != Part.ownLimit p) p
  have view : Part.laneView (setRemark .laneClash (Part.laneClashes q) q) = Part.laneView p
      ∧ Part.laneClashes q = Part.laneClashes p := by
    simp only [q, setRemark_eq]
    exact ⟨rfl, rfl⟩
  refine ⟨setRemark .laneClash (Part.laneClashes q) q, ?_, ?_, ?_, fun b hb => ?_⟩
  · show (if Part.laneView (setRemark .laneClash (Part.laneClashes q) q) = before then _ else _) = _
    rw [view.1]
  · simp [setRemark_eq, q, Remarks.put]
  · rw [view.2]
    simp [setRemark_eq, Remarks.put]
  · cases b <;> simp_all [agreeOn, q]

/-! ## The plan record -/

/-- A recomputation leaves the plan that `replan` gives. -/
@[simp] theorem recompute_plan (t : Trigger) (p : Part) :
    (recompute t p).plan = replan t (Part.planInputs p) p.plan := by
  simp [recompute, judgePlanRemarks]

/-- The watch at a minute event writes none of these. -/
@[simp] theorem heatWatchMinute_keeps (now : Moment) (reached : Bool) (o : Plan) :
    (heatWatchMinute now reached o).target = o.target ∧ (heatWatchMinute now reached o).lead = o.lead
      ∧ (heatWatchMinute now reached o).basis = o.basis ∧ (heatWatchMinute now reached o).start = o.start
      ∧ (heatWatchMinute now reached o).demand = o.demand ∧ (heatWatchMinute now reached o).urgency = o.urgency
      ∧ (heatWatchMinute now reached o).planCold = o.planCold
      ∧ (heatWatchMinute now reached o).clearanceCold = o.clearanceCold := by
  unfold heatWatchMinute
  repeat' split
  all_goals simp

/-- Nor does the watch at any recomputation. -/
@[simp] theorem heatWatch_keeps (t : Trigger) (i : PlanInputs) (o : Plan) :
    (heatWatch t i o).target = o.target ∧ (heatWatch t i o).lead = o.lead ∧ (heatWatch t i o).basis = o.basis
      ∧ (heatWatch t i o).start = o.start ∧ (heatWatch t i o).demand = o.demand ∧ (heatWatch t i o).urgency = o.urgency
      ∧ (heatWatch t i o).planCold = o.planCold ∧ (heatWatch t i o).clearanceCold = o.clearanceCold := by
  unfold heatWatch
  cases t <;> dsimp only <;> (repeat' split) <;> simp

/-- Nor does the frost watch. -/
@[simp] theorem modeFrost_keeps (cabin : Option Int) (o : Plan) :
    (modeFrost cabin o).target = o.target ∧ (modeFrost cabin o).lead = o.lead ∧ (modeFrost cabin o).basis = o.basis
      ∧ (modeFrost cabin o).start = o.start ∧ (modeFrost cabin o).demand = o.demand
      ∧ (modeFrost cabin o).urgency = o.urgency ∧ (modeFrost cabin o).planCold = o.planCold
      ∧ (modeFrost cabin o).clearanceCold = o.clearanceCold := by
  simp [modeFrost]

/-- Nor does the mode while heating has begun. -/
@[simp] theorem modeHeating_keeps (cabin : Option Int) (o : Plan) :
    (modeHeating cabin o).target = o.target ∧ (modeHeating cabin o).lead = o.lead
      ∧ (modeHeating cabin o).basis = o.basis ∧ (modeHeating cabin o).start = o.start
      ∧ (modeHeating cabin o).demand = o.demand ∧ (modeHeating cabin o).urgency = o.urgency
      ∧ (modeHeating cabin o).planCold = o.planCold ∧ (modeHeating cabin o).clearanceCold = o.clearanceCold := by
  unfold modeHeating
  repeat' split
  all_goals simp

/-- Deciding the mode writes the watch, its re-arming, heating begun, the mode and the two substates alone. -/
@[simp] theorem decideMode_keeps (t : Trigger) (i : PlanInputs) (o : Plan) :
    (decideMode t i o).target = o.target ∧ (decideMode t i o).lead = o.lead ∧ (decideMode t i o).basis = o.basis
      ∧ (decideMode t i o).start = o.start ∧ (decideMode t i o).demand = o.demand
      ∧ (decideMode t i o).urgency = o.urgency ∧ (decideMode t i o).planCold = o.planCold
      ∧ (decideMode t i o).clearanceCold = o.clearanceCold := by
  unfold decideMode
  split
  all_goals first | (dsimp only; split) | skip
  all_goals simp [modeOff]

/-- What stands of the lead computation and of the mode in the plan that a recomputation leaves: parts 4 and 5 write the demand, the
urgency and clearance cold alone. -/
theorem replan_mode (t : Trigger) (i : PlanInputs) (o : Plan) (l : LeadResult) (d : Plan) (hl : l = leadOf i)
    (hd : d = decideMode t i { o with
      target := i.roster.map fun r => targetOf r.target
      lead := l.lead, basis := l.basis, start := l.start, planCold := l.cold }) :
    (replan t i o).mode = d.mode ∧ (replan t i o).frost = d.frost ∧ (replan t i o).watch = d.watch
      ∧ (replan t i o).begun = d.begun ∧ (replan t i o).rearmed = d.rearmed ∧ (replan t i o).maintain = d.maintain
      ∧ (replan t i o).lead = l.lead ∧ (replan t i o).target = i.roster.map fun r => targetOf r.target := by
  subst hl hd
  refine ⟨rfl, rfl, rfl, rfl, rfl, rfl, ?_, ?_⟩
  · simp [replan, judgeClearance, setDemand]
  · simp [replan, judgeClearance, setDemand]

/-! ## Beats -/

/-- From `a`, the steps of `b` that `ceilDiv` counts reach `n` and stay below `n + b`. -/
theorem ceilDiv_reaches (a n b : Nat) (h : 0 < b) (hn : a < n) :
    n ≤ a + b * ceilDiv (n - a) b ∧ a + b * ceilDiv (n - a) b < n + b := by
  have := Nat.div_add_mod (n - a + b - 1) b
  have := Nat.mod_lt (n - a + b - 1) h
  unfold ceilDiv
  omega

/-- The beat that a command at `now` waits for does not begin before it, is that of `now` where one begins there or has yet to
begin, and else the first of the following (R134). Nothing but the beat and whether its coach word has come is written. -/
theorem atNextBeat_waits (l : Link) (now : Moment) :
    now ≤ (Link.atNextBeat l now).beat ∧ (l.beat < now → (Link.atNextBeat l now).beat < now + beatPeriod)
      ∧ (Link.atNextBeat l now).beat % beatPeriod = l.beat % beatPeriod
      ∧ Link.atNextBeat l now
        = { l with beat := (Link.atNextBeat l now).beat, heard := decide (now ≤ l.beat) && l.heard } := by
  unfold Link.atNextBeat
  split
  · rename_i h
    exact ⟨h, fun h' => absurd h (Nat.not_le.mpr h'), rfl, by simp [h]⟩
  · rename_i h
    have hc := ceilDiv_reaches l.beat now beatPeriod (by decide) (Nat.not_le.mp h)
    exact ⟨hc.1, fun _ => hc.2, Nat.add_mul_mod_self_left .., by simp [h]⟩

end Sys2Proof.Machine
end

