-- ==== Sys2Proof/Laws/Steps.lean ====
section
/-! SUPPORT. What a step can do, said once: every command answers a next state with the queue as it was, and its part is
`Part.after` of the part before; a property of the part that every `effect` keeps is kept by every step. -/

namespace Sys2Proof.Machine

/-- What a command does to a part in normal operation. START_UP and RESET_ASSERTED act in every mode and have no effect
here. -/
def effect : Instr → Part → Part
  | .startUp _ | .resetAsserted => id
  | .secondEnd => secondEnds
  | .timeSilenceExpiry => timeSilenceExpires
  | .timeFrame sender t => receive sender 3 (takeTime t)
  | .frameAttemptStart => attemptStarts
  | .arbitrationLost bit => arbitrationIsLost bit
  | .transmitFault bit => transmitFaults bit
  | .mutedEnd => mutedEnds
  | .shedComplete => completion .shed fun _ p => p
  | .loadComplete => completion .load loadNotice
  | .baystateComplete => completion .baystate baystateNotice
  | .askComplete => completion .ask fun _ p => p
  | .reportComplete => completion .report reportNotice
  | .loadRefreshExpiry => loadRefreshExpires
  | .baystateRefreshExpiry => baystateRefreshExpires
  | .corruptFrame f => corruptFrameEnds f
  | .shedFrame sender b => receive sender 3 (fromBayPost sender (takeShed b))
  | .loadFrame sender b => receive sender 5 (fromBayPost sender fun p => shedCheck (arrivesIfGood (loadFields sender b) p))
  | .baystateFrame sender b => receive sender 13 (fromBayPost sender (arrivesIfGood (baystateFields sender b)))
  | .askFrame sender _ => receive sender 2 id
  | .reportFrame sender _ => receive sender 15 id
  | .peerAgeing60s station => peerAges station.toNat
  | .ghostAgeing180s station => ghostAges station.toNat
  | .shedLockEnd => shedLockEnds
  | .heatFrameBoundary => boundary
  | .selfTestCountExpiry => fun p => { p with measure := selfTestCountEnds p.measure }
  | .stepStart => stepStarts
  | .refloConversionEnd code => refloEnds code
  | .refhiConversionEnd code => refhiEnds code
  | .temperatureConversionEnd code => temperatureEnds code
  | .lampConversionEnd code => lampEnds code
  | .ping => chosen .ping
  | .ident => chosen .ident
  | .hold => chosen .hold
  | .release => chosen .release
  | .lamps => chosen .lamps
  | .fcount => chosen .fcount
  | .fread => chosen .fread
  | .fclear => chosen .fclear
  | .idle => coachWord .idle
  | .wait => coachWord .wait
  | .data w => coachWord (.data w)
  | .last w => coachWord (.last w)
  | .ack => coachWord .ack
  | .refuse r => coachWord (.refuse r)
  | .garbledWord w => coachWord (judgeWord w)
  | .waitCountExpiry => waitCountEnds
  | .recoveryEnd => recoveryEnds
  | .startTimerExpiry => startTimerExpires
  | .lostPingTimerExpiry => lostPingExpires
  | .keepAliveExpiry => keepAliveExpires
  | .settleTimerExpiry => settleExpires
  | .rosterFrame sender b => receive sender 7 (takeRosterFrame b)
  | .rosterCancel sender coach => receive sender 7 (takeRosterFrame { coach := coach, departure := 2047#16, target := 0, run := 0 })
  | .askCountExpiry => askCountEnds
  | .coupleSenseRise => coupleRises
  | .decouple => coupleFalls
  | .departButtonPress => departPress
  | .holdRetryExpiry => holdRetryExpires
  | .clearanceCountExpiry => clearanceCountEnds
  | .tooEarlyOverlayEnd => tooEarlyEnds
  | .sounderRunEnd => chirpsEnd
  | .orderSweep o => receive o.sender 4 (takeOrder o sweepRule)
  | .orderReadfaults o => receive o.sender 4 (takeOrder o readfaultsRule)
  | .orderClearstored o => receive o.sender 4 (takeOrder o clearstoredRule)
  | .orderHold o => receive o.sender 4 (takeOrder o (holdRule o))
  | .orderUnhold o => receive o.sender 4 (takeOrder o unholdRule)
  | .orderLanepass o => receive o.sender 4 (takeOrder o lanepassRule)
  | .orderBayreset o => receive o.sender 4 (takeOrder o bayresetRule)
  | .orderBadKind o kind => receive o.sender 4 (takeOrder o (badKindRule kind))
  | .showSummary o => receive o.sender 4 (takeOrder o (showRule .summary))
  | .showLamps o => receive o.sender 4 (takeOrder o (showRule .lamps))
  | .showFaults o => receive o.sender 4 (takeOrder o (showRule .faults))
  | .showPeers o => receive o.sender 4 (takeOrder o (showRule .peers))
  | .showPlan o => receive o.sender 4 (takeOrder o (showRule .plan))
  | .showCounters o => receive o.sender 4 (takeOrder o (showRule .counters))
  | .showRoster o => receive o.sender 4 (takeOrder o (showRule .roster))

/-- The part that a START_UP leaves (R3). -/
def Part.started (straps : Straps) : Part :=
  if validStation (latchOf straps).station then Part.initial (latchOf straps) else Part.strapFault (latchOf straps)

/-- The part after a command. -/
def Part.after (c : Instr) (p : Part) : Part :=
  match c with
  | .startUp straps => Part.started straps
  | .resetAsserted => Part.inactive p
  | c => if p.mode = .normal then effect c p else p

theorem act_eq (f : Part → Part) (s : State) :
    act f s = .next { s with part := if s.part.mode = .normal then f s.part else s.part } := rfl

/-- Every command answers a next state, the queue as it was. -/
theorem exec_eq (c : Instr) (s : State) : exec c s = .next { s with part := Part.after c s.part } := by
  cases c <;> rfl

/-- In normal operation a command other than START_UP and RESET_ASSERTED acts by its `effect`. -/
theorem exec_normal {c : Instr} {s : State} (h : s.part.mode = .normal) (h1 : ∀ straps, c ≠ .startUp straps)
    (h2 : c ≠ .resetAsserted) : exec c s = .next { s with part := effect c s.part } := by
  rw [exec_eq]
  cases c <;> first | exact absurd rfl (h1 _) | exact absurd rfl h2 | simp [Part.after, h]

/-- A command completes with what its part afterwards satisfies. -/
theorem completes_of (c : Instr) (s : State) (post : Part → Prop) (h : post (Part.after c s.part)) : Completes c s post :=
  ⟨_, exec_eq c s, h⟩

theorem step_cons {s : State} {c : Instr} {rest : List Instr} (h : s.pending = c :: rest) :
    step s = exec c { s with pending := rest } := by
  simp [step, h]

theorem step_nil {s : State} (h : s.pending = []) : step s = .next { s with part := Part.tick s.part } := by
  simp [step, h]

/-- A property of the part is kept by every step when START_UP establishes it and the tick, RESET_ASSERTED and every effect
in normal operation keep it. -/
theorem step_keeps {I : Part → Prop} (tick : ∀ p, I p → I (Part.tick p)) (started : ∀ straps, I (Part.started straps))
    (inactive : ∀ p, I p → I (Part.inactive p)) (effects : ∀ c p, p.mode = .normal → I p → I (effect c p))
    {s t : State} (hs : I s.part) (h : step s = .next t) : I t.part := by
  cases hp : s.pending with
  | nil =>
    rw [step_nil hp] at h
    obtain rfl := Host.Outcome.next.inj h
    exact tick _ hs
  | cons c rest =>
    rw [step_cons hp, exec_eq] at h
    obtain rfl := Host.Outcome.next.inj h
    show I (Part.after c s.part)
    unfold Part.after
    split
    · exact started _
    · exact inactive _ hs
    · split
      · exact effects _ _ ‹_› hs
      · exact hs

end Sys2Proof.Machine
end

