-- ==== Sys2Proof/WellFormed.lean ====
section
/-! DEFINITION. The operands that a row of the table admits, where a constructor's type admits more. -/

namespace Sys2Proof

/-- The longest frame, in bits (R14). -/
def longestFrame : Nat := 150

/-- Whether a command's operands are those of its row: a bit of a frame, a frame read whole that is corrupt, a REPORT of 15
bytes, the station number of a bay post, a ROSTER that is no cancel, a word that is garbled, a kind code that names no order,
and the argument that selects the SHOW kind. -/
def Instr.wf : Instr → Bool
  | .transmitFault bit => bit < longestFrame
  | .corruptFrame f => f.payload.length == f.length.toNat && Machine.RawFrame.corrupt f
  | .reportFrame _ payload => payload.length == Machine.payloadSize 7
  | .peerAgeing60s n => Machine.validStation n.toNat
  | .ghostAgeing180s n => Machine.validStation n.toNat
  | .rosterFrame _ b => b.departure != 2047#16
  | .garbledWord w => Machine.judgeWord w == .garbled
  | .orderBadKind _ kind => 7 < kind.toNat
  | .showSummary o => Machine.showOf o.argument.toNat == .summary
  | .showLamps o => Machine.showOf o.argument.toNat == .lamps
  | .showFaults o => Machine.showOf o.argument.toNat == .faults
  | .showPeers o => Machine.showOf o.argument.toNat == .peers
  | .showPlan o => Machine.showOf o.argument.toNat == .plan
  | .showCounters o => Machine.showOf o.argument.toNat == .counters
  | .showRoster o => Machine.showOf o.argument.toNat == .roster
  | _ => true

end Sys2Proof
end

