-- ==== Sys2Proof/Tests/Slice0.lean ====
section
/-! SUPPORT. The model's own tests: ill-formed operands that the check refuses, small facts worked out from the manual, and for
each statement a state and operands that meet its hypotheses, clause by clause. -/

set_option maxRecDepth 10000

namespace Sys2Proof.Tests

open Sys2Proof.Machine

/-! ## Helpers -/

/-- The machine with a part and no command waiting. -/
def machine (p : Part) : State := { part := p, pending := [] }

/-- Station 34: lane 5, depth 2, group 2, class 1, heater fitted. -/
def latch : Latch := { station := 34, lane := 5, depth := 2, group := 2, cls := 1, heater := true }

/-- Station 34 right after start-up. -/
def fresh : Part := Part.initial latch

/-- A coach with one filament lamp of nominal 100 and a fault memory of two records. -/
def coach : Identity :=
  { coach := 5000, ih := 40, memory := 2, h := 60, c := 24, fitted := 1#16, led := 0#16, nominals := [100] }

/-- The words of that coach's identity. -/
def coachWords : List Word16 := [5000#16, 10242#16, 15384#16, 1#16, 0#16, 100#16]

/-- A lamp table with position 0 fitted and OK. -/
def lamps : List Lamp :=
  { position := 0, fit := some (.filament, 100), verdict := .ok, minute := some 315 } :: clearedLamps.drop 1

/-- A coach in the bay, checked at 05:15, departing at 05:45; it is 05:20. -/
def bayIn (b : BayState) : Part :=
  { fresh with
    clock := { minute := 320, second := 59, status := .valid, silence := some 900000000 }
    measure := { chain := .good, selfTest := .notDue, owedOutside := false, converting := none }
    link := { state := .up, identConfirmed := true, holdConfirmed := true, keepAlive := some 5000000 }
    sweep := { status := .complete, last := some { minute := 315, dated := true } }
    lamps := lamps
    faults := { memory := some 2, lastRead := some { minute := 315, dated := true } }
    bay := { couple := true, state := b, identity := some coach
             roster := some { departure := 345, target := 200, run := 7 } } }

/-- A part with a command in flight. -/
def flying (who : Requester) (code : CommandCode) (p : Part) : Part :=
  { p with link := { p.link with inFlight := some { requester := who, command := { code := code } } } }

/-- A transmission that has just begun. -/
def sent (k : SendKind) : Transmission := { kind := k, payload := List.replicate (payloadSize (sendKindCode k)) 0, start := 0 }

/-- A part that transmits. -/
def sending (k : SendKind) (p : Part) : Part := { p with line := { p.line with tx := some (sent k) } }

/-- A LIVE peer of the own group. -/
def peer (station depth draw : Nat) (status : PeerStatus) : Peer :=
  { station := station, lane := 5, depth := depth, group := 2, cls := 0, status := status, bayState := some .empty
    load := some { demand := 12, draw := draw, urgency := 9 }, lastHeard := 0 }

/-- A part with peers. -/
def withPeers (es : List Peer) (p : Part) : Part := { p with peers := { entries := es } }

/-- A table of 31 peers, stations 1 to 31, the first with a status of its own. -/
def fullTable (first : PeerStatus) : List Peer :=
  peer 1 1 3 first :: (List.range 30).map fun k => peer (k + 2) 1 0 .live

/-- An order of terminal 61 for station 34. -/
def order (argument : Byte) : Order := { sender := 61, target := 34, tag := 9, argument := argument }

/-- A reply job. -/
def job (outcome : JobOutcome) : Job :=
  { tag := 9, kind := 3, argument := 0, sender := 61, show? := none, outcome := outcome, total := some 1 }

/-- A LOAD of lane 5, depth 1, with a demand of 12, a draw of 3 and HEAT at urgency 9; `group` is its group. -/
def loadOf (group : Nat) : LoadPayload :=
  { lane := 5, place := placeByte 1 group 0, demand := 12, draw := 3, plan := 41 }

/-- A BAYSTATE of lane `lane` and depth 1 in the own group, EMPTY. -/
def bayOf (lane : Byte) : BaystatePayload :=
  { lane := lane, place := placeByte 1 2 0, bayState := 0, coach := 0, reasons := 0, remarks := 0, minutes := 0
    dropped := 0, flags := 0 }

/-! ## Ill-formed operands -/

/-- A frame that is not corrupt. -/
def goodFrame : RawFrame :=
  { arbitration := 100, length := 3, payload := [0, 0, 0], check := crc16 (coveredBits 100 3 [0, 0, 0]) }

theorem test_wf_bit : Instr.wf (.transmitFault 150) = false ∧ Instr.wf (.transmitFault 149) = true := by decide
theorem test_wf_corruptGood : Instr.wf (.corruptFrame goodFrame) = false := by decide
theorem test_wf_corruptLength : Instr.wf (.corruptFrame { goodFrame with payload := [0] }) = false
    ∧ Instr.wf (.corruptFrame { goodFrame with check := 0 }) = true := by decide
theorem test_wf_report : Instr.wf (.reportFrame 3 [0]) = false ∧ Instr.wf (.reportFrame 3 (List.replicate 15 0)) = true := by
  decide
theorem test_wf_peerAgeing : Instr.wf (.peerAgeing60s 0) = false ∧ Instr.wf (.peerAgeing60s 59) = true := by decide
theorem test_wf_ghostAgeing : Instr.wf (.ghostAgeing180s 60) = false ∧ Instr.wf (.ghostAgeing180s 1) = true := by decide
theorem test_wf_roster :
    Instr.wf (.rosterFrame 61 { coach := 5000, departure := 2047, target := 200, run := 7 }) = false
      ∧ Instr.wf (.rosterFrame 61 { coach := 5000, departure := 345, target := 200, run := 7 }) = true := by decide
theorem test_wf_garbled : Instr.wf (.garbledWord (linkWord 9 0)) = false ∧ Instr.wf (.garbledWord 0) = true := by decide
theorem test_wf_badKind : Instr.wf (.orderBadKind (order 0) 7) = false ∧ Instr.wf (.orderBadKind (order 0) 8) = true := by
  decide
theorem test_wf_showSummary : Instr.wf (.showSummary (order 3)) = false ∧ Instr.wf (.showSummary (order 7)) = true := by
  decide
theorem test_wf_showLamps : Instr.wf (.showLamps (order 0)) = false ∧ Instr.wf (.showLamps (order 1)) = true := by decide
theorem test_wf_showFaults : Instr.wf (.showFaults (order 0)) = false ∧ Instr.wf (.showFaults (order 2)) = true := by decide
theorem test_wf_showPeers : Instr.wf (.showPeers (order 0)) = false ∧ Instr.wf (.showPeers (order 3)) = true := by decide
theorem test_wf_showPlan : Instr.wf (.showPlan (order 0)) = false ∧ Instr.wf (.showPlan (order 4)) = true := by decide
theorem test_wf_showCounters : Instr.wf (.showCounters (order 0)) = false ∧ Instr.wf (.showCounters (order 5)) = true := by
  decide
theorem test_wf_showRoster : Instr.wf (.showRoster (order 0)) = false ∧ Instr.wf (.showRoster (order 6)) = true := by decide

/-! ## Facts of the manual -/

/-- The check value of the nine digits 1 to 9. -/
theorem test_crc : crc16 ([49, 50, 51, 52, 53, 54, 55, 56, 57].flatMap fun b => msbFirst 8 b) = 0x29B1#16 := by decide

/-- Available current and quiet allowance of the four classes (R49). -/
theorem test_available : [0, 1, 2, 3].map (fun c => (available (feederLimit c), quietAllowance (available (feederLimit c))))
    = [(28, 1), (56, 3), (110, 6), (219, 13)] := by decide

/-- A CMD word of RELEASE: tag 1, code 4, an even count of ones before parity. -/
theorem test_releaseWord : cmdWord { code := .release } = 0b000100000100000000001#21 := by decide

/-- The identity of station 34's coach is read from its words. -/
theorem test_identityWords : identityOf coachWords = some coach := by decide

/-- A fault record of system 3, ACTIVE, count 2, with an age and one freeze word. -/
theorem test_faultRecord : recordOf 4 [0x3012#16, 0x6402#16, 77#16, 5#16]
    = some { system := 3, code := 18, state := .active, count := 2, age := some 77, order := 4 } := by decide

/-! ## The hypotheses of the statements are met -/

/-- O1: a command waits. -/
theorem test_hyp_step : ({ part := fresh, pending := [.secondEnd, .decouple] } : State).pending = .secondEnd :: [.decouple] := by
  decide

/-- O2: an empty queue; a part that is inactive or in STRAP FAULT. -/
theorem test_hyp_outside : (machine fresh).pending = []
    ∧ (machine { fresh with mode := .inactive }).part.mode ≠ .normal
    ∧ (machine (Part.strapFault latch)).part.mode ≠ .normal := by decide

/-- O3 and O4: the station numbers at both ends of the valid range, and those just outside it. -/
theorem test_hyp_straps : (1 ≤ (1#6).toNat ∧ (1#6).toNat ≤ 59) ∧ (1 ≤ (59#6).toNat ∧ (59#6).toNat ≤ 59)
    ∧ ¬(1 ≤ (0#6).toNat ∧ (0#6).toNat ≤ 59) ∧ ¬(1 ≤ (60#6).toNat ∧ (60#6).toNat ≤ 59) := by decide

/-- O6: a second below 59, the second 59, and a running silence timer. -/
theorem test_hyp_clock : fresh.mode = .normal ∧ fresh.clock.second < 59 ∧ ¬(bayIn .held).clock.second < 59
    ∧ (bayIn .held).clock.silence = some 900000000 := by decide

/-- O7: TIME in range at its last minute and second, one minute and one second out of range, the own number, and the minute
that the clock holds already. -/
theorem test_hyp_time : fresh.line.tx = none ∧ (61#6).toNat ≠ fresh.latch.station ∧ (34#6).toNat = fresh.latch.station
    ∧ ((1439#16).toNat ≤ 1439 ∧ (59#8).toNat ≤ 59) ∧ ¬((1440#16).toNat ≤ 1439 ∧ (59#8).toNat ≤ 59)
    ∧ ¬((1439#16).toNat ≤ 1439 ∧ (60#8).toNat ≤ 59)
    ∧ (320#16).toNat = (bayIn .held).clock.minute ∧ (bayIn .held).clock.status = .valid ∧ fresh.clock.status ≠ .valid
    ∧ ((bayIn .standby).bay.state = .standby ∧ (bayIn .standby).bay.roster.isSome = true) := by decide

/-- O7: a TIME that shifts the minute purges the cache and issues the minute event; one that makes the clock VALID takes a bay in
STANDBY with a roster copy on, its watches ARMED, and the minute event then passes that of the window (R7, R9, R177). -/
theorem test_timeAdopted (p : Part)
    (h : p = { bayIn .standby with
      clock := { minute := 300 }
      cache := { entries := [{ coach := 1, departure := 289, target := 200, run := 7 }] } }) :
    (adoptTime 341 0 p).cache.entries = [] ∧ openState (adoptTime 341 0 p).bay.state = true
    ∧ (adoptTime 341 0 p).bay.window = true ∧ (adoptTime 300 9 p).bay.windowWatch = .armed
    ∧ (adoptTime 300 9 p).cache = p.cache ∧ (adoptTime 300 9 p).bay.window = false := by
  subst h
  decide

/-- O8: M at both ends of its range; a watch at its threshold and above it. -/
theorem test_hyp_minutes : minutesTo 0 1379 = 1379 ∧ minutesTo 0 1380 = -60 ∧ minutesTo 320 345 = 25
    ∧ evaluateWatch .armed 20 20 = (.passed, true) ∧ evaluateWatch .passed 21 20 = (.armed, false) := by decide

/-- O9: a station free to send, with each kind next, with an ASK that is passed over, and with nothing pending; and one that may
not begin, for each reason. -/
theorem test_hyp_attempt : fresh.mode = .normal ∧ fresh.line.tx = none ∧ fresh.line.muted = none ∧ fresh.line.receiving = none
    ∧ (sending .load fresh).line.tx.isSome = true ∧ ({ fresh.line with muted := some 60 } : Line).muted.isSome = true
    ∧ ({ fresh.line with receiving := some 40 } : Line).receiving.isSome = true
    ∧ Part.nextKind { fresh with line := { flags := { shed := true, load := true } } } = some .shed
    ∧ Part.nextKind fresh = some .load
    ∧ Part.nextKind { fresh with line := { flags := { baystate := true } } } = some .baystate
    ∧ Part.nextKind { fresh with line := { flags := { ask := true } }, cache := { want := some 5000 } } = some .ask
    ∧ Part.nextKind { fresh with line := { flags := { ask := true } }, orders := { jobs := [job .taken] } } = some .report
    ∧ Part.nextKind { fresh with line := {  flags := { ask := true } } } = none := by decide

/-- O9: the start of a REPORT fixes the total of the head job (R195). -/
theorem test_reportStart (p : Part)
    (h : p = { fresh with line := { flags := {} }, orders := { jobs := [{ job .taken with show? := some .peers, total := none }] } }) :
    (attemptStarts p).orders.jobs.map (·.total) = [some 1] := by
  subst h
  decide

/-- O10: a head job without a total and one with, a SHOW with members, with none, and past its last. -/
theorem test_hyp_report : (job .taken).total = some 1 ∧ ({ job .taken with total := none } : Job).total = none
    ∧ ({ job .taken with show? := some .peers } : Job).show?.isSome
    ∧ Part.itemOf fresh { job .taken with show? := some .peers, bare := true } = noneItem
    ∧ Part.itemOf fresh { job .taken with show? := some .plan, cursor := 1 } = goneItem
    ∧ (Part.itemOf fresh { job .taken with show? := some .plan }).kind = 5
    ∧ ((bayIn .held).lamps.filter fun l => l.fit.isSome).length = 1
    ∧ (Faults.listed { coach := [⟨⟨3, 18, .active, 2, some 77, 0⟩, .block, 7⟩], bay := [⟨4, .warn, 300, 8⟩] })[1]?
        = some (.bay ⟨4, .warn, 300, 8⟩)
    ∧ (withPeers [peer 17 1 3 .live] fresh).peers.entries[0]? = some (peer 17 1 3 .live) := by decide

/-- O10: the LAMP item of the fitted lamp, as it goes out for a SHOW of lamps. -/
theorem test_lampItem :
    (Part.compose { bayIn .held with orders := { jobs := [{ job .taken with show? := some .lamps }] } } .report).drop 4
      = [2, 0, 0, 100, 255, 255, 1, 59, 3, 0, 0] := by decide

/-- O10: the age of a PEER item is rounded down, and is 179 at 180 s (notes/assumptions/42). -/
theorem test_peerAge (p : Part) (h : p = fresh) :
    [999999, 179999999, 180000000].map (fun t => (Part.peerItem { p with osc := t } (peer 17 1 3 .ghost)).content.getLast?)
      = [some 0, some 179, some 179] := by
  subst h
  decide

/-- R16: after a loss the station begins no frame while the frame that it lost to is on the line. -/
theorem test_lossThenAttempt (p : Part) (h : p = arbitrationIsLost 1 (sending .load fresh)) :
    p.line.receiving = some 0 ∧ attemptStarts p = p := by
  subst h
  decide

/-- O11: a LOAD that drives its second arbitration bit recessive and its first dominant, differences at a bit of the header
and at bit 10, and both sides of the sixteenth fault. -/
theorem test_hyp_loss : (sending .load fresh).line.tx = some (sent .load)
    ∧ (arbitrationOf (sendKindCode .load) 34).testBit (8 - (1 : Fin 9).val) = true
    ∧ (Part.drivenBits fresh (sent .load))[1]? = some false
    ∧ (Part.drivenBits fresh (sent .load))[10]? = some false ∧ (Part.drivenBits fresh (sent .load))[69]?.isSome = true
    ∧ ({ fresh.line with faults := 14 } : Line).faults < 15 ∧ 15 ≤ ({ fresh.line with faults := 15 } : Line).faults := by
  decide

/-- O12: the timers run, with and without a frame of the kind in flight; a self-test due and not due. -/
theorem test_hyp_timers : ({ fresh.line with muted := some 60, loadRefresh := some 20, baystateRefresh := some 60 } : Line).muted
      = some 60
    ∧ Part.sending (sending .load fresh) = some .load ∧ Part.sending fresh ≠ some .load
    ∧ Part.sending (sending .baystate fresh) = some .baystate ∧ (lockShed fresh).share.shedLock = some 60000000
    ∧ fresh.measure.selfTest ≠ .notDue ∧ (bayIn .held).measure.selfTest = .notDue := by decide

/-- O13: a frame of each kind in flight, and a REPORT whose job has more items, none, or an outcome that goes out PENDING. -/
theorem test_hyp_completion : (sent .report).kind = .report ∧ (sent .load).kind = .load
    ∧ ({ job .taken with total := some 3 } : Job).cursor + 1 < 3 ∧ ¬(job .taken).cursor + 1 < (job .taken).total.getD 1
    ∧ carriesPending (sent .report).payload = false
    ∧ carriesPending (Part.reportPayload fresh (job .pending)) = true ∧ (job .pending).outcome = .pending
    ∧ (job (.refused .moving)).outcome ≠ .pending ∧ ([] : List Job).length < 4 := by decide

/-- O14: a frame with a bad check, one with a length that is not its kind's, and a counter at its end. -/
theorem test_hyp_corrupt :
    crc16 (coveredBits goodFrame.arbitration.toNat goodFrame.length.toNat goodFrame.payload) ≠ (0#16 : Word16)
    ∧ (4#4).toNat ≠ payloadSize (goodFrame.arbitration.toNat / 64)
    ∧ ({ fresh.line with corrupt := 65535 } : Line).corrupt ≤ 65535 := by decide

/-- O14 and O15: the own number, another, the terminals and sender 0; the station transmitting. -/
theorem test_hyp_senders : senderOf (.askFrame 34 5000) = some 34#6 ∧ (34#6).toNat = fresh.latch.station
    ∧ (sending .load fresh).line.tx.isSome = true ∧ (60#6).toNat ≠ fresh.latch.station ∧ 60 ≤ (60#6).toNat
    ∧ ((0#6).toNat = 0 ∧ (0#6).toNat ≠ fresh.latch.station) := by decide

/-- O16: a LOAD of the own group and a BAYSTATE of the own lane, from a peer that is known and from one that is new to a table
with room. -/
theorem test_hyp_qualify : PeerRow 17 (.loadFrame 17 (loadOf 2)) (PeerFields.mk 17 5 1 2 0 (.load ⟨12, 3, 9⟩))
    ∧ PeerRow 17 (.baystateFrame 17 (bayOf 5)) (PeerFields.mk 17 5 1 2 0 (.bay .empty))
    ∧ (findPeer (17#6).toNat (withPeers [peer 17 1 3 .live] fresh).peers.entries).isSome = true
    ∧ (withPeers [] fresh).peers.entries.length < 31
    ∧ (PeerFields.mk 17 5 1 2 0 (.load ⟨12, 3, 9⟩)).part = .load ⟨12, 3, 9⟩ :=
  ⟨.load _ _ (by decide), .bay _ _ (by decide), by decide, by decide, rfl⟩

/-- O16: a LOAD with a draw that takes the sum above the peer's limit of 32 A starts the shed lock and raises SHED (R62, R63). -/
theorem test_shedCheck (p : Part)
    (h : p = { fresh with peers := { entries := [peer 17 1 33 .live] } }) :
    (shedCheck p).share.shedLock = some 60000000 ∧ (shedCheck p).line.flags.shed = true := by
  subst h
  decide

/-- O17: a frame of another group and lane; a new peer that finds 31 entries, all LIVE or one a GHOST; a silent peer with a
draw, one without, and a silent GHOST; each field just out of its range. -/
theorem test_hyp_noPlace : PeerRow 40 (.loadFrame 40 { loadOf 1 with lane := 6 }) (PeerFields.mk 40 6 1 1 0 (.load ⟨12, 3, 9⟩))
    ∧ (fullTable .live).length = 31 ∧ findPeer (40#6).toNat (fullTable .live) = none
    ∧ (∀ e ∈ fullTable .live, e.status = .live) ∧ (∃ e ∈ fullTable .ghost, e.status = .ghost)
    ∧ PeerInv (withPeers (fullTable .live) fresh) ∧ PeerInv (withPeers (fullTable .ghost) fresh)
    ∧ (∃ l, (peer 17 1 3 .live).load = some l ∧ 0 < l.draw) ∧ (peer 17 1 0 .live).load = some ⟨12, 0, 9⟩
    ∧ findPeer (17#6).toNat (withPeers [peer 17 1 3 .ghost] fresh).peers.entries = some (peer 17 1 3 .ghost)
    ∧ (15 < (16#8).toNat ∧ 63 < (64#8).toNat ∧ 7 < (8#8).toNat) :=
  ⟨.load _ _ (by decide), by decide, by decide, by decide, by decide, by unfold PeerInv; decide, by unfold PeerInv; decide,
    ⟨_, rfl, by decide⟩, by decide, by decide, by decide⟩

/-- O17: a peer that evicts the oldest GHOST is entered with the part of its frame alone (R37, R38). -/
theorem test_evicts (p : Part) (h : p = peerArrives ⟨40, 5, 1, 2, 0, .load ⟨12, 3, 9⟩⟩ (withPeers (fullTable .ghost) fresh)) :
    findPeer 40 p.peers.entries = some { peer 40 1 3 .live with bayState := none } ∧ findPeer 1 p.peers.entries = none := by
  subst h
  decide

/-- O18: a lane 0 station, a station at depth 1, one with an ahead position, free and occupied. -/
theorem test_hyp_lane : ({ latch with lane := 0 } : Latch).lane = 0 ∧ ({ latch with depth := 1 } : Latch).depth ≤ 1
    ∧ latch.lane ≠ 0 ∧ 1 < latch.depth
    ∧ Part.laneView (withPeers [peer 17 1 3 .live] fresh) = [.free]
    ∧ Part.laneView (withPeers [{ peer 17 1 3 .live with bayState := some .held }] fresh) = [.occupied] := by decide

/-- O19: contenders of distinct numbers, and a table in order. -/
theorem test_hyp_contenders : ((Part.contenderList (withPeers [peer 17 1 3 .live] fresh) 30 9).map (·.station)).Nodup
    ∧ Part.contenderList (withPeers [peer 17 1 3 .live] fresh) 30 9 = [⟨17, 12, 9⟩, ⟨34, 30, 9⟩]
    ∧ PeerInv (withPeers [peer 17 1 3 .live] fresh) :=
  ⟨by decide, by decide, by unfold PeerInv; decide⟩

/-- O20 and O21: a boundary with a claim just settled and one that is not, a rise, a state that gives 0 and one that does not,
an observed sum above the feeder limit and one that is not. -/
theorem test_hyp_grant : (∃ t, some (12 : Moment) = some t ∧ t + 20000000 ≤ 12000012 + 8000000)
    ∧ ¬(13 + 20000000 ≤ (12000012 : Nat) + 8000000)
    ∧ (False ↔ (bayIn .held).bay.state = .empty ∨ (bayIn .held).bay.state = .coupled ∨ (bayIn .held).bay.state = .cleared)
    ∧ (True ↔ fresh.bay.state = .empty ∨ fresh.bay.state = .coupled ∨ fresh.bay.state = .cleared)
    ∧ Part.observedSum fresh ≤ Part.feederLimitInUse fresh
    ∧ Part.feederLimitInUse (withPeers [peer 17 1 33 .live] fresh) < Part.observedSum (withPeers [peer 17 1 33 .live] fresh) :=
  ⟨⟨12, rfl, by decide⟩, by decide, by decide, by decide, by decide, by decide⟩

/-- O21: the grant rises at a boundary under a claim 20 s old. -/
theorem test_grantRises :
    (Part.share (boundary { bayIn .held with
      plan := { demand := 40, urgency := 9, mode := .heat }
      share := { (bayIn .held).share with demand := 40, claim := some 0 }
      heat := { (bayIn .held).heat with frameStart := 16000000 } })).ga = 40 := by decide

/-- O20: under the same claim the first boundary after an immediate zero gives 0, and the next one rises (R67, R77). -/
theorem test_zeroHeld (p : Part)
    (h : p = boundary { immediateZero (bayIn .held) with
      plan := { demand := 40, urgency := 9, mode := .heat }
      share := { (immediateZero (bayIn .held)).share with demand := 40, claim := some 0 }
      heat := { (bayIn .held).heat with frameStart := 16000000 } }) :
    p.share.ga = 0 ∧ p.heat.duty = 0 ∧ p.share.claim = some 0 ∧ p.share.zeroed = false ∧ (boundary p).share.ga = 40 := by
  subst h
  decide

/-- O22: a SHED for the own group, with spare bits set, and for another. -/
theorem test_hyp_shed : (6#8).toNat % 4 = latch.group ∧ (1#8).toNat % 4 ≠ latch.group ∧ (17#6).toNat ≠ latch.station
    ∧ 1 ≤ (17#6).toNat ∧ (17#6).toNat ≤ 59 := by decide

/-- A part whose sweep is REQUESTED. -/
def requested : Part := { bayIn .held with sweep := { status := .requested } }

/-- O23: a sweep REQUESTED with no LAMPS in flight, with every condition failing first, and with all of them met; a lamp fitted
and none; a self-test at its count. -/
theorem test_hyp_sweepStart : requested.sweep.status = .requested ∧ requested.link.inFlight = none
    ∧ Part.sweepBar requested = none ∧ Part.sweepBar { requested with bay := { requested.bay with state := .cleared } } = some .wrongState
    ∧ Part.sweepBar { requested with link := { requested.link with state := .lost } } = some .linkDown
    ∧ Part.sweepBar { requested with link := { requested.link with holdConfirmed := false } } = some .notHeld
    ∧ Part.sweepBar { requested with measure := { requested.measure with chain := .faulty } } = some .chainFault
    ∧ (∃ l ∈ requested.lamps, l.fit.isSome ∧ l.position < 16) ∧ (∀ l ∈ clearedLamps, l.fit = none)
    ∧ (boundary requested).sweep.status = .running .first (.energising 0 1#4)
    ∧ nextGroup [0, 5] 1 = some 1 ∧ nextGroup [0, 5] 2 = none ∧ maskOf 1 [0, 5, 7] = 0b1010#4
    ∧ (moveOn .first 1 { requested with sweep := { status := .requested, work := [⟨9, (10, .low), none⟩] } }).sweep.status
        = .running .second (.energising 2 0b0010#4) := by decide

/-- O23: while a LAMPS is in flight a REQUESTED sweep is not judged; the frame count rises; with couple sense CABIN is begun at
once at a duty of 0 and OUTSIDE stays owed (R86, R87, R145). -/
theorem test_boundaryWaits (p : Part) (h : p = boundary (flying .sweep .lamps requested)) :
    p.sweep.status = .requested ∧ p.measure.frames = 1 ∧ p.measure.converting = some .cabin
    ∧ p.measure.owedCabin = false ∧ p.measure.owedOutside = true := by
  subst h
  decide

/-- O24: a step below the last, on and off, its slot taken, idle, and for each request of the arbiter's order. -/
theorem test_hyp_stepStart : (bayIn .held).heat.step < 63 ∧ ({ fresh.heat with step := 62 } : Heat).step < 63
    ∧ 1 < ({ fresh.heat with duty := 2 } : Heat).duty ∧ fresh.heat.duty ≤ 1
    ∧ fresh.measure.converting.isSome = true ∧ (bayIn .held).measure.converting = none
    ∧ (bayIn .held).measure.ending = none ∧ Part.slotFor (bayIn .held) = none
    ∧ Part.slotFor { fresh with measure := { fresh.measure with converting := none } } = some .reflo
    ∧ Part.slotFor { fresh with measure := { fresh.measure with selfTest := .notDue } } = some .outside
    ∧ Part.slotFor { bayIn .held with measure := { (bayIn .held).measure with owedCabin := true } } = some .cabin
    ∧ Part.slotFor { bayIn .held with measure := { (bayIn .held).measure with marks := [3, 5] } } = some (.lamp 3) := by
  decide

/-- O25: a REFLO conversion under way; a REFHI conversion of the step in progress, and one carried over the boundary with its
self-test still due and with a new one. The codes stand on both sides of their bounds. -/
theorem test_hyp_selfTest : fresh.measure.converting = some .reflo
    ∧ ({ fresh.measure with converting := some (.refhi 8) } : Measure).ending ≠ some (.refhi 8)
    ∧ ({ fresh.measure with ending := some (.refhi 8), selfTest := .refhiPending } : Measure).selfTest = .refhiPending
    ∧ ({ fresh.measure with ending := some (.refhi 8) } : Measure).selfTest ≠ .refhiPending
    ∧ selfTestPasses 8 1015 = true ∧ selfTestPasses 9 1015 = false ∧ selfTestPasses 8 1014 = false := by decide

/-- O25: what a self-test that ends tells the bay: GOOD to FAULTY and FAULTY to GOOD are told, and the evaluation follows; UNTESTED
to FAULTY is not (R90, R179). -/
theorem test_chainTold (p : Part)
    (h : p = { bayIn .held with measure := { (bayIn .held).measure with converting := some (.refhi 8) } }) :
    (refhiEnds 1014 p).bay.reasons.chainFault = true
    ∧ (refhiEnds 1015 { p with measure := { p.measure with chain := .faulty }
                               bay := { p.bay with reasons := { chainFault := true } } }).bay.state = .ready
    ∧ (refhiEnds 1014 { p with measure := { p.measure with chain := .untested } }).bay = p.bay
    ∧ (refhiEnds 1015 p).bay = p.bay := by
  subst h
  decide

/-- O26: each class of a temperature code at its bounds, a run that grows to 4 and one of the other class, a ring with room and
a full one, the chain GOOD and not. -/
theorem test_hyp_temperature : [15, 16, 1000, 1001, 1007, 1008].map classify
      = [.short, .valid 16, .valid 1000, .valid 1000, .valid 1000, .open]
    ∧ (bayIn .held).measure.chain = .good ∧ fresh.measure.chain ≠ .good
    ∧ extendRun .short (some (.short, 3)) = (.short, 4) ∧ extendRun .open (some (.short, 3)) = (.open, 1)
    ∧ ([1, 2, 3] : List Nat).length < 4 ∧ 4 ≤ ([1, 2, 3, 4] : List Nat).length
    ∧ ({ fresh.measure with converting := some .cabin } : Measure).ending ≠ some .cabin := by decide

/-- O26: the average of a ring, its rounding and its cap, and each cause (R95). -/
theorem test_channel : [[16], [400, 401], [1000, 1000, 1000, 999], []].map (fun r => Channel.reading { ring := r })
      = [some (-384), some 1, some 600, none]
    ∧ [({ status := .short, stale := 16 } : Channel), { status := .open }, {}, { ring := [400], stale := 16 }, { ring := [400] }].map
        Channel.cause = [.short, .open, .noReading, .stale, .usable] := by decide

/-- The measurement unit with a cabin reading of `c` tenths above freezing. -/
def warmed (c : Nat) (p : Part) : Part := { p with measure := { p.measure with cabin := { ring := [c + 400] }, outside := { ring := [400] } } }

/-- O27: no cabin reading, a cabin at its target, a net rate below 4, and one of 4 or more. -/
theorem test_hyp_lead : Channel.usable (bayIn .held).measure.cabin = none
    ∧ Channel.usable (warmed 200 (bayIn .held)).measure.cabin = some 200
    ∧ (recompute .minute (bayIn .held)).plan.lead = some 120
    ∧ (recompute .minute (warmed 200 (bayIn .held))).plan.lead = some 0
    ∧ (recompute .minute (warmed 100 (bayIn .held))).plan.lead = some 34
    ∧ (recompute .minute { warmed 100 (bayIn .held) with
        bay := { (bayIn .held).bay with identity := some { coach with h := 21 } } }).plan.lead = some 240
    ∧ (recompute .minute (bayIn .standby)).plan.lead = none := by decide

/-- O28: the states of the mode's table, heating begun and not; a watch that is ARMED with M at most the lead. -/
theorem test_hyp_mode : (recompute .minute (bayIn .cleared)).plan.mode = .off
    ∧ (recompute .minute (bayIn .standby)).plan.mode = .frost
    ∧ (recompute .minute { bayIn .held with plan := { watch := .armed } }).plan.begun = true
    ∧ (recompute .minute (bayIn .held)).plan.begun = false
    ∧ (recompute .minute { warmed 200 (bayIn .held) with plan := { watch := .passed, begun := true } }).plan.mode = .maintain
    ∧ (recompute .minute { warmed 199 (bayIn .held) with plan := { watch := .passed, begun := true } }).plan.mode = .heat
    ∧ (recompute (.roster (bayIn .held).bay.roster) { bayIn .held with
        plan := { watch := .passed, begun := true, mode := .heat }
        bay := { (bayIn .held).bay with roster := some { departure := 600, target := 200, run := 7 } } }).plan.begun = false
    ∧ Part.minutesToDeparture (bayIn .held) = some 25
    ∧ ((recompute .minute { bayIn .releasing with plan := { frost := true, mode := .frost } }).plan.frost,
        (recompute .minute { bayIn .releasing with plan := { frost := true, mode := .frost } }).plan.mode)
      = (false, .frost) := by decide

/-- O28: heating begins at the minute event at which M, 25, is first at most the lead of 34; a PASSED watch is armed again above a
lead of 0; the entry from STANDBY begins the watch (R114, R115). -/
theorem test_heatWatch (p : Part) (h : p = warmed 100 (bayIn .held)) :
    ((recompute .minute { p with plan := { watch := .armed } }).plan.watch,
        (recompute .minute { p with plan := { watch := .armed } }).plan.begun) = (.passed, true)
    ∧ (recompute .minute { warmed 200 p with osc := 7, plan := { watch := .passed, begun := true } }).plan.rearmed = some 7
    ∧ (recompute (.bayState .standby) { p with plan := { watch := .passed, begun := true } }).plan.begun = false := by
  subst h
  decide

/-- A copy that leaves M above every lead. -/
def later : RosterCopy := { departure := 600, target := 200, run := 7 }

/-- O28: a later departure ends heating after a minute event of the same moment that left the watch ARMED, whichever minute event
armed it, and does not where no minute event meets it (R115, R121, notes/assumptions/25). -/
theorem test_laterDeparture (p : Part)
    (h : p = { warmed 200 (bayIn .held) with plan := { begun := true, mode := .maintain } }) :
    (setCopy later (recompute .minute { p with plan := { p.plan with watch := .passed } })).plan.begun = false
    ∧ (setCopy later (recompute .minute { p with plan := { p.plan with watch := .armed } })).plan.begun = false
    ∧ (setCopy later { p with plan := { p.plan with watch := .armed } }).plan.begun = true
    ∧ Part.minuteDue p = false := by
  subst h
  decide

/-- O28: a later departure that is taken while a minute event of this moment is still due ends heating too, and heating stays ended
after that minute event (R121). -/
theorem test_laterDepartureFirst (p : Part)
    (h : p = { warmed 200 (bayIn .held) with osc := 1000000, plan := { watch := .armed, begun := true, mode := .maintain } }) :
    Part.minuteDue p = true ∧ (setCopy later p).plan.begun = false
    ∧ (recompute .minute (setCopy later p)).plan.begun = false
    ∧ (recompute .minute (setCopy later p)).plan.watch = .armed := by
  subst h
  decide

/-- O28: a part with a minute event due, one with it taken, and a copy that departs later than the bay's in both. -/
theorem test_hyp_departsLater (p q : Part) (h : p = { bayIn .held with osc := 1000000 }) (hq : q = bayIn .held) :
    MinuteStillDue p ∧ DepartsLater p { departure := 345, target := 200, run := 7 } later
    ∧ ¬MinuteStillDue q ∧ DepartsLater q { departure := 345, target := 200, run := 7 } later
    ∧ q.bay.roster = some { departure := 345, target := 200, run := 7 } ∧ q.bay.identity.isSome = true := by
  subst h hq
  unfold DepartsLater
  decide

/-- O28: a change of the run code or of the target alone, and an earlier departure, leave heating as it is where the watch is ARMED,
with the minute event of the moment taken and still due (R115, notes/assumptions/25). -/
theorem test_sameDeparture (p : Part)
    (h : p = { warmed 200 (bayIn .held) with osc := 1000000, plan := { watch := .armed, begun := true, mode := .maintain } }) :
    (recompute .minute p).plan.rearmed = some p.osc ∧ Part.minuteDue p = true
    ∧ [345, 344].all (fun d =>
        (setCopy { departure := d, target := 110, run := 8 } p).plan.begun
          && (setCopy { departure := d, target := 110, run := 8 } (recompute .minute p)).plan.begun) = true := by
  subst h
  decide

/-- O28: a coach 60 minutes overdue whose departure moves to ten minutes from now ends heating in either order, though M of the old
departure turns to tomorrow's at the minute event between them (R11, R121). -/
theorem test_overdueMovedLater (p q : Part)
    (h : p = { warmed 200 (bayIn .held) with
      osc := 1000000, clock := { (bayIn .held).clock with minute := 405 }
      plan := { watch := .passed, begun := true, mode := .maintain } })
    (hq : q = { p with clock := { p.clock with minute := 406, second := 0, secondEnds := 2000000 } }) :
    (setCopy { departure := 415, target := 200, run := 7 } p).plan.begun = false
    ∧ (recompute .minute q).plan.rearmed = some q.osc
    ∧ (setCopy { departure := 415, target := 200, run := 7 } (recompute .minute q)).plan.begun = false := by
  subst h hq
  decide

/-- O29: each mode with its demand, and the heater strap low. -/
theorem test_hyp_demand : (Part.heaterCurrent (bayIn .held)).getD 0 = 40
    ∧ (recompute .minute (bayIn .standby)).plan.demand = 10
    ∧ (recompute .minute { bayIn .held with plan := { watch := .armed } }).plan.urgency = 15
    ∧ (recompute .minute { bayIn .held with plan := { watch := .armed }, latch := { latch with heater := false } }).plan.demand
        = 0
    ∧ (recompute .minute { warmed 189 (bayIn .held) with plan := { watch := .passed, begun := true, mode := .maintain } }).plan.demand
        = 40 := by decide

/-- O29: clearance cold is judged at the entry to CLEARED and kept there; the remarks of the sensors (R103, R104, R119). -/
theorem test_remarksJudged :
    (recompute (.bayState .releasing) (warmed 179 (bayIn .cleared))).remarks = { cold := true }
    ∧ (recompute (.bayState .releasing) (warmed 180 (bayIn .cleared))).plan.clearanceCold = false
    ∧ (recompute .minute { warmed 180 (bayIn .cleared) with plan := { clearanceCold := true } }).remarks.cold = true
    ∧ (recompute .minute (bayIn .held)).remarks = { cabinSensor := true, outsideSensor := true }
    ∧ (recompute .minute (bayIn .held)).line.marks = (bayIn .held).line.marks := by decide

/-- O30: a request in each slot that the arbiter finds. -/
theorem test_hyp_arbiter : Link.choice { (bayIn .held).link with slots := { keeper := some ⟨.ping, 0⟩ } } = some (.keeper, ⟨.ping, 0⟩)
    ∧ Link.choice { (bayIn .held).link with slots := { bay := some ⟨.hold, 0⟩, sweep := some ⟨.lamps, 17⟩ } } = some (.bay, ⟨.hold, 0⟩)
    ∧ Link.choice { (bayIn .held).link with slots := { sweep := some ⟨.lamps, 17⟩, faults := some ⟨.fcount, 0⟩ } }
        = some (.sweep, ⟨.lamps, 17⟩)
    ∧ Link.choice { (bayIn .held).link with slots := { faults := some ⟨.fread, 1⟩ } } = some (.faults, ⟨.fread, 1⟩)
    ∧ Link.choice { (bayIn .held).link with slots := { faults := some ⟨.fclear, 0⟩ } } = some (.faults, ⟨.fclear, 0⟩)
    ∧ Link.choice { state := .starting, slots := { keeper := some ⟨.ping, 0⟩, bay := some ⟨.hold, 0⟩ } } = some (.keeper, ⟨.ping, 0⟩)
    ∧ Link.choice { (bayIn .held).link with slots := { keeper := some ⟨.ident, 0⟩ } } = some (.keeper, ⟨.ident, 0⟩)
    ∧ Link.choice { (bayIn .held).link with slots := { bay := some ⟨.release, 0⟩ } } = some (.bay, ⟨.release, 0⟩) := by decide

/-- O31: words with no command in flight and with the link DOWN; a wait count one below its end; a word that may be gathered. -/
theorem test_hyp_words : WordRow .idle .idle ∧ WordRow (.garbledWord 0) .garbled ∧ fresh.link.state = .down
    ∧ (bayIn .held).link.inFlight = none ∧ ({ (bayIn .held).link with waitCount := 62 } : Link).waitCount < 63
    ∧ ([] : List Word16).length < mostWords .fcount ∧ (List.replicate 20 (0#16 : Word16)).length < mostWords .ident :=
  ⟨.idle, .garbled _ (by decide), by decide, by decide, by decide, by decide, by decide⟩

/-- The part with the link just started at 50 ms. -/
def starting : Part := coupleRises fresh

/-- O31: beat 1 of STARTING has its coach word, and PING is its station word (section 8.7). -/
theorem test_firstBeat : starting.link.heard = false ∧ starting.osc < starting.link.beat + 2000
    ∧ (coachWord .idle starting).link.beat = 50000 ∧ (chosen .ping (coachWord .idle starting)).link.beat = 50000
    ∧ (chosen .ping (coachWord .idle starting)).link.stationWord = cmdWord { code := .ping }
    ∧ (coachWord .idle (chosen .ping (coachWord .idle starting))).link.beat = 52000 := by decide

/-- O32: each way a command fails, in each link state. -/
theorem test_hyp_failure (f : InFlight) (h : f = { requester := .bay, command := ⟨.hold, 0⟩ }) :
    FailingRow { (bayIn .held).link with waitCount := 63 } f .idle ∧ FailingRow { (bayIn .held).link with waitCount := 63 } f .wait
    ∧ FailingRow (bayIn .held).link f .waitCountExpiry ∧ FailingRow (bayIn .held).link f (.garbledWord 0)
    ∧ FailingRow (bayIn .held).link f (.data 5) ∧ FailingRow (bayIn .held).link f (.last 5)
    ∧ FailingRow { (bayIn .held).link with gathered := [1] } f .ack ∧ FailingRow (bayIn .held).link f (.refuse 1)
    ∧ FailingRow { (bayIn .held).link with gathered := coachWords.dropLast } { f with command := ⟨.ident, 0⟩ } (.last 0)
    ∧ f.attempt = .first ∧ ({ f with attempt := .second } : InFlight).attempt = .second := by
  subst h
  exact ⟨.idle (by decide), .wait (by decide), .count, .garbled _ (by decide), .data _ (by decide), .last _ (by decide),
    .ack (by decide), .refuse _ (by decide), .identity _ (by decide) (by decide), by decide, by decide⟩

/-- A RELEASE in its second attempt in a bay in RELEASING, a revocation DEFERRED or none. -/
def lastRelease (r : Revocation) : Part :=
  { bayIn .releasing with
    bay := { (bayIn .releasing).bay with revocation := r }
    link := { (bayIn .releasing).link with
      inFlight := some { requester := .bay, command := { code := .release }, attempt := .second } } }

/-- O32: the RELEASE that fails returns the bay to HELD with LINK_LOST, and ORDER_HOLD where the revocation was DEFERRED (R184). -/
theorem test_releaseFails : (coachWord .garbled (lastRelease .deferred)).bay.state = .held
    ∧ (coachWord .garbled (lastRelease .deferred)).bay.reasons = { linkLost := true, orderHold := true }
    ∧ (coachWord .garbled (lastRelease .none)).bay.reasons = { linkLost := true } := by decide

/-- O33: recovery beats with a command and, in STARTING, without one; each link timer running in its state. -/
theorem test_hyp_recovery : ({ (bayIn .held).link with recovery := some 0 } : Link).recovery = some 0
    ∧ ({ state := .starting, recovery := some 0 } : Link).inFlight = none
    ∧ ({ state := .starting, startTimer := some 5000000 } : Link).startTimer = some 5000000
    ∧ ({ state := .lost, lostTimer := some 5000000 } : Link).lostTimer = some 5000000
    ∧ (bayIn .held).link.keepAlive = some 5000000 := by decide

/-- O33: the PING of a lost PING timer that expires within a beat goes out in the next one (R134). -/
theorem test_lostPing (p : Part)
    (h : p = { bayIn .held with
      osc := 60500, link := { state := .lost, lostTimer := some 60600, beat := 60000, heard := true } }) :
    (lostPingExpires p).link.slots.keeper = some ⟨.ping, 0⟩ ∧ (lostPingExpires p).link.beat = 62000
    ∧ (chosen .ping (lostPingExpires p)).link.beat = 62000 ∧ (chosen .ping (lostPingExpires p)).osc = 62000 := by
  subst h
  decide

/-- O34 and O35: the commands that take an ACK and the refusals that fit, in the states their clauses name. -/
theorem test_hyp_endings : [CommandCode.ping, .hold, .release, .lamps, .fclear].all takesAck = true
    ∧ takesRefuse .hold (refuseReasonOf 2) = true ∧ takesRefuse .release (refuseReasonOf 1) = true
    ∧ takesRefuse .lamps (refuseReasonOf 1) = true ∧ takesRefuse .fread (refuseReasonOf 3) = true
    ∧ heldCoach (bayIn .standby).bay.state = true ∧ (bayIn .releasing).bay.state = .releasing
    ∧ ({ (bayIn .releasing).bay with revocation := .deferred } : Bay).revocation = .deferred
    ∧ ({ (bayIn .cleared).bay with revocation := .requested } : Bay).revocation = .requested
    ∧ (flying .bay .release (bayIn .releasing)).link.inFlight = some { requester := .bay, command := { code := .release } } := by
  decide

/-- O34: RELEASE answered in RELEASING clears the bay. -/
theorem test_release : (coachWord .ack (flying .bay .release (bayIn .releasing))).bay.state = .cleared := by decide

/-- O34: the settle wait of a LAMPS answered ACK, with a filament lamp and with LEDs alone (R147). -/
theorem test_settleWait (p : Part) (h : p = bayIn .held) :
    Part.settleWait p 0 1#4 = 250000
    ∧ Part.settleWait { p with lamps := p.lamps.map fun l => { l with fit := l.fit.map fun x => (.led, x.2) } } 0 1#4 = 50000 := by
  subst h
  decide

/-- O34 and O35: with a coach in the bay an evaluation follows HOLD, answered or refused (R179, R182). -/
theorem test_holdEvaluates (p : Part)
    (h : p = flying .bay .hold { bayIn .held with
      bay := { (bayIn .held).bay with reasons := { yardHoldRefused := true }, retry := some 5 } }) :
    ((coachWord .ack p).bay.reasons, (coachWord .ack p).bay.state) = ({}, .ready)
    ∧ (coachWord (.refuse 2) p).bay.state = .held := by
  subst h
  decide

/-- O34: HOLD answered in CLEARED completes a REQUESTED revocation; with none RELEASE is placed (R182, R186). -/
theorem test_holdInCleared (p : Part) (h : p = flying .bay .hold (bayIn .cleared)) :
    (coachWord .ack { p with bay := { p.bay with revocation := .requested } }).bay.reasons = { orderHold := true }
    ∧ (coachWord .ack { p with bay := { p.bay with revocation := .requested } }).bay.state = .held
    ∧ (coachWord .ack p).link.slots.bay = some { code := .release } ∧ (coachWord .ack p).bay = p.bay := by
  subst h
  decide

/-- O35: RELEASE refused in CLEARED returns the bay to HELD, or to STANDBY where no copy is held, its watches kept (R185, R186). -/
theorem test_refusedInCleared (p : Part) (h : p = flying .bay .release (bayIn .cleared)) :
    (coachWord (.refuse 1) p).bay.reasons = { releaseRefused := true } ∧ (coachWord (.refuse 1) p).bay.state = .held
    ∧ (coachWord (.refuse 1) { p with bay := { p.bay with roster := none, readWatch := .passed } }).bay.state = .standby
    ∧ (coachWord (.refuse 1) { p with bay := { p.bay with roster := none, readWatch := .passed } }).bay.readWatch = .passed := by
  subst h
  decide

/-- O35: RELEASE refused in RELEASING returns the bay to HELD. -/
theorem test_releaseRefused : (coachWord (.refuse 1) (flying .bay .release (bayIn .releasing))).bay.state = .held := by decide

/-- O36: an identity that completes, for a bay that holds none, the same coach, and another. -/
theorem test_hyp_identity : identityOf (coachWords.dropLast ++ [100#16]) = some coach
    ∧ coachWords.dropLast.length ≤ 20 ∧ fresh.bay.identity = none ∧ (bayIn .held).bay.identity = some coach
    ∧ ({ coach with coach := 5001 } : Identity).coach ≠ coach.coach ∧ fresh.bay.roster = none
    ∧ (∀ x ∈ fresh.cache.entries, x.coach ≠ coach.coach) := by decide

/-- O37: a count of 0 and one above 0, a record with an index still to read and the last one. -/
theorem test_hyp_faultAnswers : min (0#16).toNat ((bayIn .held).faults.memory.getD 0) = 0
    ∧ 0 < min (255#16).toNat ((bayIn .held).faults.memory.getD 0) ∧ (255#16).toNat ≤ 255
    ∧ (bayIn .held).link.slots.faults = none
    ∧ ({ (bayIn .held).faults with status := .reading, toRead := some 2, nextIndex := some 0 } : Faults).nextIndex.getD 0 + 1 < 2
    ∧ 2 ≤ ({ (bayIn .held).faults with status := .reading, toRead := some 2, nextIndex := some 1 } : Faults).nextIndex.getD 0 + 1
    ∧ 1 ≤ [(0x3012#16 : Word16)].length ∧ (List.replicate 6 (0#16 : Word16)).length ≤ 6 := by decide

/-- O37: a record of state 0 and one of count 0 are rejected; records of one key merge into the earlier one's place (R158, R162). -/
theorem test_records (r : Staged) (h : r = ⟨5, 7, .stored, 2, some 9, 0⟩) :
    recordOf 0 [0x3012#16, 0x0001#16] = none ∧ recordOf 0 [0x3012#16, 0x4000#16] = none
    ∧ mergeStaged { r with state := .intermittent, count := 1, age := some 4, order := 3 } [r, { r with code := 8 }]
        = [{ r with state := .intermittent, age := some 4 }, { r with code := 8 }] := by
  subst h
  decide

/-- A part whose fault list counts, its FCOUNT in flight. -/
def counting : Part :=
  flying .faults .fcount
    { bayIn .held with faults := { (bayIn .held).faults with status := .counting, kind := some .read } }

/-- O37: a count of one record goes on to read it. -/
theorem test_count : counting.link.slots.faults = none ∧ counting.link.gathered = [] ∧ counting.faults.status = .counting
    ∧ (coachWord (.last 1) counting).faults.status = .reading := by decide

/-- A part that reads its last record, a SAFETY record staged before it. -/
def reading : Part :=
  flying .faults .fread
    { bayIn .held with faults := { (bayIn .held).faults with
        status := .reading, kind := some .read, toRead := some 2, nextIndex := some 1
        coach := [⟨⟨3, 18, .stored, 1, none, 0⟩, .warn, 200⟩], staging := [⟨5, 7, .active, 2, none, 0⟩] } }

/-- O35 and O37: FREAD refused NO_RECORD installs what is staged; the last record of a read is installed in class order, a key
held before keeping its first-read minute (R162, R163). -/
theorem test_readInstalled :
    ((coachWord (.refuse 3) reading).faults.coach.map fun e => (e.record.system, e.cls, e.firstRead)) = [(5, .warn, 320)]
    ∧ ((coachWord (.last 0x4001#16) { reading with link := { reading.link with gathered := [0x3012#16] } }).faults.coach.map
        fun e => (e.record.system, e.cls, e.firstRead)) = [(3, .block, 200), (5, .warn, 320)] := by decide

/-- O36: the last word of the same coach's identity confirms it and keeps the bay's record. -/
theorem test_identity (p : Part)
    (h : p = { flying .keeper .ident (bayIn .held) with link := { (flying .keeper .ident (bayIn .held)).link with
      gathered := coachWords.dropLast, identConfirmed := false } }) :
    (coachWord (.last 100) p).link.identConfirmed = true ∧ (coachWord (.last 100) p).bay.roster = p.bay.roster := by
  subst h
  decide

/-- O36: with no coach held it is the first: its lamps and a full read are set up, and its coach is asked for (R138, R142, R174). -/
theorem test_firstIdentity (p : Part)
    (h : p = coachWord (.last 100) { flying .keeper .ident (bayIn .coupled) with
      link := { (flying .keeper .ident (bayIn .coupled)).link with gathered := coachWords.dropLast }
      faults := {}, bay := { couple := true, state := .coupled } }) :
    p.bay.state = .standby ∧ (p.lamps.filter fun l => l.fit.isSome) = [{ position := 0, fit := some (.filament, 100), verdict := .unknown }]
    ∧ p.link.slots = { bay := some ⟨.hold, 0⟩, faults := some ⟨.fcount, 0⟩ } ∧ p.faults.status = .counting
    ∧ p.cache.want = some 5000 ∧ p.line.flags.ask = true := by
  subst h
  decide

/-- O36: another coach: the grant is 0 and held so, the slots hold what the new coach needs, and the revocation has ended (R67,
R140, R177, R193). -/
theorem test_coachChange (p : Part)
    (h : p = coachWord (.last 100) { flying .keeper .ident (bayIn .cleared) with
      link := { (flying .keeper .ident (bayIn .cleared)).link with
        gathered := 5001#16 :: (coachWords.drop 1).dropLast, slots := { sweep := some ⟨.lamps, 17⟩ } }
      bay := { (bayIn .cleared).bay with revocation := .requested }
      orders := { jobs := [job .pending], revocation := some { tag := 9, sender := 61, sent := false } } }) :
    p.share.zeroed = true ∧ p.share.ga = 0 ∧ p.bay.decoupleFlag = .departed ∧ p.bay.revocation = .none
    ∧ p.link.slots = { bay := some ⟨.hold, 0⟩, faults := some ⟨.fcount, 0⟩ }
    ∧ p.orders = { jobs := [job (.refused .wrongState)] } := by
  subst h
  decide

/-- O36: a WAITING operation resumes on the return with the same coach (R166). -/
theorem test_sameCoachResumes (p : Part)
    (h : p = coachWord (.last 100) { flying .keeper .ident (bayIn .held) with
      link := { (flying .keeper .ident (bayIn .held)).link with
        gathered := coachWords.dropLast, identConfirmed := false, holdConfirmed := false }
      faults := { (bayIn .held).faults with status := .waiting, kind := some .clearAndRead } }) :
    p.faults.status = .clearing ∧ p.link.slots = { bay := some ⟨.hold, 0⟩, faults := some ⟨.fclear, 0⟩ } := by
  subst h
  decide

/-- A sweep that runs in a phase. -/
def sweeping (pass : Pass) (phase : SweepPhase) (work : List Work) : Part :=
  { bayIn .held with sweep := { status := .running pass phase, settle := some 9, work := work } }

/-- O38: a settle wait under way; a lamp conversion with its mark the last and not the last; codes at the window's bounds. -/
theorem test_hyp_lampCodes : (sweeping .first (.settling 0 1#4) []).sweep.settle = some 9
    ∧ Part.nominalOf (sweeping .first (.converting 0 1#4) []) 0 = 100
    ∧ [61, 62, 150, 151, 1019, 1020].map (judgeLamp 100) = [.low, .pass, .pass, .high, .high, .high]
    ∧ judgeLamp 1000 1019 = .pass ∧ judgeLamp 1000 1020 = .high
    ∧ ([3, 5].filter fun m => m != 3) ≠ [] ∧ ([3].filter fun m => m != 3) = [] := by decide

/-- O25 and O45: a sweep that is aborted with the link UP: its waiting LAMPS is gone and the lights-off LAMPS is placed (R153, R154);
the entry to RELEASING keeps the count of records rejected (R165). -/
theorem test_abort (p : Part)
    (h : p = { sweeping .first (.energising 0 1#4) [⟨0, (10, .low), none⟩] with
      measure := { (bayIn .held).measure with converting := some (.refhi 9) }
      link := { (bayIn .held).link with slots := { sweep := some ⟨.lamps, 1⟩ } } }) :
    (refhiEnds 1015 p).sweep.status = .aborted ∧ (refhiEnds 1015 p).sweep.lightsOff = .waiting
    ∧ (refhiEnds 1015 p).link.slots.sweep = some ⟨.lamps, 0⟩ ∧ (refhiEnds 1015 p).sweep.work = []
    ∧ (operationEnds { p with faults := { p.faults with rejected := 3 } }).faults.rejected = 3 := by
  subst h
  decide

/-- O39: the ending's ACK, with each verdict of the working verdicts. -/
theorem test_hyp_sweepEnd : (sweeping .second .ending []).sweep.lightsOff ≠ .inFlight
    ∧ verdictOf ⟨0, (90, .pass), none⟩ = (.ok, none) ∧ verdictOf ⟨0, (10, .low), some (90, .pass)⟩ = (.flicker, some 10)
    ∧ verdictOf ⟨0, (10, .low), some (11, .low)⟩ = (.low, some 11)
    ∧ verdictOf ⟨0, (10, .low), some (500, .high)⟩ = (.high, some 500)
    ∧ ((coachWord .ack (flying .sweep .lamps (sweeping .first .ending [⟨0, (90, .pass), none⟩]))).lamps.map (·.verdict)).head?
        = some .ok := by decide

/-- O40: a sweep that runs; each operation status, bay state and link state of a fault request. -/
theorem test_hyp_requests : SweepStatus.isRunning (sweeping .first .ending []).sweep.status = true
    ∧ SweepStatus.isRunning requested.sweep.status = false
    ∧ (bayIn .held).faults.status = .idle ∧ (bayIn .releasing).bay.state = .releasing ∧ fresh.link.state = .down
    ∧ (faultRequest .read (bayIn .held)).faults.status = .counting
    ∧ (faultRequest .clearAndRead (bayIn .held)).faults.status = .clearing
    ∧ (faultRequest .read { bayIn .held with link := { state := .lost } }).faults.status = .waiting := by decide

/-- O40: a record of each class at the bound of its count. -/
theorem test_hyp_class : [(3, FaultState.active, 1), (3, .intermittent, 3), (3, .intermittent, 2), (3, .stored, 9), (5, .active, 9),
      (15, .active, 9)].map (fun x => classOf { system := x.1, code := 0, state := x.2.1, count := x.2.2, age := none, order := 0 })
    = [.block, .block, .warn, .warn, .warn, .info] := by decide

/-- A roster entry. -/
def entry (c d : Nat) : RosterEntry := { coach := c, departure := d, target := 200, run := 7 }

/-- A full cache at 05:20, departures from 06:00 on. -/
def fullCache : List RosterEntry := (List.range 16).map fun k => entry (k + 1) (360 + k)

/-- O41: M at its bound of −30 and below it; an entry of the coach held and not; room, and no room with the new one last and
not last. -/
theorem test_hyp_roster : minutesTo 320 290 = -30 ∧ minutesTo 320 289 = -31 ∧ (1439#16).toNat ≤ 1439
    ∧ (∃ x ∈ fullCache, x.coach = 16) ∧ (∀ x ∈ fullCache, x.coach ≠ 17) ∧ ([] : List RosterEntry).length < 16
    ∧ 16 ≤ fullCache.length ∧ (∀ x ∈ fullCache, RosterEntry.before 320 x (entry 17 400) = true)
    ∧ (∃ x ∈ fullCache, RosterEntry.before 320 x (entry 17 345) = false)
    ∧ coach.coach = (5000#16).toNat ∧ openState (bayIn .held).bay.state = true
    ∧ (1440 ≤ (1440#16).toNat ∧ (1440#16).toNat ≠ 2047) ∧ (1440 ≤ (65535#16).toNat ∧ (65535#16).toNat ≠ 2047)
    ∧ (2047#16).toNat = 2047 := by decide

/-- A bay in STANDBY that waits for its coach's entry. -/
def waiting : Part := { bayIn .standby with bay := { (bayIn .standby).bay with roster := none, window := false } }

/-- O41: an arrival in STANDBY begins the watches; an update that leaves M at 31 closes the window, one that leaves it at 30 does
not; an entry stored for another coach sets off the lookup (R174, R177, R180). -/
theorem test_rosterAtTheBay (p : Part)
    (h : p = { bayIn .ready with bay := { (bayIn .ready).bay with window := true, windowWatch := .passed } }) :
    (takeEntry (entry 5000 345) waiting).bay.readWatch = .armed ∧ openState (takeEntry (entry 5000 345) waiting).bay.state = true
    ∧ (takeEntry (entry 5000 351) p).bay.window = false ∧ (takeEntry (entry 5000 350) p).bay.window = true
    ∧ (takeEntry (entry 17 400) waiting).cache.want = some 5000 ∧ (takeEntry (entry 17 400) waiting).line.flags.ask = true := by
  subst h
  decide

/-- O41: an update in STANDBY with the clock INVALID and one in CLEARED set the copy and recompute the plan (R102, R172). -/
theorem test_updateRecomputes :
    (takeEntry (entry 5000 350) { bayIn .standby with clock := {}, plan := { target := some 120 } }).plan.target = some 200
    ∧ (takeEntry (entry 5000 350) { bayIn .cleared with plan := { target := some 120 } }).plan.target = some 200
    ∧ (takeCancel 5000 { bayIn .held with plan := { target := some 120 } }).plan.target = none
    ∧ (takeCancel 5000 { bayIn .held with plan := { target := some 120 } }).bay.state = .standby := by decide

/-- O42: the planner recomputes at a minute event, and the evaluation places the bay by what the watches leave (R6, R102, R179). -/
theorem test_minuteEvaluates (p : Part)
    (h : p = { bayIn .ready with
      clock := { minute := 340, status := .valid }, plan := { watch := .armed }
      bay := { (bayIn .ready).bay with windowWatch := .armed } }) :
    (minuteEvent p).bay.state = .held ∧ (minuteEvent p).bay.reasons = { laneUnknown := true }
    ∧ (minuteEvent p).plan.begun = true := by
  subst h
  decide

/-- O42: a minute event at each end: an entry at M −31, the fifth minute of asking, the fifteenth of CLEARED, and the watches at
M 30 and M 5. -/
theorem test_minuteEvent :
    (minuteEvent { bayIn .held with cache := { entries := [entry 1 289, entry 2 290] } }).cache.entries = [entry 2 290]
    ∧ (minuteEvent { waiting with cache := { want := some 5000, askCount := 4 } }).line.flags.ask = true
    ∧ (minuteEvent { bayIn .cleared with bay := { (bayIn .cleared).bay with clearance := 14 } }).remarks.staleClearance = true
    ∧ (minuteEvent { bayIn .held with
        clock := { minute := 315, status := .valid }, faults := { memory := some 2 }
        bay := { (bayIn .held).bay with readWatch := .armed } }).faults.status = .counting
    ∧ (minuteEvent { bayIn .held with
        clock := { minute := 340, status := .valid }
        bay := { (bayIn .held).bay with windowWatch := .armed } }).bay.window = true := by decide

/-- O41: an entry for a coach that is not in the bay leaves bay and plan as they were, without a coach and with one. -/
theorem test_otherCoach (p : Part) (h : p = bayIn .held) :
    (takeEntry (entry 17 400) fresh).bay = fresh.bay ∧ (takeEntry (entry 17 400) p).bay = p.bay
    ∧ (takeEntry (entry 17 400) p).plan = p.plan ∧ (takeEntry (entry 17 400) p).line.flags = p.line.flags
    ∧ (takeEntry (entry 17 400) { waiting with cache := { entries := [entry 5000 345] } }).bay.roster.isSome = true := by
  subst h
  decide

/-- O43: a bay without couple sense in EMPTY; a bay that decouples from CLEARED and from HELD. -/
theorem test_hyp_couple : (fresh.bay.couple = false ∧ fresh.bay.state = .empty) ∧ (bayIn .cleared).bay.couple = true
    ∧ (bayIn .held).bay.state ≠ .cleared := by decide

/-- O44: a press with M at 30 and at 31, in the states of its clauses, and with YARD_HOLD_REFUSED held. -/
theorem test_hyp_press : openState (bayIn .ready).bay.state = true
    ∧ Part.minutesToDeparture { bayIn .ready with clock := { minute := 315 } } = some 30
    ∧ Part.minutesToDeparture { bayIn .ready with clock := { minute := 314 } } = some 31
    ∧ fresh.bay.state = .empty ∧ (bayIn .cleared).bay.state = .cleared
    ∧ ({ (bayIn .held).bay with reasons := { yardHoldRefused := true } } : Bay).reasons.yardHoldRefused = true
    ∧ (departPress { bayIn .ready with lamps := clearedLamps.map fun l => { l with fit := some (.led, 9), verdict := .low } }).sweep.status
        = .requested
    ∧ (departPress { bayIn .ready with faults := { memory := some 2 } }).faults.status = .counting := by decide

/-- A bay in READY with its window open and the position ahead free. -/
def clearToGo : Part :=
  withPeers [peer 17 1 3 .live] { bayIn .ready with bay := { (bayIn .ready).bay with window := true } }

/-- O45: an evaluation to each state. -/
theorem test_hyp_evaluation : (evaluate clearToGo).bay.state = .releasing ∧ (evaluate (bayIn .prepare)).bay.state = .ready
    ∧ (evaluate { bayIn .ready with faults := {} }).bay.state = .prepare
    ∧ (evaluate { clearToGo with peers := {} }).bay.state = .held
    ∧ (evaluate { clearToGo with peers := {} }).bay.reasons = { laneUnknown := true }
    ∧ (bayIn .standby).bay.state = .standby ∧ openState (bayIn .cleared).bay.state = false := by decide

/-- A bay in READY whose window opens at the minute event of 05:40, the position ahead free. -/
def opening : Part :=
  withPeers [peer 17 1 3 .live] { bayIn .ready with
    clock := { minute := 340, status := .valid }, bay := { (bayIn .ready).bay with windowWatch := .armed } }

/-- The table with the position ahead in the bay state `b`, and what follows the change. -/
def aheadBecomes (b : BayState) (p : Part) : Part :=
  afterPeers (Part.laneView p) { p with peers := { entries := [{ peer 17 1 3 .live with bayState := some b }] } }

/-- O42 and O45: a lane view change and the window watch's minute event of one moment end in the new view's state, in either order;
a RELEASE that waits is withdrawn (R190). -/
theorem test_openingMeetsLane (p : Part) (h : p = opening) :
    ((minuteEvent p).bay.state, (minuteEvent p).bay.openedAt) = (.releasing, some p.osc)
    ∧ (minuteEvent p).link.slots.bay = some ⟨.release, 0⟩
    ∧ ((aheadBecomes .held (minuteEvent p)).bay.state, (aheadBecomes .held (minuteEvent p)).bay.reasons)
        = (.held, { laneBlocked := true })
    ∧ (aheadBecomes .held (minuteEvent p)).link.slots.bay = none
    ∧ ((minuteEvent (aheadBecomes .held p)).bay.state, (minuteEvent (aheadBecomes .held p)).bay.reasons)
        = (.held, { laneBlocked := true }) := by
  subst h
  decide

/-- O45: the entry stands a moment later, and where its RELEASE has been sent; a change in an open state is evaluated (R47). -/
theorem test_entryStands (p : Part) (h : p = minuteEvent opening) :
    (aheadBecomes .held { p with osc := p.osc + 1 }).bay.state = .releasing
    ∧ (aheadBecomes .held { p with link := { p.link with slots := {} } }).bay.state = .releasing
    ∧ (aheadBecomes .held { clearToGo with link := { clearToGo.link with holdConfirmed := false } }).bay.state = .held := by
  subst h
  decide

/-- O46: a depart press takes a bay in READY to RELEASING in one step. -/
theorem test_hyp_releasing (s : State)
    (h : s = { part := { clearToGo with bay := { clearToGo.bay with window := false } }, pending := [.departButtonPress] }) :
    s.part.bay.state = .ready ∧ ∃ t, step s = .next t ∧ t.part.bay.state = .releasing := by
  subst h
  exact ⟨by decide, _, rfl, by decide⟩

/-- O47: the beacon under each overlay, a chirp in its on and off phase, and a change of bay state. -/
theorem test_hyp_beacon :
    Part.beacon { bayIn .held with osc := 500000, bay := { (bayIn .held).bay with clashFrom := some 0, tooEarly := some 0 } }
      = { red := false, amber := true, green := false }
    ∧ Part.beacon { bayIn .held with osc := 500000, bay := { (bayIn .held).bay with tooEarly := some 0 } }
      = { red := false, amber := true, green := false }
    ∧ Part.beacon { bayIn .ready with osc := 1000000 } = { red := false, amber := false, green := false }
    ∧ Part.sounder { bayIn .cleared with osc := 250000, bay := { (bayIn .cleared).bay with chirps := some ⟨.cleared, 0⟩ } }
      = false
    ∧ (setBayState .held { bayIn .ready with osc := 7 }).bay.patternFrom = 7 := by decide

/-- O48: each timer and count running. -/
theorem test_hyp_bayTimers : ({ fresh.bay with retry := some 3 } : Bay).retry = some 3
    ∧ ({ fresh.bay with tooEarly := some 3 } : Bay).tooEarly = some 3
    ∧ ({ fresh.bay with chirps := some ⟨.cleared, 3⟩ } : Bay).chirps = some ⟨.cleared, 3⟩
    ∧ ({ fresh.cache with want := some 5000 } : Cache).want = some 5000
    ∧ ((bayIn .cleared).bay.state = .cleared ∧ ({ (bayIn .cleared).bay with clearance := 14 } : Bay).clearance < 15) := by decide

/-- O49: an order that meets a full queue during a transmission is dropped and counted (R191). -/
theorem test_orderWhileSending (p : Part)
    (h : p = { sending .report fresh with orders := { jobs := List.replicate 4 (job .taken) } }) :
    (receive 61 4 (takeOrder (order 0) sweepRule) p).orders.dropped = 1
    ∧ (receive 61 4 (takeOrder (order 0) sweepRule) p).line.tx = p.line.tx := by
  subst h
  decide

/-- O52: a bay reset with the clock running follows the beat in progress (R141). -/
theorem test_resetBeat : (bayReset { bayIn .held with osc := 9000 }).link.beat = 10000
    ∧ (bayReset { bayIn .held with osc := 9000 }).link.heard = false := by decide

/-- O52: a BAYRESET at the moment of a HOLD ACK that has led to RELEASING is taken, and refused a moment later; before the ACK, the
HOLD's command is gone (R187, R190, notes/assumptions/41). -/
theorem test_resetMeetsHold (p q : Part)
    (h : p = flying .bay .hold { clearToGo with link := { clearToGo.link with holdConfirmed := false } })
    (hq : q = coachWord .ack p) :
    (q.bay.state, q.bay.holdAckAt, q.link.holdConfirmed) = (.releasing, some q.osc, true)
    ∧ Part.resetRefusal q = none ∧ Part.resetRefusal { q with osc := q.osc + 1 } = some .wrongState
    ∧ ((bayReset q).bay.state, (bayReset q).link.holdConfirmed) = (.coupled, false)
    ∧ (bayReset q).link.slots = { keeper := some ⟨.ping, 0⟩ } ∧ (bayReset q).bay.holdAckAt = none
    ∧ ((coachWord .ack (bayReset p)).bay.state, (coachWord .ack (bayReset p)).link.holdConfirmed) = (.coupled, false) := by
  subst h hq
  decide

/-- O52: a BAYRESET taken in RELEASING ends a revocation that is DEFERRED and a RELEASE in flight (R141, R187, R193). -/
theorem test_resetInReleasing (p : Part)
    (h : p = bayReset { flying .bay .release (bayIn .releasing) with
      bay := { (bayIn .releasing).bay with revocation := .deferred, holdAckAt := some 0 }
      orders := { jobs := [job .pending], revocation := some { tag := 9, sender := 61, sent := false } } }) :
    (p.bay.state, p.bay.revocation, p.link.inFlight) = (.coupled, .none, none)
    ∧ p.orders = { jobs := [job (.refused .wrongState)] } ∧ p.plan.mode = .off ∧ p.heat.pin = false
    ∧ p.share.zeroed = true ∧ p.sweep.status = .none ∧ p.faults.status = .idle := by
  subst h
  decide

/-- O49 to O52: an order for the station and for another, a queue with room and a full one, and the states of each order's
clauses. -/
theorem test_hyp_orders : (order 0).sender.toNat ≠ fresh.latch.station ∧ (order 0).target.toNat = fresh.latch.station
    ∧ ({ order 0 with target := 35 } : Order).target.toNat ≠ fresh.latch.station
    ∧ (List.replicate 4 (job .taken)).length = 4 ∧ (List.replicate 3 (job .taken)).length < 4 ∧ 7 < (8#8).toNat
    ∧ heldCoach fresh.bay.state = false ∧ heldCoach (bayIn .standby).bay.state = true
    ∧ (fresh.bay.state = .empty ∨ fresh.bay.state = .coupled)
    ∧ ¬((bayIn .held).bay.state = .empty ∨ (bayIn .held).bay.state = .coupled)
    ∧ ({ (bayIn .cleared).bay with revocation := .requested } : Bay).revocation ≠ .none
    ∧ (bayIn .releasing).bay.revocation = .none := by decide

/-- O51: UNHOLD withdraws a revocation, with its job still PENDING and with its item gone out (R193). -/
theorem test_unholdWithdraws (p : Part)
    (h : p = { bayIn .cleared with
      bay := { (bayIn .cleared).bay with revocation := .requested }
      orders := { jobs := [job .pending], revocation := some { tag := 9, sender := 61, sent := false } } }) :
    (withdrawRevocation p).orders = { jobs := [job (.refused .withdrawn)] }
    ∧ (withdrawRevocation { p with orders := { jobs := [], revocation := some { tag := 9, sender := 61, sent := true } } }).orders.jobs.map
        (·.outcome) = [.refused .withdrawn] := by
  subst h
  decide

/-- O51: an evaluation follows UNHOLD, which frees the bay, and LANEPASS, with which a bay at an unknown position goes out (R179). -/
theorem test_ordersEvaluate (p : Part) (h : p = { clearToGo with peers := {} }) :
    (unholdEffect { p with bay := { p.bay with window := false, reasons := { orderHold := true }, state := .held } }).bay.state = .ready
    ∧ (lanepassEffect p).bay.state = .releasing ∧ (lanepassEffect p).bay.lanePass = false
    ∧ (lanepassEffect { p with bay := { p.bay with window := false } }).bay.lanePass = true := by
  subst h
  decide

/-- O50: the order's reason in each of its cases. -/
theorem test_hyp_checkOrders : Part.checkRefusal fresh false = some .wrongState
    ∧ Part.checkRefusal { bayIn .held with link := { state := .lost } } false = some .linkDown
    ∧ Part.checkRefusal (bayIn .held) true = some .busy ∧ Part.checkRefusal (bayIn .held) false = none := by decide

/-- O54 to O60: the invariants hold of the part after START_UP. -/
theorem test_hyp_invariants : (ClockInv fresh ∧ LineInv fresh ∧ OrderInv fresh) ∧ (PeerInv fresh ∧ PeerRemarkInv fresh)
    ∧ (GrantInv fresh ∧ DutyInv fresh ∧ ZeroInv fresh) ∧ (ClearanceInv fresh ∧ BayEntryInv fresh) ∧ (FaultListInv fresh ∧ RosterInv fresh)
    ∧ (LinkInv fresh ∧ CoupleInv fresh ∧ SweepInv fresh) ∧ (CoupleInv fresh ∧ BayInv fresh ∧ RevocationInv fresh)
    ∧ ReasonInv fresh := by
  refine ⟨⟨?_, ?_, ?_⟩, ⟨?_, ?_⟩, ⟨?_, ?_, ?_⟩, ⟨?_, ?_⟩, ⟨?_, ?_⟩, ⟨?_, ?_, ?_⟩, ⟨?_, ?_, ?_⟩, ?_⟩
  · unfold ClockInv; decide
  · unfold LineInv; decide
  · unfold OrderInv; decide
  · unfold PeerInv; decide
  · unfold PeerRemarkInv; decide
  · unfold GrantInv; decide
  · unfold DutyInv; decide
  · unfold ZeroInv; decide
  · unfold ClearanceInv; decide
  · unfold BayEntryInv; decide
  · unfold FaultListInv; decide
  · unfold RosterInv; decide
  · simp [LinkInv, fresh, Part.initial]
  · unfold CoupleInv; decide
  · unfold SweepInv; decide
  · unfold CoupleInv; decide
  · unfold BayInv; decide
  · unfold RevocationInv; decide
  · rfl

/-- O57, O59 and O60: and of a part with a coach in the bay, held by an order. -/
theorem test_hyp_invariantsHeld (p : Part)
    (h : p = { bayIn .held with bay := { (bayIn .held).bay with reasons := { orderHold := true } } }) :
    (ClearanceInv p ∧ BayEntryInv p) ∧ (LinkInv p ∧ CoupleInv p ∧ SweepInv p) ∧ (BayInv p ∧ RevocationInv p ∧ ReasonInv p) := by
  subst h
  refine ⟨⟨?_, ?_⟩, ⟨?_, ?_, ?_⟩, ?_, ?_, ?_⟩
  · unfold ClearanceInv; decide
  · unfold BayEntryInv; decide
  · simp [LinkInv, bayIn]
  · unfold CoupleInv; decide
  · unfold SweepInv; decide
  · unfold BayInv; decide
  · unfold RevocationInv; decide
  · rfl

end Sys2Proof.Tests
end

section
/-! What every operation leaves of the yard line's counts: the transmission, the fault count, MUTED and the corrupt frame
counter, with the share unit's notice of MUTED where the operation writes the share unit. A block other than the yard line
interface writes the line by raising a request alone. -/

namespace Sys2Proof.Machine

/-- What the invariant of the yard line speaks of. -/
def Line.counts (l : Line) : Option Transmission × Nat × Option Moment × Nat := (l.tx, l.faults, l.muted, l.corrupt)

/-- The counts stand for their four fields. -/
theorem counts_eq_iff (l m : Line) :
    Line.counts l = Line.counts m ↔ l.tx = m.tx ∧ l.faults = m.faults ∧ l.muted = m.muted ∧ l.corrupt = m.corrupt := by
  simp [Line.counts]

/-! ## Requests, remarks, the plan and the share unit -/

@[simp] theorem raise_keeps_counts (k : SendKind) (p : Part) :
    Line.counts (raise k p).line = Line.counts p.line := by
  simp [Line.counts]

@[simp] theorem setRemark_keeps_counts (k : Remark) (v : Bool) (p : Part) :
    Line.counts (setRemark k v p).line = Line.counts p.line := by
  unfold setRemark
  split <;> simp

@[simp] theorem setReasons_keeps_counts (r : Reasons) (p : Part) :
    Line.counts (setReasons r p).line = Line.counts p.line := by
  unfold setReasons
  split <;> simp

@[simp] theorem judgePlanRemarks_keeps_counts (i : PlanInputs) (p : Part) :
    Line.counts (judgePlanRemarks i p).line = Line.counts p.line := by
  simp [judgePlanRemarks]

@[simp] theorem recompute_keeps_counts (t : Trigger) (p : Part) :
    Line.counts (recompute t p).line = Line.counts p.line := by
  simp [recompute]

@[simp] theorem clearFaults_keeps_counts (p : Part) :
    Line.counts (clearFaults p).line = Line.counts p.line := by
  simp [clearFaults]

@[simp] theorem shedCheck_keeps_counts (p : Part) :
    Line.counts (shedCheck p).line = Line.counts p.line
      ∧ (shedCheck p).share.mutedHeld = p.share.mutedHeld := by
  unfold shedCheck
  (repeat' split) <;> simp

@[simp] theorem grantStep_keeps_counts (p : Part) :
    Line.counts (grantStep p).line = Line.counts p.line
      ∧ (grantStep p).share.mutedHeld = p.share.mutedHeld := by
  simp only [grantStep]
  (repeat' split) <;> simp

/-! ## The bay controller -/

@[simp] theorem leaveState_keeps_counts (p : Part) :
    Line.counts (leaveState p).line = Line.counts p.line := by
  unfold leaveState
  split <;> simp

@[simp] theorem setBayState_keeps_counts (new : BayState) (p : Part) :
    Line.counts (setBayState new p).line = Line.counts p.line := by
  unfold setBayState
  split <;> simp

@[simp] theorem judge_keeps_counts (p : Part) :
    Line.counts (judge p).line = Line.counts p.line := by
  simp [judge]

@[simp] theorem enterReleasing_keeps_counts (p : Part) :
    Line.counts (enterReleasing p).line = Line.counts p.line := by
  simp [enterReleasing]

@[simp] theorem placeBay_keeps_counts (p : Part) :
    Line.counts (placeBay p).line = Line.counts p.line := by
  simp only [placeBay]
  (repeat' split) <;> simp

@[simp] theorem evaluate_keeps_counts (p : Part) :
    Line.counts (evaluate p).line = Line.counts p.line := by
  unfold evaluate
  (repeat' split) <;> simp

@[simp] theorem tryPrepare_keeps_counts (p : Part) :
    Line.counts (tryPrepare p).line = Line.counts p.line := by
  unfold tryPrepare
  split <;> simp

@[simp] theorem copyArrives_keeps_counts (c : RosterCopy) (p : Part) :
    Line.counts (copyArrives c p).line = Line.counts p.line := by
  simp [copyArrives]

@[simp] theorem rosterLookup_keeps_counts (p : Part) :
    Line.counts (rosterLookup p).line = Line.counts p.line := by
  unfold rosterLookup
  (repeat' split) <;> simp

@[simp] theorem standBy_keeps_counts (p : Part) :
    Line.counts (standBy p).line = Line.counts p.line := by
  simp [standBy]

@[simp] theorem toStandby_keeps_counts (p : Part) :
    Line.counts (toStandby p).line = Line.counts p.line := by
  simp [toStandby]

@[simp] theorem clearanceCheck_keeps_counts (p : Part) :
    Line.counts (clearanceCheck p).line = Line.counts p.line := by
  unfold clearanceCheck
  split <;> simp

@[simp] theorem clearanceMinute_keeps_counts (p : Part) :
    Line.counts (clearanceMinute p).line = Line.counts p.line := by
  unfold clearanceMinute
  split <;> simp

@[simp] theorem bayMinute_keeps_counts (p : Part) :
    Line.counts (bayMinute p).line = Line.counts p.line := by
  unfold bayMinute
  split <;> simp

@[simp] theorem askCheck_keeps_counts (p : Part) :
    Line.counts (askCheck p).line = Line.counts p.line := by
  unfold askCheck
  split <;> simp

@[simp] theorem cacheMinute_keeps_counts (p : Part) :
    Line.counts (cacheMinute p).line = Line.counts p.line := by
  simp only [cacheMinute]
  (repeat' split) <;> simp

@[simp] theorem minuteEvent_keeps_counts (p : Part) :
    Line.counts (minuteEvent p).line = Line.counts p.line := by
  simp [minuteEvent]

@[simp] theorem setCopy_keeps_counts (c : RosterCopy) (p : Part) :
    Line.counts (setCopy c p).line = Line.counts p.line := by
  simp only [setCopy]
  (repeat' split) <;> simp

@[simp] theorem removeCopy_keeps_counts (p : Part) :
    Line.counts (removeCopy p).line = Line.counts p.line := by
  simp only [removeCopy]
  (repeat' split) <;> simp

@[simp] theorem returnToHeld_keeps_counts (r : ReturnReasons) (p : Part) :
    Line.counts (returnToHeld r p).line = Line.counts p.line := by
  simp only [returnToHeld]
  (repeat' split) <;> simp

@[simp] theorem laneViewChanged_keeps_counts (p : Part) :
    Line.counts (laneViewChanged p).line = Line.counts p.line := by
  unfold laneViewChanged
  split <;> simp

@[simp] theorem releaseEnds_keeps_counts (refused : Bool) (p : Part) :
    Line.counts (releaseEnds refused p).line = Line.counts p.line := by
  simp only [releaseEnds]
  (repeat' split) <;> simp

@[simp] theorem enterCleared_keeps_counts (p : Part) :
    Line.counts (enterCleared p).line = Line.counts p.line
      ∧ (enterCleared p).share.mutedHeld = p.share.mutedHeld := by
  simp only [enterCleared]
  (repeat' split) <;> simp

@[simp] theorem holdOutcome_keeps_counts (o : BayOutcome) (p : Part) :
    Line.counts (holdOutcome o p).line = Line.counts p.line := by
  unfold holdOutcome
  (repeat' split) <;> simp

@[simp] theorem releaseOutcome_keeps_counts (o : BayOutcome) (p : Part) :
    Line.counts (releaseOutcome o p).line = Line.counts p.line
      ∧ (releaseOutcome o p).share.mutedHeld = p.share.mutedHeld := by
  simp only [releaseOutcome]
  (repeat' split) <;> simp

@[simp] theorem bayLinkLost_keeps_counts (p : Part) :
    Line.counts (bayLinkLost p).line = Line.counts p.line := by
  unfold bayLinkLost
  split <;> simp

@[simp] theorem departPress_keeps_counts (p : Part) :
    Line.counts (departPress p).line = Line.counts p.line := by
  simp only [departPress]
  (repeat' split) <;> simp

@[simp] theorem firstIdentity_keeps_counts (d : Identity) (p : Part) :
    Line.counts (firstIdentity d p).line = Line.counts p.line := by
  simp [firstIdentity]

@[simp] theorem clearBlocks_keeps_counts (p : Part) :
    Line.counts (clearBlocks p).line = Line.counts p.line
      ∧ (clearBlocks p).share.mutedHeld = p.share.mutedHeld := by
  simp [clearBlocks]

@[simp] theorem tearDown_keeps_counts (p : Part) :
    Line.counts (tearDown p).line = Line.counts p.line
      ∧ (tearDown p).share.mutedHeld = p.share.mutedHeld := by
  simp [tearDown]

@[simp] theorem decoupled_keeps_counts (p : Part) :
    Line.counts (decoupled p).line = Line.counts p.line
      ∧ (decoupled p).share.mutedHeld = p.share.mutedHeld := by
  simp [decoupled]

@[simp] theorem coachChange_keeps_counts (d : Identity) (p : Part) :
    Line.counts (coachChange d p).line = Line.counts p.line
      ∧ (coachChange d p).share.mutedHeld = p.share.mutedHeld := by
  simp [coachChange]

@[simp] theorem bayReset_keeps_counts (p : Part) :
    Line.counts (bayReset p).line = Line.counts p.line
      ∧ (bayReset p).share.mutedHeld = p.share.mutedHeld := by
  simp only [bayReset]
  (repeat' split) <;> simp

/-! ## Number clashes and the clock -/

@[simp] theorem numberClash_keeps_counts (p : Part) :
    Line.counts (numberClash p).line = Line.counts p.line := by
  unfold numberClash
  split <;> simp

@[simp] theorem secondEnds_keeps_counts (p : Part) :
    Line.counts (secondEnds p).line = Line.counts p.line := by
  simp only [secondEnds]
  (repeat' split) <;> simp

@[simp] theorem statusChanged_keeps_counts (p : Part) :
    Line.counts (statusChanged p).line = Line.counts p.line := by
  simp [statusChanged]

@[simp] theorem timeSilenceExpires_keeps_counts (p : Part) :
    Line.counts (timeSilenceExpires p).line = Line.counts p.line := by
  unfold timeSilenceExpires
  split <;> simp

@[simp] theorem adoptTime_keeps_counts (m n : Nat) (p : Part) :
    Line.counts (adoptTime m n p).line = Line.counts p.line := by
  simp only [adoptTime]
  (repeat' split) <;> simp

@[simp] theorem takeTime_keeps_counts (t : TimePayload) (p : Part) :
    Line.counts (takeTime t p).line = Line.counts p.line := by
  unfold takeTime
  split <;> simp

/-! ## Peers and the shed lock -/

@[simp] theorem afterPeers_keeps_counts (v : List Position) (p : Part) :
    Line.counts (afterPeers v p).line = Line.counts p.line := by
  simp only [afterPeers]
  (repeat' split) <;> simp

@[simp] theorem overflowBegins_keeps_counts (p : Part) :
    Line.counts (overflowBegins p).line = Line.counts p.line
      ∧ (overflowBegins p).share.mutedHeld = p.share.mutedHeld := by
  unfold overflowBegins
  split <;> simp

@[simp] theorem overflowEnds_keeps_counts (p : Part) :
    Line.counts (overflowEnds p).line = Line.counts p.line
      ∧ (overflowEnds p).share.mutedHeld = p.share.mutedHeld := by
  unfold overflowEnds
  split <;> simp

@[simp] theorem deletionOf_keeps_counts (n : Nat) (p : Part) :
    Line.counts (deletionOf n p).line = Line.counts p.line
      ∧ (deletionOf n p).share.mutedHeld = p.share.mutedHeld := by
  simp [deletionOf]

@[simp] theorem writePeer_keeps_counts (e : Peer) (p : Part) :
    Line.counts (writePeer e p).line = Line.counts p.line := by
  simp [writePeer]

@[simp] theorem peerArrives_keeps_counts (f : PeerFields) (p : Part) :
    Line.counts (peerArrives f p).line = Line.counts p.line
      ∧ (peerArrives f p).share.mutedHeld = p.share.mutedHeld := by
  unfold peerArrives
  (repeat' split) <;> simp

@[simp] theorem arrivesIfGood_keeps_counts (f : Option PeerFields) (p : Part) :
    Line.counts (arrivesIfGood f p).line = Line.counts p.line
      ∧ (arrivesIfGood f p).share.mutedHeld = p.share.mutedHeld := by
  unfold arrivesIfGood
  split <;> simp

@[simp] theorem peerAges_keeps_counts (n : Nat) (p : Part) :
    Line.counts (peerAges n p).line = Line.counts p.line
      ∧ (peerAges n p).share.mutedHeld = p.share.mutedHeld := by
  unfold peerAges
  (repeat' split) <;> simp

@[simp] theorem ghostAges_keeps_counts (n : Nat) (p : Part) :
    Line.counts (ghostAges n p).line = Line.counts p.line
      ∧ (ghostAges n p).share.mutedHeld = p.share.mutedHeld := by
  unfold ghostAges
  (repeat' split) <;> simp

@[simp] theorem takeShed_keeps_counts (b : ShedPayload) (p : Part) :
    Line.counts (takeShed b p).line = Line.counts p.line
      ∧ (takeShed b p).share.mutedHeld = p.share.mutedHeld := by
  unfold takeShed
  split <;> simp

@[simp] theorem shedLockEnds_keeps_counts (p : Part) :
    Line.counts (shedLockEnds p).line = Line.counts p.line
      ∧ (shedLockEnds p).share.mutedHeld = p.share.mutedHeld := by
  unfold shedLockEnds
  split <;> simp

/-! ## The yard line's own timers -/

@[simp] theorem loadNotice_keeps_counts (t : Transmission) (p : Part) :
    Line.counts (loadNotice t p).line = Line.counts p.line
      ∧ (loadNotice t p).share.mutedHeld = p.share.mutedHeld := by
  simp [loadNotice, Line.counts]

@[simp] theorem baystateNotice_keeps_counts (t : Transmission) (p : Part) :
    Line.counts (baystateNotice t p).line = Line.counts p.line := by
  simp [baystateNotice, Line.counts]

@[simp] theorem loadRefreshExpires_keeps_counts (p : Part) :
    Line.counts (loadRefreshExpires p).line = Line.counts p.line := by
  unfold loadRefreshExpires
  split <;> simp [Line.counts]

@[simp] theorem baystateRefreshExpires_keeps_counts (p : Part) :
    Line.counts (baystateRefreshExpires p).line = Line.counts p.line := by
  unfold baystateRefreshExpires
  split <;> simp [Line.counts]

/-! ## The sweep, the heat frame and the fault list -/

@[simp] theorem completeSweep_keeps_counts (p : Part) :
    Line.counts (completeSweep p).line = Line.counts p.line := by
  simp [completeSweep]

@[simp] theorem lampsOutcome_keeps_counts (o : LampsOutcome) (p : Part) :
    Line.counts (lampsOutcome o p).line = Line.counts p.line := by
  unfold lampsOutcome
  (repeat' split) <;> simp

/-- The judgement of a sweep's start writes nothing of the line or the share unit. -/
@[simp] theorem judgeSweepStart_keeps_line (p : Part) :
    (judgeSweepStart p).1.line = p.line ∧ (judgeSweepStart p).1.share = p.share := by
  unfold judgeSweepStart startSweep
  (repeat' split) <;> simp

@[simp] theorem boundary_keeps_counts (p : Part) :
    Line.counts (boundary p).line = Line.counts p.line
      ∧ (boundary p).share.mutedHeld = p.share.mutedHeld := by
  simp [boundary]

@[simp] theorem setChain_keeps_counts (c : ChainStatus) (p : Part) :
    Line.counts (setChain c p).line = Line.counts p.line := by
  simp only [setChain]
  (repeat' split) <;> simp

@[simp] theorem refhiEnds_keeps_counts (c : Code) (p : Part) :
    Line.counts (refhiEnds c p).line = Line.counts p.line := by
  unfold refhiEnds
  split
  case h_1 h =>
    have kept := takeConversion_keeps h
    (repeat' split) <;> simp [kept]
  all_goals rfl

@[simp] theorem completeRead_keeps_counts (p : Part) :
    Line.counts (completeRead p).line = Line.counts p.line := by
  simp [completeRead]

@[simp] theorem nextRecord_keeps_counts (p : Part) :
    Line.counts (nextRecord p).line = Line.counts p.line := by
  simp only [nextRecord]
  (repeat' split) <;> simp

@[simp] theorem takeRecord_keeps_counts (ws : List Word16) (p : Part) :
    Line.counts (takeRecord ws p).line = Line.counts p.line := by
  unfold takeRecord
  (repeat' split) <;> simp

@[simp] theorem faultOutcome_keeps_counts (c : CommandCode) (o : FaultOutcome) (p : Part) :
    Line.counts (faultOutcome c o p).line = Line.counts p.line := by
  simp only [faultOutcome]
  (repeat' split) <;> simp

/-! ## The coach link -/

@[simp] theorem enterLost_keeps_counts (p : Part) :
    Line.counts (enterLost p).line = Line.counts p.line := by
  simp [enterLost]

@[simp] theorem acceptIdentity_keeps_counts (d : Identity) (p : Part) :
    Line.counts (acceptIdentity d p).line = Line.counts p.line
      ∧ (acceptIdentity d p).share.mutedHeld = p.share.mutedHeld := by
  simp only [acceptIdentity]
  (repeat' split) <;> simp

@[simp] theorem ackOutcome_keeps_counts (c : Command) (p : Part) :
    Line.counts (ackOutcome c p).line = Line.counts p.line
      ∧ (ackOutcome c p).share.mutedHeld = p.share.mutedHeld := by
  unfold ackOutcome
  (repeat' split) <;> simp

@[simp] theorem lastOutcome_keeps_counts (c : Command) (ws : List Word16) (p : Part) :
    Line.counts (lastOutcome c ws p).line = Line.counts p.line := by
  unfold lastOutcome
  split <;> simp

@[simp] theorem refuseOutcome_keeps_counts (c : Command) (p : Part) :
    Line.counts (refuseOutcome c p).line = Line.counts p.line
      ∧ (refuseOutcome c p).share.mutedHeld = p.share.mutedHeld := by
  unfold refuseOutcome
  split <;> simp

@[simp] theorem failedOutcome_keeps_counts (c : Command) (p : Part) :
    Line.counts (failedOutcome c p).line = Line.counts p.line := by
  unfold failedOutcome
  split <;> simp

@[simp] theorem failCommand_keeps_counts (f : InFlight) (p : Part) :
    Line.counts (failCommand f p).line = Line.counts p.line := by
  unfold failCommand
  (repeat' split) <;> simp

@[simp] theorem takeWait_keeps_counts (f : InFlight) (p : Part) :
    Line.counts (takeWait f p).line = Line.counts p.line := by
  simp only [takeWait]
  (repeat' split) <;> simp

@[simp] theorem takeData_keeps_counts (f : InFlight) (w : Word16) (p : Part) :
    Line.counts (takeData f w p).line = Line.counts p.line := by
  unfold takeData
  split <;> simp

@[simp] theorem takeLast_keeps_counts (f : InFlight) (w : Word16) (p : Part) :
    Line.counts (takeLast f w p).line = Line.counts p.line
      ∧ (takeLast f w p).share.mutedHeld = p.share.mutedHeld := by
  simp only [takeLast]
  (repeat' split) <;> simp

@[simp] theorem takeAck_keeps_counts (f : InFlight) (p : Part) :
    Line.counts (takeAck f p).line = Line.counts p.line
      ∧ (takeAck f p).share.mutedHeld = p.share.mutedHeld := by
  simp only [takeAck]
  (repeat' split) <;> simp

@[simp] theorem takeRefuse_keeps_counts (f : InFlight) (w : Word16) (p : Part) :
    Line.counts (takeRefuse f w p).line = Line.counts p.line
      ∧ (takeRefuse f w p).share.mutedHeld = p.share.mutedHeld := by
  simp only [takeRefuse]
  (repeat' split) <;> simp

@[simp] theorem takeWord_keeps_counts (f : InFlight) (w : CoachWord) (p : Part) :
    Line.counts (takeWord f w p).line = Line.counts p.line
      ∧ (takeWord f w p).share.mutedHeld = p.share.mutedHeld := by
  unfold takeWord
  split <;> simp

@[simp] theorem coachWord_keeps_counts (w : CoachWord) (p : Part) :
    Line.counts (coachWord w p).line = Line.counts p.line
      ∧ (coachWord w p).share.mutedHeld = p.share.mutedHeld := by
  simp only [coachWord]
  (repeat' split) <;> simp

@[simp] theorem waitCountEnds_keeps_counts (p : Part) :
    Line.counts (waitCountEnds p).line = Line.counts p.line := by
  unfold waitCountEnds
  (repeat' split) <;> simp

@[simp] theorem startTimerExpires_keeps_counts (p : Part) :
    Line.counts (startTimerExpires p).line = Line.counts p.line := by
  unfold startTimerExpires
  split <;> simp

/-! ## Rosters, couple sense and orders -/

@[simp] theorem takeCancel_keeps_counts (n : Nat) (p : Part) :
    Line.counts (takeCancel n p).line = Line.counts p.line := by
  simp only [takeCancel]
  (repeat' split) <;> simp

@[simp] theorem takeEntry_keeps_counts (e : RosterEntry) (p : Part) :
    Line.counts (takeEntry e p).line = Line.counts p.line := by
  simp only [takeEntry]
  (repeat' split) <;> simp

@[simp] theorem takeRosterFrame_keeps_counts (b : RosterPayload) (p : Part) :
    Line.counts (takeRosterFrame b p).line = Line.counts p.line := by
  unfold takeRosterFrame
  (repeat' split) <;> simp

@[simp] theorem askCountEnds_keeps_counts (p : Part) :
    Line.counts (askCountEnds p).line = Line.counts p.line := by
  unfold askCountEnds
  split <;> simp

@[simp] theorem coupleRises_keeps_counts (p : Part) :
    Line.counts (coupleRises p).line = Line.counts p.line := by
  unfold coupleRises
  split <;> simp

@[simp] theorem coupleFalls_keeps_counts (p : Part) :
    Line.counts (coupleFalls p).line = Line.counts p.line
      ∧ (coupleFalls p).share.mutedHeld = p.share.mutedHeld := by
  unfold coupleFalls
  split <;> simp

@[simp] theorem clearanceCountEnds_keeps_counts (p : Part) :
    Line.counts (clearanceCountEnds p).line = Line.counts p.line := by
  unfold clearanceCountEnds
  split <;> simp

@[simp] theorem holdEffect_keeps_counts (o : Order) (p : Part) :
    Line.counts (holdEffect o p).line = Line.counts p.line := by
  unfold holdEffect
  (repeat' split) <;> simp

@[simp] theorem unholdEffect_keeps_counts (p : Part) :
    Line.counts (unholdEffect p).line = Line.counts p.line := by
  unfold unholdEffect
  split <;> simp

@[simp] theorem lanepassEffect_keeps_counts (p : Part) :
    Line.counts (lanepassEffect p).line = Line.counts p.line := by
  simp [lanepassEffect]

@[simp] theorem dropOrder_keeps_counts (p : Part) :
    Line.counts (dropOrder p).line = Line.counts p.line := by
  unfold dropOrder
  split <;> simp

end Sys2Proof.Machine
end

section
/-! Every step keeps the clock, the yard line's counts and the reply jobs in their ranges: what each effect does to them, and the
invariant that follows. -/

namespace Sys2Proof.Machine

/-! ## Frames received -/

/-- Whatever a frame's end and a number clash keep, a frame received keeps where its block keeps it. -/
theorem receive_induct {I : Part → Prop} (sender : StationNo) (n : Nat) (hand : Part → Part)
    (ends : ∀ bits p, I p → I (frameEnds bits p)) (clash : ∀ p, I p → I (numberClash p))
    (handed : ∀ p, I p → I (hand p)) {p : Part} (h : I p) : I (receive sender n hand p) := by
  unfold receive
  split
  · split
    · exact h
    · exact clash _ (ends _ _ h)
  · exact handed _ (ends _ _ h)

@[simp] theorem receive_clock (sender : StationNo) (n : Nat) (hand : Part → Part) (p : Part)
    (h : ∀ q, (hand q).clock = q.clock) : (receive sender n hand p).clock = p.clock :=
  receive_induct (I := fun q => q.clock = p.clock) sender n hand (by simp) (by simp) (by simp [h]) rfl

@[simp] theorem receive_orders (sender : StationNo) (n : Nat) (hand : Part → Part) (p : Part)
    (h : ∀ q, (hand q).orders = q.orders) : (receive sender n hand p).orders = p.orders :=
  receive_induct (I := fun q => q.orders = p.orders) sender n hand (by simp) (by simp) (by simp [h]) rfl

@[simp] theorem lineAfter_keeps_counts (p : Part) (now : Moment) :
    Line.counts (Part.lineAfter p now) = Line.counts p.line := by
  simp [Line.counts]

@[simp] theorem receive_keeps_counts (sender : StationNo) (n : Nat) (hand : Part → Part) (p : Part)
    (h : ∀ q, Line.counts (hand q).line = Line.counts q.line ∧ (hand q).share.mutedHeld = q.share.mutedHeld) :
    Line.counts (receive sender n hand p).line = Line.counts p.line
      ∧ (receive sender n hand p).share.mutedHeld = p.share.mutedHeld :=
  receive_induct (I := fun q => Line.counts q.line = Line.counts p.line ∧ q.share.mutedHeld = p.share.mutedHeld)
    sender n hand (by simp) (by simp) (by simp [h]) ⟨rfl, rfl⟩

@[simp] theorem fromBayPost_clock (sender : StationNo) (hand : Part → Part) (p : Part)
    (h : (hand p).clock = p.clock) : (fromBayPost sender hand p).clock = p.clock := by
  unfold fromBayPost
  split <;> simp [h]

@[simp] theorem fromBayPost_orders (sender : StationNo) (hand : Part → Part) (p : Part)
    (h : (hand p).orders = p.orders) : (fromBayPost sender hand p).orders = p.orders := by
  unfold fromBayPost
  split <;> simp [h]

@[simp] theorem fromBayPost_keeps_counts (sender : StationNo) (hand : Part → Part) (p : Part)
    (h : Line.counts (hand p).line = Line.counts p.line ∧ (hand p).share.mutedHeld = p.share.mutedHeld) :
    Line.counts (fromBayPost sender hand p).line = Line.counts p.line
      ∧ (fromBayPost sender hand p).share.mutedHeld = p.share.mutedHeld := by
  unfold fromBayPost
  split <;> simp [h]

/-! ## Completions -/

/-- A completion acts where a frame of its kind is being transmitted, and nowhere else. -/
theorem completion_cases (k : SendKind) (notice : Transmission → Part → Part) (p : Part) :
    completion k notice p = p
      ∨ ∃ t, p.line.tx = some t ∧ completion k notice p = notice t (frameCompletes t p) := by
  unfold completion
  cases htx : p.line.tx with
  | none => exact .inl rfl
  | some t =>
    by_cases hk : t.kind = k
    · exact .inr ⟨t, rfl, if_pos hk⟩
    · exact .inl (if_neg hk)

@[simp] theorem completion_clock (k : SendKind) (notice : Transmission → Part → Part) (p : Part)
    (h : ∀ t q, (notice t q).clock = q.clock) : (completion k notice p).clock = p.clock := by
  obtain hc | ⟨t, -, hc⟩ := completion_cases k notice p <;> simp [hc, h]

@[simp] theorem completion_orders (k : SendKind) (notice : Transmission → Part → Part) (p : Part)
    (h : ∀ t q, (notice t q).orders = q.orders) : (completion k notice p).orders = p.orders := by
  obtain hc | ⟨t, -, hc⟩ := completion_cases k notice p <;> simp [hc, h]

/-! ## Orders -/

@[simp] theorem sweepRule_effect : sweepRule.effect = sweepRequest := rfl
@[simp] theorem readfaultsRule_effect : readfaultsRule.effect = faultRequest .read := rfl
@[simp] theorem clearstoredRule_effect : clearstoredRule.effect = faultRequest .clearAndRead := rfl
@[simp] theorem holdRule_effect (o : Order) : (holdRule o).effect = holdEffect o := rfl
@[simp] theorem unholdRule_effect : unholdRule.effect = unholdEffect := rfl
@[simp] theorem lanepassRule_effect : lanepassRule.effect = lanepassEffect := rfl
@[simp] theorem bayresetRule_effect : bayresetRule.effect = bayReset := rfl
@[simp] theorem badKindRule_effect (kind : Byte) (p : Part) : (badKindRule kind).effect p = p := by simp [badKindRule]
@[simp] theorem showRule_effect (k : ShowKind) (p : Part) : (showRule k).effect p = p := by simp [showRule]

@[simp] theorem takeOrder_clock (o : Order) (r : OrderRule) (p : Part) (h : (r.effect p).clock = p.clock) :
    (takeOrder o r p).clock = p.clock := by
  unfold takeOrder judgeOrder
  (repeat' split) <;> simp [h]

@[simp] theorem takeOrder_keeps_counts (o : Order) (r : OrderRule) (p : Part)
    (h : Line.counts (r.effect p).line = Line.counts p.line ∧ (r.effect p).share.mutedHeld = p.share.mutedHeld) :
    Line.counts (takeOrder o r p).line = Line.counts p.line
      ∧ (takeOrder o r p).share.mutedHeld = p.share.mutedHeld := by
  unfold takeOrder judgeOrder
  (repeat' split) <;> simp [h]

/-! ## The clock -/

/-- The commands that write the clock are SECOND_END, TIME_SILENCE_EXPIRY and TIME_FRAME (R6 to R8). -/
theorem effect_clock (c : Instr) (p : Part) (second : c ≠ .secondEnd) (silence : c ≠ .timeSilenceExpiry)
    (frame : ∀ n t, c ≠ .timeFrame n t) : (effect c p).clock = p.clock := by
  cases c with
  | secondEnd => exact absurd rfl second
  | timeSilenceExpiry => exact absurd rfl silence
  | timeFrame n t => exact absurd rfl (frame n t)
  | _ => simp [effect]

/-- The clock when a second ends (R6). -/
theorem secondEnds_clock (p : Part) : (secondEnds p).clock = { p.clock with
    second := if p.clock.second < 59 then p.clock.second + 1 else 0
    minute := if p.clock.second < 59 then p.clock.minute else (p.clock.minute + 1) % 1440
    secondEnds := p.clock.secondEnds + 1000000 } := by
  unfold secondEnds nextSecond
  by_cases h : p.clock.second < 59 <;> simp [h, oneSecond]

/-- The clock when the TIME silence timer expires (R7). -/
theorem timeSilenceExpires_clock (p : Part) (t : Moment) (h : p.clock.silence = some t) :
    (timeSilenceExpires p).clock = { p.clock with status := .unconfirmed, silence := none } := by
  simp [timeSilenceExpires, h]

/-- The clock when it adopts a minute and a second (R8). -/
@[simp] theorem adoptTime_clock (minute second : Nat) (p : Part) : (adoptTime minute second p).clock = {
    minute := minute, second := second, status := .valid
    silence := some (p.osc + 900000000), secondEnds := p.osc + 1000000 } := by
  simp only [adoptTime]
  (repeat' split) <;> simp [timeSilencePeriod, oneSecond]

/-- Every effect keeps the clock in its range. -/
theorem effect_keeps_clockInv (c : Instr) (p : Part) (h : ClockInv p) : ClockInv (effect c p) := by
  by_cases second : c = .secondEnd
  · subst second
    obtain ⟨minute, second, silence⟩ := h
    refine ⟨?_, ?_, ?_⟩ <;> simp only [effect, secondEnds_clock]
    · split <;> omega
    · split <;> omega
    · exact silence
  by_cases silence : c = .timeSilenceExpiry
  · subst silence
    cases ht : p.clock.silence with
    | none => simpa [effect, timeSilenceExpires, ht] using h
    | some t =>
      obtain ⟨minute, second, -⟩ := h
      simpa [ClockInv, effect, timeSilenceExpires_clock p t ht] using ⟨minute, second⟩
  by_cases frame : ∃ n t, c = .timeFrame n t
  · obtain ⟨n, t, rfl⟩ := frame
    refine receive_induct n 3 (takeTime t) (by simp [ClockInv]) (by simp [ClockInv]) (fun q hq => ?_) h
    unfold takeTime
    split
    · simp [ClockInv]
      omega
    · exact hq
  · have same := effect_clock c p second silence (fun n t hc => frame ⟨n, t, hc⟩)
    simpa only [ClockInv, same] using h

/-! ## The yard line -/

/-- The yard line's invariant speaks of the counts and of the share unit's notice alone. -/
theorem lineInv_of_counts {p q : Part}
    (same : Line.counts q.line = Line.counts p.line ∧ q.share.mutedHeld = p.share.mutedHeld) (h : LineInv p) :
    LineInv q := by
  obtain ⟨counts, held⟩ := same
  obtain ⟨tx, faults, muted, corrupt⟩ := (counts_eq_iff _ _).mp counts
  simpa only [LineInv, tx, faults, muted, corrupt, held] using h

/-- A command that starts, ends or completes an attempt, ends MUTED or counts a corrupt frame. -/
def writesCounts : Instr → Bool
  | .frameAttemptStart | .arbitrationLost _ | .transmitFault _ | .mutedEnd | .corruptFrame _ => true
  | .shedComplete | .loadComplete | .baystateComplete | .askComplete | .reportComplete => true
  | _ => false

/-- No other command writes the counts (R13 to R28). -/
theorem effect_keeps_counts (c : Instr) (p : Part) (h : writesCounts c = false) :
    Line.counts (effect c p).line = Line.counts p.line ∧ (effect c p).share.mutedHeld = p.share.mutedHeld := by
  cases c with
  | frameAttemptStart | arbitrationLost | transmitFault | mutedEnd | corruptFrame => cases h
  | shedComplete | loadComplete | baystateComplete | askComplete | reportComplete => cases h
  | _ => simp [effect]

/-- A station that is not MUTED meets the invariant with fewer than 16 faults and no notice to the share unit. -/
theorem lineInv_of_notMuted {p : Part} (corrupt : p.line.corrupt ≤ 65535) (faults : p.line.faults < 16)
    (muted : p.line.muted = none) (held : p.share.mutedHeld = false) : LineInv p := by
  refine ⟨corrupt, faults.le, ?_, ?_, ?_⟩
  · simp [muted, faults.ne]
  · simp [muted, held]
  · simp [muted]

/-- A station that is not MUTED has counted fewer than 16 faults, and the share unit knows it (R26, R61). -/
theorem LineInv.notMuted {p : Part} (h : LineInv p) (muted : p.line.muted = none) :
    p.line.corrupt ≤ 65535 ∧ p.line.faults < 16 ∧ p.share.mutedHeld = false := by
  obtain ⟨corrupt, faults, full, held, -⟩ := h
  simp only [muted, Option.isSome_none, Bool.false_eq_true, false_iff, iff_false, Bool.not_eq_true] at full held
  exact ⟨corrupt, by omega, held⟩

/-- A station that transmits is not MUTED (R27). -/
theorem LineInv.notMuted_of_tx {p : Part} {t : Transmission} (h : LineInv p) (htx : p.line.tx = some t) :
    p.line.muted = none := by
  obtain ⟨-, -, -, -, quiet⟩ := h
  cases hm : p.line.muted with
  | none => rfl
  | some m => simp [quiet (by simp [hm])] at htx

/-- The start of an attempt writes neither the fault count, MUTED nor the corrupt frame counter. -/
theorem attemptStarts_keeps_faults (p : Part) :
    (attemptStarts p).line.faults = p.line.faults ∧ (attemptStarts p).line.muted = p.line.muted
      ∧ (attemptStarts p).line.corrupt = p.line.corrupt := by
  simp only [attemptStarts, beginFrame]
  (repeat' split) <;> simp

/-- A station that is MUTED begins no frame (R16). -/
theorem attemptStarts_keeps_lineInv (p : Part) (h : LineInv p) : LineInv (attemptStarts p) := by
  by_cases begins : Part.mayBegin p = true
  · have muted : p.line.muted = none := by
      simp only [Part.mayBegin, Bool.and_eq_true, Option.isNone_iff_eq_none] at begins
      exact begins.1.2
    obtain ⟨corrupt, faults, held⟩ := h.notMuted muted
    obtain ⟨faultsKept, mutedKept, corruptKept⟩ := attemptStarts_keeps_faults p
    exact lineInv_of_notMuted (by omega) (by omega) (by simp [mutedKept, muted]) (by simp [held])
  · simpa [attemptStarts, begins] using h

/-- An attempt that ends leaves a station that is not MUTED. -/
theorem attemptEnds_keeps_lineInv (t : Transmission) (p : Part) (h : LineInv p) (muted : p.line.muted = none) :
    LineInv (attemptEnds t p) := by
  obtain ⟨corrupt, faults, held⟩ := h.notMuted muted
  exact lineInv_of_notMuted corrupt faults muted held

/-- A fault counted while the station is silent and not MUTED: the sixteenth makes it MUTED (R26). -/
theorem countFault_keeps_lineInv (p : Part) (h : LineInv p) (silent : p.line.tx = none) (muted : p.line.muted = none) :
    LineInv (countFault p) := by
  obtain ⟨corrupt, faults, held⟩ := h.notMuted muted
  unfold countFault
  split
  · exact lineInv_of_notMuted corrupt (by assumption) muted held
  · simp [LineInv, corrupt, silent]

theorem transmitFaults_keeps_lineInv (bit : Nat) (p : Part) (h : LineInv p) : LineInv (transmitFaults bit p) := by
  unfold transmitFaults
  cases htx : p.line.tx with
  | none => exact h
  | some t =>
    have muted := h.notMuted_of_tx htx
    have read : LineInv (bitRead t bit p) := lineInv_of_counts (by simp) h
    dsimp only
    split
    · have ended := attemptEnds_keeps_lineInv t _ read (by simpa using muted)
      exact countFault_keeps_lineInv _ ended rfl (by simpa using muted)
    · exact h

theorem arbitrationIsLost_keeps_lineInv (bit : Fin 9) (p : Part) (h : LineInv p) :
    LineInv (arbitrationIsLost bit p) := by
  unfold arbitrationIsLost
  cases htx : p.line.tx with
  | none => exact h
  | some t =>
    have muted := h.notMuted_of_tx htx
    have read : LineInv (bitRead t (bit.val + 1) p) := lineInv_of_counts (by simp) h
    dsimp only
    split
    · exact attemptEnds_keeps_lineInv t _ read (by simpa using muted)
    · exact h

/-- MUTED ends with the fault count at 0 (R27). -/
theorem mutedEnds_keeps_lineInv (p : Part) (h : LineInv p) : LineInv (mutedEnds p) := by
  unfold mutedEnds
  split
  · exact lineInv_of_notMuted (by simpa using h.1) (by simp) rfl rfl
  · exact h

/-- A completion sets the fault count to 0 (R22), whatever its owner's notice does that leaves the counts. -/
theorem completion_keeps_lineInv (k : SendKind) (notice : Transmission → Part → Part) (p : Part) (h : LineInv p)
    (noticed : ∀ t q, Line.counts (notice t q).line = Line.counts q.line
      ∧ (notice t q).share.mutedHeld = q.share.mutedHeld) : LineInv (completion k notice p) := by
  obtain same | ⟨t, htx, done⟩ := completion_cases k notice p
  · rwa [same]
  · have muted := h.notMuted_of_tx htx
    obtain ⟨corrupt, -, held⟩ := h.notMuted muted
    rw [done]
    exact lineInv_of_counts (noticed t _)
      (lineInv_of_notMuted (by simpa using corrupt) (by simp) (by simpa using muted) (by simpa using held))

/-- The corrupt frame counter stays at 65535 at most (R28). -/
theorem corruptFrameEnds_keeps_lineInv (f : RawFrame) (p : Part) (h : LineInv p) : LineInv (corruptFrameEnds f p) := by
  unfold corruptFrameEnds
  split
  · obtain ⟨-, rest⟩ := h
    exact ⟨by simp, by simpa using rest⟩
  · exact h

/-- Every effect keeps the yard line's invariant. -/
theorem effect_keeps_lineInv (c : Instr) (p : Part) (h : LineInv p) : LineInv (effect c p) := by
  by_cases writes : writesCounts c = false
  · exact lineInv_of_counts (effect_keeps_counts c p writes) h
  · cases c with
    | frameAttemptStart => exact attemptStarts_keeps_lineInv p h
    | arbitrationLost bit => exact arbitrationIsLost_keeps_lineInv bit p h
    | transmitFault bit => exact transmitFaults_keeps_lineInv bit p h
    | mutedEnd => exact mutedEnds_keeps_lineInv p h
    | corruptFrame f => exact corruptFrameEnds_keeps_lineInv f p h
    | shedComplete => exact completion_keeps_lineInv _ _ p h (by simp)
    | loadComplete => exact completion_keeps_lineInv _ _ p h (by simp)
    | baystateComplete => exact completion_keeps_lineInv _ _ p h (by simp)
    | askComplete => exact completion_keeps_lineInv _ _ p h (by simp)
    | reportComplete => exact completion_keeps_lineInv _ _ p h (by simp)
    | _ => exact absurd rfl writes

/-! ## The reply jobs -/

/-- At most `n` jobs, and an orders-dropped counter of at most 255. -/
def Orders.fit (n : Nat) (o : Orders) : Prop := o.jobs.length ≤ n ∧ o.dropped ≤ 255

/-- The invariant of the reply jobs is that they fit their four places (R191). -/
theorem orderInv_iff (p : Part) : OrderInv p ↔ Orders.fit 4 p.orders := Iff.rfl

/-- The end of a revocation queues a job below `limit` alone. -/
theorem revocationEnd_fit {final : JobOutcome} {limit n : Nat} {p : Part} (hl : limit ≤ n)
    (h : Orders.fit n p.orders) : Orders.fit n (revocationEnd final limit p).orders := by
  obtain ⟨jobs, dropped⟩ := h
  unfold revocationEnd
  split
  · exact ⟨jobs, dropped⟩
  · dsimp only
    split
    · split
      · next room =>
        refine ⟨?_, dropped⟩
        simp only [queueJob_orders_jobs, List.length_append, List.length_singleton]
        omega
      · exact ⟨jobs, dropped⟩
    · exact ⟨by simpa using jobs, dropped⟩

/-- The same for the end of a revocation that has all four places. -/
@[simp] theorem revocationEnd_fit_jobLimit (final : JobOutcome) (p : Part) (h : Orders.fit 4 p.orders) :
    Orders.fit 4 (revocationEnd final jobLimit p).orders := revocationEnd_fit (Nat.le_refl 4) h

/-! ### The coach link and the bay -/

@[simp] theorem releaseEnds_fit (refused : Bool) (p : Part) (h : Orders.fit 4 p.orders) :
    Orders.fit 4 (releaseEnds refused p).orders := by
  simp only [releaseEnds]
  split <;> simp [h]

@[simp] theorem holdOutcome_fit (o : BayOutcome) (p : Part) (h : Orders.fit 4 p.orders) :
    Orders.fit 4 (holdOutcome o p).orders := by
  unfold holdOutcome
  (repeat' split) <;> simp [h]

@[simp] theorem releaseOutcome_fit (o : BayOutcome) (p : Part) (h : Orders.fit 4 p.orders) :
    Orders.fit 4 (releaseOutcome o p).orders := by
  simp only [releaseOutcome]
  (repeat' split) <;> simp [h]

@[simp] theorem bayLinkLost_fit (p : Part) (h : Orders.fit 4 p.orders) : Orders.fit 4 (bayLinkLost p).orders := by
  unfold bayLinkLost
  split <;> simp [h]

@[simp] theorem tearDown_fit (p : Part) (h : Orders.fit 4 p.orders) : Orders.fit 4 (tearDown p).orders := by
  simp [tearDown, h]

@[simp] theorem coachChange_fit (d : Identity) (p : Part) (h : Orders.fit 4 p.orders) :
    Orders.fit 4 (coachChange d p).orders := by
  simp [coachChange, h]

@[simp] theorem coupleFalls_fit (p : Part) (h : Orders.fit 4 p.orders) : Orders.fit 4 (coupleFalls p).orders := by
  unfold coupleFalls decoupled
  split <;> simp [h]

@[simp] theorem enterLost_fit (p : Part) (h : Orders.fit 4 p.orders) : Orders.fit 4 (enterLost p).orders := by
  simp [enterLost, h]

@[simp] theorem startTimerExpires_fit (p : Part) (h : Orders.fit 4 p.orders) :
    Orders.fit 4 (startTimerExpires p).orders := by
  unfold startTimerExpires
  split <;> simp [h]

@[simp] theorem acceptIdentity_fit (d : Identity) (p : Part) (h : Orders.fit 4 p.orders) :
    Orders.fit 4 (acceptIdentity d p).orders := by
  simp only [acceptIdentity]
  (repeat' split) <;> simp [h]

@[simp] theorem ackOutcome_fit (c : Command) (p : Part) (h : Orders.fit 4 p.orders) :
    Orders.fit 4 (ackOutcome c p).orders := by
  unfold ackOutcome
  (repeat' split) <;> simp [h]

@[simp] theorem refuseOutcome_fit (c : Command) (p : Part) (h : Orders.fit 4 p.orders) :
    Orders.fit 4 (refuseOutcome c p).orders := by
  unfold refuseOutcome
  split <;> simp [h]

@[simp] theorem failCommand_fit (f : InFlight) (p : Part) (h : Orders.fit 4 p.orders) :
    Orders.fit 4 (failCommand f p).orders := by
  unfold failCommand
  split <;> simp [h]

@[simp] theorem takeWait_fit (f : InFlight) (p : Part) (h : Orders.fit 4 p.orders) :
    Orders.fit 4 (takeWait f p).orders := by
  simp only [takeWait]
  split <;> simp [h]

/-- A judged word acts on the reply jobs through the outcomes of its command. -/
@[simp] theorem takeWord_fit (f : InFlight) (w : CoachWord) (p : Part) (h : Orders.fit 4 p.orders) :
    Orders.fit 4 (takeWord f w p).orders := by
  simp only [takeWord, takeData, takeLast, takeAck, takeRefuse]
  (repeat' split) <;> simp [h]

@[simp] theorem coachWord_fit (w : CoachWord) (p : Part) (h : Orders.fit 4 p.orders) :
    Orders.fit 4 (coachWord w p).orders := by
  simp only [coachWord]
  (repeat' split) <;> simp [h]

@[simp] theorem waitCountEnds_fit (p : Part) (h : Orders.fit 4 p.orders) : Orders.fit 4 (waitCountEnds p).orders := by
  simp only [waitCountEnds]
  (repeat' split) <;> simp [h]

/-! ### The line and the order handler -/

@[simp] theorem attemptStarts_fit (p : Part) (h : Orders.fit 4 p.orders) : Orders.fit 4 (attemptStarts p).orders := by
  have fixed : ∀ q : Part, Orders.fit 4 q.orders → Orders.fit 4 (fixHeadTotal q).orders := by
    intro q hq
    unfold fixHeadTotal
    split
    · next jobs => simpa [Orders.fit, jobs] using hq
    · exact hq
  simp only [attemptStarts, beginFrame]
  (repeat' split) <;> simp [h, fixed]

/-- The completion of a REPORT removes a job before a follow-up takes its place (R193, R194). -/
@[simp] theorem reportNotice_fit (t : Transmission) (p : Part) (h : Orders.fit 4 p.orders) :
    Orders.fit 4 (reportNotice t p).orders := by
  have sent : ∀ (j : Job) (q : Part), Orders.fit 4 q.orders → Orders.fit 4 (pendingSent j q).orders := by
    intro j q ⟨jobs, dropped⟩
    unfold pendingSent
    split
    · exact ⟨jobs, dropped⟩
    · split
      · next room => exact ⟨by simpa [jobLimit] using room, dropped⟩
      · exact ⟨jobs, dropped⟩
  simp only [reportNotice]
  split
  · next j js jobs =>
    simp only [Orders.fit, jobs, List.length_cons] at h
    split
    · exact h
    · have fewer : Orders.fit 4 { p.orders with jobs := js } := ⟨by dsimp only; omega, h.2⟩
      split
      · exact sent j _ fewer
      · exact fewer
  · exact h

@[simp] theorem dropOrder_fit (n : Nat) (p : Part) (h : Orders.fit n p.orders) : Orders.fit n (dropOrder p).orders := by
  unfold dropOrder
  split
  · next room => exact ⟨by simpa using h.1, by simpa using room⟩
  · exact h

/-- A revocation that is withdrawn keeps a place free for the job of the UNHOLD. -/
@[simp] theorem withdrawRevocation_fit (p : Part) (h : Orders.fit 3 p.orders) :
    Orders.fit 3 (withdrawRevocation p).orders := by
  unfold withdrawRevocation
  split
  · exact h
  · exact revocationEnd_fit (Nat.le_refl 3) h

@[simp] theorem unholdEffect_fit (p : Part) (h : Orders.fit 3 p.orders) : Orders.fit 3 (unholdEffect p).orders := by
  unfold unholdEffect
  split <;> simp [h]

/-- A bay reset keeps a place free for its own job (R187). -/
@[simp] theorem bayReset_fit (p : Part) (h : Orders.fit 3 p.orders) : Orders.fit 3 (bayReset p).orders := by
  have ended : ∀ q : Part, Orders.fit 3 q.orders →
      Orders.fit 3 (revocationEnd (.refused .wrongState) (jobLimit - 1) q).orders :=
    fun q hq => revocationEnd_fit (Nat.le_refl 3) hq
  simp only [bayReset]
  (repeat' split) <;> simp [h, ended]

@[simp] theorem holdEffect_fit (n : Nat) (o : Order) (p : Part) (h : Orders.fit n p.orders) :
    Orders.fit n (holdEffect o p).orders := by
  unfold holdEffect
  dsimp only
  split
  · exact h
  · exact h
  · simpa using h

/-- An order that finds room queues one job; its effect queues none beyond the third (R191, R192). -/
@[simp] theorem takeOrder_fit (o : Order) (r : OrderRule) (p : Part) (h : Orders.fit 4 p.orders)
    (effect : Orders.fit 3 p.orders → Orders.fit 3 (r.effect p).orders) : Orders.fit 4 (takeOrder o r p).orders := by
  have queued : ∀ (j : Job) (q : Part), Orders.fit 3 q.orders → Orders.fit 4 (queueJob j q).orders :=
    fun j q hq => ⟨by simpa using Nat.lt_succ_of_le hq.1, hq.2⟩
  unfold takeOrder
  split
  · split
    · next room =>
      have three : Orders.fit 3 p.orders := ⟨Nat.lt_succ_iff.mp room, h.2⟩
      unfold judgeOrder
      split
      · exact queued _ _ three
      · exact queued _ _ (effect three)
    · exact dropOrder_fit 4 p h
  · exact h

/-- What an order handed on leaves of the reply jobs. -/
@[simp] theorem receive_takeOrder_fit (sender : StationNo) (o : Order) (r : OrderRule) (p : Part)
    (h : Orders.fit 4 p.orders) (effect : ∀ q, Orders.fit 3 q.orders → Orders.fit 3 (r.effect q).orders) :
    Orders.fit 4 (receive sender 4 (takeOrder o r) p).orders :=
  receive_induct (I := fun q => Orders.fit 4 q.orders) sender 4 _ (by simp) (by simp)
    (fun q hq => takeOrder_fit o r q hq (effect q)) h

@[simp] theorem completion_fit (k : SendKind) (notice : Transmission → Part → Part) (p : Part)
    (h : Orders.fit 4 p.orders) (noticed : ∀ t q, Orders.fit 4 q.orders → Orders.fit 4 (notice t q).orders) :
    Orders.fit 4 (completion k notice p).orders := by
  obtain hc | ⟨t, -, hc⟩ := completion_cases k notice p
  · rwa [hc]
  · rw [hc]
    exact noticed t _ (by simpa using h)

/-- Every effect keeps the reply jobs within their places. -/
theorem effect_fit (c : Instr) (p : Part) (h : Orders.fit 4 p.orders) : Orders.fit 4 (effect c p).orders := by
  cases c with
  | orderHold o => exact receive_takeOrder_fit _ o _ p h (holdEffect_fit 3 o)
  | orderUnhold o => exact receive_takeOrder_fit _ o _ p h unholdEffect_fit
  | orderBayreset o => exact receive_takeOrder_fit _ o _ p h bayReset_fit
  | reportComplete => exact completion_fit _ _ p h reportNotice_fit
  | _ => simp [effect, h]

/-! ## Every step -/

/-- The part after START_UP meets the three invariants. -/
theorem started_clock_line_queue (straps : Straps) :
    ClockInv (Part.started straps) ∧ LineInv (Part.started straps) ∧ OrderInv (Part.started straps) := by
  unfold Part.started
  split <;> simp [ClockInv, LineInv, OrderInv, Part.strapFault, Part.initial]

/-- Settles O54: every effect keeps the clock in its range, the line's counts and the reply jobs in theirs. -/
theorem everyStepKeepsClockLineAndQueue : Obligations.EveryStepKeepsClockLineAndQueue := by
  intro s t hs h
  refine step_keeps (I := fun p => ClockInv p ∧ LineInv p ∧ OrderInv p) ?tick started_clock_line_queue ?inactive
    ?effects hs h
  case tick =>
    intro p hp
    unfold Part.tick
    split <;> exact hp
  case inactive =>
    rintro p ⟨clock, ⟨corrupt, faults, full, held, -⟩, orders⟩
    exact ⟨clock, ⟨corrupt, faults, full, held, fun _ => rfl⟩, orders⟩
  case effects =>
    rintro c p - ⟨clock, line, orders⟩
    have fits := effect_fit c p ((orderInv_iff p).mp orders)
    exact ⟨effect_keeps_clockInv c p clock, effect_keeps_lineInv c p line, (orderInv_iff _).mpr fits⟩

end Sys2Proof.Machine
end

section
/-! Chapter 1 and the machine: the commands outside normal operation, START_UP, STRAP FAULT and the reset, and the invariants that
every START_UP establishes. -/

namespace Sys2Proof.Machine

/-! ## Outside normal operation (R1, R4) -/

/-- Outside normal operation a command other than START_UP and RESET_ASSERTED has no effect. -/
theorem exec_outside (c : Instr) (s : State) (mode : s.part.mode ≠ .normal) (startUp : ∀ straps, c ≠ .startUp straps)
    (reset : c ≠ .resetAsserted) : exec c s = .next s := by
  rw [exec_eq]
  cases c with
  | startUp straps => exact absurd rfl (startUp straps)
  | resetAsserted => exact absurd rfl reset
  | _ => simp [Part.after, mode]

/-- Settles O2: every command answers by `exec_eq`, and outside normal operation by `exec_outside`. -/
theorem everyStepAnswersAndFewCommandsActOutsideNormal :
    Obligations.EveryStepAnswersAndFewCommandsActOutsideNormal :=
  ⟨fun _ empty => step_nil empty, fun c s => completes_of c s _ trivial, exec_outside⟩

/-! ## START_UP (R2, R3) -/

/-- A station number is valid from 1 to 59. -/
theorem validStation_iff (n : Nat) : validStation n = true ↔ 1 ≤ n ∧ n ≤ 59 := by
  simp [validStation]

/-- The part that START_UP leaves for a valid station number. -/
theorem started_valid {straps : Straps} (h : 1 ≤ straps.station.toNat ∧ straps.station.toNat ≤ 59) :
    Part.started straps = Part.initial (latchOf straps) :=
  if_pos ((validStation_iff _).mpr h)

/-- The part that START_UP leaves for any other. -/
theorem started_invalid {straps : Straps} (h : ¬(1 ≤ straps.station.toNat ∧ straps.station.toNat ≤ 59)) :
    Part.started straps = Part.strapFault (latchOf straps) :=
  if_neg (mt (validStation_iff _).mp h)

/-- START_UP latches the straps whatever the station number. -/
theorem started_latch (straps : Straps) : (Part.started straps).latch = latchOf straps := by
  unfold Part.started
  split <;> rfl

/-- The four feeder classes (R2), with what is available of each and its quiet allowance (R49). -/
theorem feederLimit_of_class (cls : BitVec 2) :
    feederLimit cls.toNat = [32, 63, 125, 250].getD cls.toNat 0
      ∧ available (feederLimit cls.toNat) = [28, 56, 110, 219].getD cls.toNat 0
      ∧ quietAllowance ([28, 56, 110, 219].getD cls.toNat 0) = [1, 3, 6, 13].getD cls.toNat 0 := by
  revert cls
  decide

/-- A strap group reads 0 exactly where its number is 0. -/
theorem lane_eq_zero_iff (lane : BitVec 4) : lane = 0 ↔ lane.toNat = 0 := by
  bv_omega

theorem started_mode (straps : Straps) : (Part.started straps).mode
    = (if 1 ≤ straps.station.toNat ∧ straps.station.toNat ≤ 59 then .normal else .strapFault) := by
  split
  · next h => rw [started_valid h]; rfl
  · next h => rw [started_invalid h]; rfl

/-- No lamp position is fitted at start-up. -/
theorem clearedLamps_unfitted : clearedLamps.length = 16
    ∧ ∀ l ∈ clearedLamps, l.fit = none ∧ l.verdict = .notFitted ∧ l.reading = none ∧ l.minute = none := by
  decide

/-- The lamp table has its sixteen positions in order. -/
theorem clearedLamps_positions : clearedLamps.map (·.position) = List.range 16 := by
  decide

/-- No remark is set at start-up. -/
theorem remarks_initial (r : Remark) : Remarks.get {} r = false := by
  cases r <;> rfl

/-- Settles O3: the latch and the mode of `Part.started`, and block by block the values of `Part.initial`. -/
theorem startUpSamplesTheStrapsAndSetsTheBlocks : Obligations.StartUpSamplesTheStrapsAndSetsTheBlocks := by
  refine ⟨fun straps s => completes_of _ s _ ?_, fun straps s low high => completes_of _ s _ ?_⟩
  · show _ ∧ _
    simp only [Part.after, Part.ownLimit, started_latch, started_mode, latchOf, lane_eq_zero_iff,
      (feederLimit_of_class straps.cls).1, and_self]
  · simp only [Part.after, started_valid ⟨low, high⟩]
    obtain ⟨-, availableOf, quietOf⟩ := feederLimit_of_class straps.cls
    refine ⟨rfl, rfl, rfl, rfl, ?_, rfl, rfl, rfl, rfl, rfl, rfl, rfl, rfl, rfl, rfl, rfl, rfl, rfl, rfl,
      clearedLamps_unfitted.1, clearedLamps_unfitted.2, rfl, rfl, rfl, rfl, rfl, rfl, rfl, rfl, rfl, rfl, rfl, rfl, rfl,
      rfl, rfl, rfl, rfl, rfl, rfl, rfl, rfl, remarks_initial, rfl⟩
    simp only [Part.initial, latchOf, availableOf, quietOf]

/-! ## STRAP FAULT (R4) and the reset (R1) -/

/-- Settles O4: the outputs of `Part.strapFault`, and `exec_outside` for every later command. -/
theorem strapFaultShowsTheRedFlashAndDoesNothingMore : Obligations.StrapFaultShowsTheRedFlashAndDoesNothingMore := by
  intro straps s invalid
  refine completes_of _ s _ ?_
  simp only [Part.after, started_invalid invalid]
  refine ⟨fun t => rfl, rfl, rfl, rfl, rfl, rfl, rfl, rfl, rfl, rfl, rfl, rfl, rfl, fun c queue startUp reset => ?_⟩
  exact exec_outside c _ (by simp [Part.strapFault]) startUp reset

/-- Settles O5: an inactive part drives no output, and only the mode, the transmission and the heater pin are written. -/
theorem resetAssertedSilencesEveryOutput : Obligations.ResetAssertedSilencesEveryOutput := by
  intro s
  refine completes_of _ s _ ⟨rfl, rfl, rfl, rfl, rfl, rfl, fun b hb => ?_⟩
  cases b with
  | mode | line | heat => simp at hb
  | _ => rfl

/-! ## The invariants at start-up -/

/-- What is to hold of a part at all times (the conjunction that O53 names). -/
def AllInvariants (p : Part) : Prop :=
  ClockInv p ∧ LineInv p ∧ PeerInv p ∧ PeerRemarkInv p ∧ GrantInv p ∧ DutyInv p ∧ ZeroInv p ∧ ReasonInv p ∧ ClearanceInv p
    ∧ BayEntryInv p ∧ FaultListInv p ∧ RosterInv p ∧ OrderInv p ∧ SweepInv p ∧ LinkInv p ∧ CoupleInv p ∧ BayInv p
    ∧ RevocationInv p

/-- An empty peer table gives the own feeder limit and no claim of the own lane. -/
theorem peerRemarkInv_initial (l : Latch) : PeerRemarkInv (Part.initial l) := by
  constructor
  · simp [Part.initial, Part.feederLimitInUse, Part.groupPeers, Part.ownLimit]
  · simp [Part.initial, Part.laneClashes, Part.claims]

theorem bayEntryInv_initial (l : Latch) : BayEntryInv (Part.initial l) := by
  refine ⟨?_, fun _ => rfl⟩
  show ([] : List (Nat × FaultClass)) = clearedLamps.filterMap _
  decide

theorem allInvariants_initial (l : Latch) : AllInvariants (Part.initial l) := by
  refine ⟨?_, ?_, ?_, peerRemarkInv_initial l, ?_, ?_, ?_, ?_, ?_, bayEntryInv_initial l, ?_, ?_, ?_, ?_, ?_, ?_, ?_, ?_⟩
  · simp [ClockInv, Part.initial]
  · simp [LineInv, Part.initial]
  · simp [PeerInv, Part.initial, strictlyRising]
  · simp [GrantInv, Part.initial]
  · simp [DutyInv, Part.initial, Part.heaterCurrent]
  · simp [ZeroInv, Part.initial]
  · rfl
  · simp [ClearanceInv, Part.initial, closedToChecks]
  · simp [FaultListInv, Part.initial, Faults.listed, Faults.ofClass, clearedLamps_positions]
  · simp [RosterInv, Part.initial]
  · simp [OrderInv, Part.initial]
  · simp [SweepInv, Part.initial, SweepStatus.isRunning]
  · simp [LinkInv, Part.initial]
  · simp [CoupleInv, Part.initial]
  · simp [BayInv, Part.initial, openState, closedToChecks]
  · simp [RevocationInv, Part.initial]

/-- STRAP FAULT differs from normal operation in the mode, the send requests and the conversion alone, of which no invariant
speaks. -/
theorem allInvariants_strapFault (l : Latch) : AllInvariants (Part.strapFault l) := allInvariants_initial l

/-- Settles O53. -/
theorem invariantsHoldAtResetAndAfterStartUp : Obligations.InvariantsHoldAtResetAndAfterStartUp := by
  rintro p (rfl | ⟨straps, s, started⟩)
  · exact allInvariants_initial resetLatch
  · rw [exec_eq] at started
    obtain rfl : Part.started straps = p := congrArg State.part (Host.Outcome.next.inj started)
    show AllInvariants _
    unfold Part.started
    split
    · exact allInvariants_initial _
    · exact allInvariants_strapFault _

end Sys2Proof.Machine
end

section
/-! The minute clock (chapter 1): minutes to departure and watches, the second, the TIME silence timer. -/

namespace Sys2Proof.Machine

/-! ## Minutes to departure and watches (R11, R12) -/

/-- M of two minutes of a day, by the case that the day between them falls in (R11). -/
theorem minutesTo_eq {now d : Nat} (hnow : now < 1440) (hd : d < 1440) :
    minutesTo now d = (if d - (now : Int) < -60 then d - (now : Int) + 1440
      else if 1379 < d - (now : Int) then d - (now : Int) - 1440 else d - (now : Int)) := by
  unfold minutesTo
  dsimp only
  (repeat' split) <;> omega

theorem minutesTo_bounds (now d : Nat) : -60 ≤ minutesTo now d ∧ minutesTo now d ≤ 1379 := by
  unfold minutesTo
  dsimp only
  split <;> omega

/-- A threshold is first observed where an ARMED watch meets it (R12). -/
theorem evaluateWatch_first_iff (w : Watch) (m x : Int) : (evaluateWatch w m x).2 = true ↔ w = .armed ∧ m ≤ x := by
  by_cases h : m ≤ x <;> cases w <;> simp [evaluateWatch, h]

/-- The watch after its evaluation (R12). -/
theorem evaluateWatch_watch (w : Watch) (m x : Int) :
    (evaluateWatch w m x).1 = if w = .notBegun then .notBegun else if m ≤ x then .passed else .armed := by
  by_cases h : m ≤ x <;> cases w <;> simp [evaluateWatch, h]

/-- Settles O8. -/
theorem minutesToDepartureAndWatches : Obligations.MinutesToDepartureAndWatches := by
  refine ⟨fun now d hnow hd => ?_, fun w m x => ⟨evaluateWatch_first_iff w m x, ?_⟩⟩
  · obtain ⟨low, high⟩ := minutesTo_bounds now d
    exact ⟨low, high, minutesTo_eq hnow hd⟩
  · rw [evaluateWatch_watch]
    by_cases h : m ≤ x <;> cases w <;> simp [h] <;> omega

/-! ## Frames of the clock's commands -/

/-- A minute event writes the blocks of the planner, the cache and the bay alone. -/
theorem minuteEvent_unchanged (p : Part) : unchangedExcept bayBlocks p (minuteEvent p) := by
  intro b hb
  cases b <;> simp_all [bayBlocks, agreeOn]

/-- So does a change of clock status. -/
theorem statusChanged_unchanged (p : Part) : unchangedExcept bayBlocks p (statusChanged p) := by
  intro b hb
  cases b <;> simp_all [bayBlocks, agreeOn]

/-- A second that ends, as one update of time and clock, and the minute event past 59 (R6). -/
theorem secondEnds_eq (p : Part) : secondEnds p =
    if p.clock.second < 59 then { p with osc := (secondEnds p).osc, clock := (secondEnds p).clock }
    else minuteEvent { p with osc := (secondEnds p).osc, clock := (secondEnds p).clock } := by
  unfold secondEnds nextSecond
  by_cases h : p.clock.second < 59 <;> simp [h]

theorem secondEnds_osc (p : Part) : (secondEnds p).osc = max p.osc p.clock.secondEnds := by
  unfold secondEnds
  dsimp only
  split <;> simp

/-- A second that ends writes time, the clock, and what its minute event writes. -/
theorem secondEnds_unchanged (p : Part) : unchangedExcept ([.osc, .clock] ++ bayBlocks) p (secondEnds p) := by
  intro b hb
  cases b <;> simp_all [bayBlocks, agreeOn]

/-! ## The TIME silence timer (R7) -/

/-- The bay leaves STANDBY on a change of clock status where a roster copy is held and the clock is not INVALID; else the planner
alone recomputes. -/
theorem statusChanged_eq_recompute (p : Part) (h : ¬(p.bay.state = .standby ∧ p.bay.roster.isSome)) :
    statusChanged p = recompute .clockStatus p := by
  unfold statusChanged tryPrepare
  rw [if_neg]
  simp only [recompute_keeps, Bool.and_eq_true, decide_eq_true_eq]
  exact fun ready => h ready.1

theorem timeSilenceExpires_eq {p : Part} {t : Moment} (h : p.clock.silence = some t) :
    timeSilenceExpires p = statusChanged
      { p with osc := max p.osc t, clock := { p.clock with status := .unconfirmed, silence := none } } := by
  simp [timeSilenceExpires, h, advanceTo]

/-- The expiry writes time, the clock, and what a change of clock status writes. -/
theorem timeSilenceExpires_unchanged (p : Part) :
    unchangedExcept ([.osc, .clock] ++ bayBlocks) p (timeSilenceExpires p) := by
  intro b hb
  cases b <;> simp_all [bayBlocks, agreeOn]

/-- Settles O6. -/
theorem clockAdvancesAndFallsSilent : Obligations.ClockAdvancesAndFallsSilent := by
  constructor
  · intro s mode
    refine ⟨secondEnds s.part, exec_normal mode (by simp) (by simp), secondEnds_osc _, secondEnds_clock _, ?_, ?_⟩
    · intro within
      rw [secondEnds_eq, if_pos within]
      intro b hb
      cases b <;> simp_all [agreeOn]
    · intro past
      refine ⟨?_, secondEnds_unchanged _⟩
      conv_lhs => rw [secondEnds_eq, if_neg past]
  · intro s t mode running
    refine ⟨timeSilenceExpires s.part, exec_normal mode (by simp) (by simp), timeSilenceExpires_clock _ t running, ?_, ?_,
      timeSilenceExpires_unchanged _⟩
    · simp [timeSilenceExpires_eq running]
    · intro bay
      simp only [timeSilenceExpires_eq running, statusChanged_keeps]
      exact statusChanged_eq_recompute _ bay

end Sys2Proof.Machine
end

section
/-! The minute event (R6): what the planner, the roster cache and the bay controller leave of the part, one after the other. -/

namespace Sys2Proof.Machine

/-! ## The clearance evaluation -/

/-- A change of bay state leaves the roster cache as it was but on leaving STANDBY (R174). -/
theorem setBayState_cache (new : BayState) (p : Part) (h : p.bay.state ≠ .standby) :
    (setBayState new p).cache = p.cache := by
  unfold setBayState
  split
  · rfl
  · unfold leaveState
    split
    · next standby => exact absurd standby h
    all_goals simp

/-- The rows of the evaluation's table (R179): a change to HELD, PREPARE or READY with the reasons as judged, or the way through
READY to RELEASING. -/
theorem evaluate_open_cases (p : Part) (h : openState p.bay.state = true) :
    (∃ new, openState new = true ∧ evaluate p = setBayState new (judge p))
      ∨ evaluate p = enterReleasing (setBayState .ready (judge p)) := by
  have placed : evaluate p = placeBay (judge p) := by
    unfold evaluate
    cases hs : p.bay.state <;> simp_all [openState]
  rw [placed]
  unfold placeBay
  split
  · exact .inl ⟨.held, rfl, rfl⟩
  · split
    · exact .inl ⟨.prepare, rfl, rfl⟩
    · dsimp only
      split
      · exact .inr rfl
      · exact .inl ⟨.ready, rfl, rfl⟩

@[simp] theorem judge_bay (p : Part) : (judge p).bay = { p.bay with reasons := Part.judgedReasons p } :=
  setReasons_bay _ p

@[simp] theorem judge_cache (p : Part) : (judge p).cache = p.cache := by
  simp [judge]

/-- In STANDBY an evaluation judges the reasons and no more. -/
theorem evaluate_standby (p : Part) (h : p.bay.state = .standby) : evaluate p = judge p := by
  simp [evaluate, h]

/-- An evaluation in a state of none of the four does nothing; in STANDBY it judges; else it takes a row of its table. -/
theorem evaluate_cases (p : Part) :
    evaluate p = p ∨ evaluate p = judge p
      ∨ (openState p.bay.state = true ∧ ∃ new, openState new = true ∧ evaluate p = setBayState new (judge p))
      ∨ (openState p.bay.state = true ∧ evaluate p = enterReleasing (setBayState .ready (judge p))) := by
  cases hs : p.bay.state with
  | standby => exact .inr (.inl (evaluate_standby p hs))
  | prepare | ready | held =>
    have opens : openState p.bay.state = true := by simp [hs, openState]
    exact .inr (.inr ((evaluate_open_cases p opens).imp (⟨by simp [openState], ·⟩) (⟨by simp [openState], ·⟩)))
  | empty | coupled | releasing | cleared => exact .inl (evaluate_elsewhere p (by simp [hs, heldCoach]))

/-- None of the three states of the evaluation is STANDBY. -/
theorem ne_standby_of_open {b : BayState} (h : openState b = true) : b ≠ .standby := by
  rintro rfl
  cases h

/-- An evaluation leaves the roster cache as it was: it leaves no STANDBY. -/
@[simp] theorem evaluate_cache (p : Part) : (evaluate p).cache = p.cache := by
  obtain h | h | ⟨opens, new, -, h⟩ | ⟨opens, h⟩ := evaluate_cases p
  · rw [h]
  · rw [h, judge_cache]
  · rw [h, setBayState_cache _ _ (by simpa using ne_standby_of_open opens), judge_cache]
  · have ready : (setBayState .ready (judge p)).cache = p.cache := by
      rw [setBayState_cache _ _ (by simpa using ne_standby_of_open opens), judge_cache]
    rw [h, enterReleasing, setBayState_cache _ _ (by simp)]
    simpa using ready

/-- An evaluation that ends in the state it found writes the plan no more than the judgement does (R102). -/
theorem evaluate_plan (p : Part) (h : (evaluate p).bay.state = p.bay.state) : (evaluate p).plan = p.plan := by
  obtain same | same | ⟨-, new, -, same⟩ | ⟨opens, same⟩ := evaluate_cases p
  · rw [same]
  · simp [same]
  · have stays : p.bay.state = new := by simpa [same] using h.symm
    simp [same, setBayState, stays]
  · have releasing : p.bay.state = .releasing := by simpa [same] using h.symm
    simp [releasing, openState] at opens

/-- An evaluation that does not end in RELEASING asks nothing of the link, the sweep or the fault list. -/
theorem evaluate_checks (p : Part) (h : (evaluate p).bay.state ≠ .releasing) :
    (evaluate p).faults = p.faults ∧ (evaluate p).link = p.link ∧ (evaluate p).sweep = p.sweep := by
  obtain same | same | ⟨-, new, -, same⟩ | ⟨-, same⟩ := evaluate_cases p
  · simp [same]
  · simp [same]
  · simp [same]
  · exact absurd (by simp [same]) h

/-- What an evaluation may write of the line is a request for BAYSTATE (R25). -/
theorem evaluate_raises (p : Part) : ∃ due, (evaluate p).line = Line.raised .baystate due p.line := by
  by_cases opens : openState p.bay.state = true
  · exact ⟨_, evaluate_line p opens⟩
  · cases hs : p.bay.state with
    | standby => exact ⟨_, by rw [evaluate_standby p hs, judge, setReasons_eq]⟩
    | prepare | ready | held => simp [hs, openState] at opens
    | empty | coupled | releasing | cleared =>
      exact ⟨false, by rw [evaluate_elsewhere p (by simp [hs, heldCoach])]; rfl⟩

/-- The reasons judged again are the same: the judgement reads nothing that it has written. -/
theorem judgedReasons_judge (p : Part) : Part.judgedReasons (judge p) = Part.judgedReasons p := by
  simp only [judge, setReasons_eq]
  rfl

/-! ## Requests on the line -/

/-- A request for BAYSTATE leaves flag and mark of ASK, and the transmission. -/
theorem raised_baystate_ask (due : Bool) (l : Line) :
    (Line.raised .baystate due l).flags.ask = l.flags.ask ∧ (Line.raised .baystate due l).marks.ask = l.marks.ask
      ∧ (Line.raised .baystate due l).tx = l.tx := by
  unfold Line.raised
  (repeat' split) <;> simp [SendFlags.put]

/-- A request for ASK reads and writes flag and mark of ASK and the transmission alone. -/
theorem raised_ask_congr (due : Bool) {l k : Line} (tx : l.tx = k.tx) (flag : l.flags.ask = k.flags.ask)
    (mark : l.marks.ask = k.marks.ask) :
    (Line.raised .ask due l).flags.ask = (Line.raised .ask due k).flags.ask
      ∧ (Line.raised .ask due l).marks.ask = (Line.raised .ask due k).marks.ask := by
  unfold Line.raised
  rw [tx]
  (repeat' split) <;> simp [SendFlags.put, flag, mark]

/-! ## The roster cache (R173, R174) -/

/-- What a minute event leaves of the cache. -/
theorem cacheMinute_cache (p : Part) : (cacheMinute p).cache = { p.cache with
    entries := purgeRoster p.clock.minute p.cache.entries
    askCount := if p.cache.want = none then p.cache.askCount else if 4 ≤ p.cache.askCount then 0
      else p.cache.askCount + 1 } := by
  unfold cacheMinute askCheck
  cases hw : p.cache.want with
  | none => simp [hw]
  | some n => by_cases h5 : 4 ≤ p.cache.askCount <;> simp [hw, h5]

/-- It raises ASK at the fifth minute of wanting. -/
theorem cacheMinute_line (p : Part) :
    (cacheMinute p).line = Line.raised .ask (p.cache.want.isSome && decide (4 ≤ p.cache.askCount)) p.line := by
  unfold cacheMinute askCheck
  cases hw : p.cache.want with
  | none => simp [hw, Line.raised]
  | some n => by_cases h5 : 4 ≤ p.cache.askCount <;> simp [hw, h5, raise_eq_raised, Line.raised]

/-! ## The clearance count (R185) -/

theorem clearanceMinute_bay (p : Part) : (clearanceMinute p).bay = { p.bay with
    clearance := if p.bay.clearance < 15 then p.bay.clearance + 1 else p.bay.clearance } := by
  unfold clearanceMinute
  split <;> simp

/-- The fifteenth minute sets STALE_CLEARANCE. -/
theorem clearanceMinute_stale (p : Part) :
    (clearanceMinute p).remarks.staleClearance = (p.remarks.staleClearance || p.bay.clearance == 14) := by
  unfold clearanceMinute clearanceCheck
  by_cases last : p.bay.clearance = 14
  · simp [last, setRemark_eq, Remarks.put]
  · by_cases below : p.bay.clearance < 15 <;> simp [below, last]

theorem clearanceMinute_raises (p : Part) : ∃ due, (clearanceMinute p).line = Line.raised .baystate due p.line := by
  unfold clearanceMinute clearanceCheck
  split
  · split
    · exact ⟨_, by rw [setRemark_eq]⟩
    · exact ⟨false, rfl⟩
  · exact ⟨false, rfl⟩

/-! ## The watches (R12, R180) -/

theorem ageAbove_eq (limit : Nat) (age : Option Nat) : ageAbove limit age = age.all (limit < ·) := by
  cases age <;> rfl

/-- A request to the fault list reads the bay state, the fault list and the link, and writes the latter two. -/
theorem faultRequest_congr (kind : OpKind) {p q : Part} (state : q.bay.state = p.bay.state) (faults : q.faults = p.faults)
    (link : q.link = p.link) :
    (faultRequest kind q).faults = (faultRequest kind p).faults ∧ (faultRequest kind q).link = (faultRequest kind p).link := by
  unfold faultRequest startOperation
  rw [state, faults, link]
  (repeat' split) <;> simp [faults, link, place, setSlot, waitOperation]

/-- A request for a sweep reads the sweep alone. -/
theorem sweepRequest_sweep (p : Part) : (sweepRequest p).sweep
    = if SweepStatus.isRunning p.sweep.status then p.sweep else { p.sweep with status := .requested } := by
  unfold sweepRequest
  split <;> rfl

/-- A full read is requested at M: at most 30, the watch ARMED, no read of the last 15 minutes (R180). -/
abbrev ReadDue (m : Int) (p : Part) : Prop :=
  p.bay.readWatch = .armed ∧ m ≤ 30 ∧ (completionAge p.clock.minute p.faults.lastRead).all (15 < ·) = true

/-- A sweep is requested at M: at most 20, the watch ARMED, no sweep of the last 29 minutes (R180). -/
abbrev SweepDue (m : Int) (p : Part) : Prop :=
  p.bay.sweepWatch = .armed ∧ m ≤ 20 ∧ (completionAge p.clock.minute p.sweep.last).all (30 ≤ ·) = true

/-- The bay record after the evaluation of its watches at M. -/
def Bay.watched (m : Int) (b : Bay) : Bay := { b with
  readWatch := (evaluateWatch b.readWatch m 30).1
  sweepWatch := (evaluateWatch b.sweepWatch m 20).1
  windowWatch := (evaluateWatch b.windowWatch m 5).1
  window := b.window || (evaluateWatch b.windowWatch m 5).2 }

theorem evaluateWatch_first (w : Watch) (m x : Int) : (evaluateWatch w m x).2 = (w == .armed && decide (m ≤ x)) := by
  rw [Bool.eq_iff_iff, evaluateWatch_first_iff]
  simp

/-- The evaluation of the three watches at M: the bay record, then the two requests. -/
theorem runWatches_eq {p : Part} {m : Int} (hm : Part.minutesToDeparture p = some m) :
    runWatches p = requestSweepIf (decide (SweepDue m p))
      (requestReadIf (decide (ReadDue m p)) { p with bay := Bay.watched m p.bay }) := by
  have sweep : ((evaluateWatch p.bay.sweepWatch m 20).2 && ageAbove 29 (completionAge p.clock.minute p.sweep.last))
      = decide (SweepDue m p) := by
    rw [Bool.eq_iff_iff]
    simp [SweepDue, evaluateWatch_first, ageAbove_eq, Nat.lt_iff_add_one_le, and_assoc]
  have read : ((evaluateWatch p.bay.readWatch m 30).2 && ageAbove 15 (completionAge p.clock.minute p.faults.lastRead))
      = decide (ReadDue m p) := by
    rw [Bool.eq_iff_iff]
    simp [ReadDue, evaluateWatch_first, ageAbove_eq, and_assoc]
  simp only [runWatches, hm, sweep, read]
  rfl

/-- What the evaluation of the three watches at M does, in the words of the statements (R12, R180). -/
theorem runWatches_watchesRun {p : Part} {m : Int} (hm : Part.minutesToDeparture p = some m) :
    WatchesRun m p.bay.window p (runWatches p) := by
  have bay : (runWatches p).bay = Bay.watched m p.bay := by simp [runWatches_eq hm]
  unfold WatchesRun
  rw [bay]
  refine ⟨rfl, rfl, rfl, by simp [Bay.watched, evaluateWatch_first], fun _ => ⟨?_, ?_⟩⟩
  · rw [runWatches_eq hm]
    by_cases due : ReadDue m p
    · rw [if_pos due, decide_eq_true due]
      simp only [requestSweepIf_keeps, requestReadIf, if_true]
      exact faultRequest_congr .read rfl rfl rfl
    · rw [if_neg due, decide_eq_false due]
      simp [requestReadIf]
  · rw [runWatches_eq hm]
    by_cases due : SweepDue m p
    · rw [if_pos due, decide_eq_true due]
      simp only [requestSweepIf, if_true, sweepRequest_sweep, requestReadIf_keeps]
    · rw [if_neg due, decide_eq_false due]
      simp [requestSweepIf]

/-- Where the evaluation of the watches starts from a part that agrees in what it reads, it is one from there too. -/
theorem watchesRun_of_agree {m : Int} {window : Bool} {p p' q : Part} (bay : p'.bay = p.bay) (clock : p'.clock = p.clock)
    (faults : p'.faults = p.faults) (link : p'.link = p.link) (sweep : p'.sweep = p.sweep) (h : WatchesRun m window p' q) :
    WatchesRun m window p q := by
  obtain ⟨readFaults, readLink⟩ := faultRequest_congr .read (congrArg Bay.state bay) faults link
  simpa only [WatchesRun, bay, clock, faults, link, sweep, readFaults, readLink, sweepRequest_sweep] using h

/-- The evaluation that follows the watches keeps what they have done, and what they asked for but on entry to RELEASING. -/
theorem watchesRun_evaluate {m : Int} {window : Bool} {p w : Part} (notReleasing : w.bay.state ≠ .releasing)
    (h : WatchesRun m window p w) : WatchesRun m window p (evaluate w) := by
  obtain ⟨read, sweep, departure, opened, asks⟩ := h
  refine ⟨by simpa using read, by simpa using sweep, by simpa using departure, by simpa using opened, fun state => ?_⟩
  obtain ⟨faultsKept, linkKept, sweepKept⟩ := evaluate_checks w state
  simpa only [faultsKept, linkKept, sweepKept] using asks notReleasing

/-- The note of an opening is none of what the watches do. -/
theorem watchesRun_noteOpening {m : Int} {window before : Bool} {p w : Part} (h : WatchesRun m window p w) :
    WatchesRun m window p (noteOpening before w) := by
  simpa [WatchesRun, noteOpening_bay] using h

/-! ## The bay controller's part of a minute event -/

/-- The part that the planner and the roster cache leave to the bay controller. -/
def beforeBay (p : Part) : Part := cacheMinute (recompute .minute p)

@[simp] theorem beforeBay_bay (p : Part) : (beforeBay p).bay = p.bay := by
  simp [beforeBay]

@[simp] theorem beforeBay_keeps (p : Part) :
    (beforeBay p).osc = p.osc ∧ (beforeBay p).clock = p.clock ∧ (beforeBay p).link = p.link
      ∧ (beforeBay p).sweep = p.sweep ∧ (beforeBay p).faults = p.faults
      ∧ (beforeBay p).plan = (recompute .minute p).plan ∧ (beforeBay p).remarks = (recompute .minute p).remarks := by
  simp [beforeBay]

/-- The part whose evaluation a minute event in PREPARE, READY and HELD ends in. -/
def watchedAtMinute (p : Part) : Part := noteOpening p.bay.window (runWatches (beforeBay p))

/-- The watches and the note leave the bay state. -/
@[simp] theorem watchedAtMinute_state (p : Part) : (watchedAtMinute p).bay.state = p.bay.state := by
  unfold watchedAtMinute
  rw [noteOpening_bay, runWatches_bay]
  split <;> simp

theorem minuteEvent_eq (p : Part) : minuteEvent p = bayMinute (beforeBay p) := rfl

/-- A minute event by bay state (R6). -/
theorem minuteEvent_cases (p : Part) :
    (p.bay.state = .standby → minuteEvent p = judge (beforeBay p))
      ∧ (openState p.bay.state = true → minuteEvent p = evaluate (watchedAtMinute p))
      ∧ (p.bay.state = .cleared → minuteEvent p = clearanceMinute (beforeBay p))
      ∧ (p.bay.state = .empty ∨ p.bay.state = .coupled ∨ p.bay.state = .releasing → minuteEvent p = beforeBay p) := by
  refine ⟨fun h => ?_, minuteEvent_open p, fun h => ?_, fun h => ?_⟩
  · rw [minuteEvent_eq, bayMinute, beforeBay_bay, h]
    exact evaluate_standby _ (by simp [h])
  · rw [minuteEvent_eq, bayMinute, beforeBay_bay, h]
  · rw [minuteEvent_eq, bayMinute, beforeBay_bay]
    obtain h | h | h := h <;> rw [h]

/-- A minute event ends in an evaluation or in a minute in CLEARED, from the cache and the line that the planner and the cache
leave. -/
theorem minuteEvent_ends (p : Part) : ∃ w, w.cache = (beforeBay p).cache ∧ w.line = (beforeBay p).line
    ∧ (minuteEvent p = evaluate w ∨ minuteEvent p = clearanceMinute w) := by
  obtain ⟨standby, opens, cleared, elsewhere⟩ := minuteEvent_cases p
  cases hs : p.bay.state with
  | standby => exact ⟨_, rfl, rfl, .inl (by rw [standby hs, evaluate_standby _ (by simp [hs])])⟩
  | prepare | ready | held =>
    exact ⟨watchedAtMinute p, by simp [watchedAtMinute], by simp [watchedAtMinute], .inl (opens (by simp [hs, openState]))⟩
  | cleared => exact ⟨_, rfl, rfl, .inr (cleared hs)⟩
  | empty | coupled | releasing =>
    exact ⟨_, rfl, rfl, .inl (by rw [elsewhere (by simp [hs]), evaluate_elsewhere _ (by simp [hs, heldCoach])])⟩

/-- The bay controller leaves the roster cache of a minute event as it is. -/
theorem minuteEvent_cache (p : Part) : (minuteEvent p).cache = { p.cache with
    entries := purgeRoster p.clock.minute p.cache.entries
    askCount := if p.cache.want = none then p.cache.askCount else if 4 ≤ p.cache.askCount then 0
      else p.cache.askCount + 1 } := by
  obtain ⟨w, cache, -, ends | ends⟩ := minuteEvent_ends p
  · rw [ends, evaluate_cache, cache, beforeBay, cacheMinute_cache]
    simp
  · have kept : (clearanceMinute w).cache = w.cache := by simp
    rw [ends, kept, cache, beforeBay, cacheMinute_cache]
    simp

/-- Flag and mark of ASK after a minute event: raised at the fifth minute of wanting, whatever BAYSTATE has been raised. -/
theorem minuteEvent_ask (p : Part) :
    (minuteEvent p).line.flags.ask
        = (Line.raised .ask (p.cache.want.isSome && decide (4 ≤ p.cache.askCount)) p.line).flags.ask
      ∧ (minuteEvent p).line.marks.ask
        = (Line.raised .ask (p.cache.want.isSome && decide (4 ≤ p.cache.askCount)) p.line).marks.ask := by
  obtain ⟨w, -, line, ends⟩ := minuteEvent_ends p
  have raises : ∃ due, (minuteEvent p).line = Line.raised .baystate due (beforeBay p).line := by
    rw [← line]
    obtain ends | ends := ends <;> rw [ends]
    · exact evaluate_raises w
    · exact clearanceMinute_raises w
  obtain ⟨due, raises⟩ := raises
  obtain ⟨flag, mark, -⟩ := raised_baystate_ask due (beforeBay p).line
  obtain ⟨flagBefore, markBefore, txBefore⟩ := raised_baystate_ask
    (decide ((recompute .minute p).remarks ≠ p.remarks)) p.line
  rw [raises, flag, mark, beforeBay, cacheMinute_line, recompute_line]
  simpa using raised_ask_congr _ txBefore flagBefore markBefore

/-- Past the planner a minute event writes the plan where the bay leaves its state alone. -/
theorem minuteEvent_plan (p : Part) (h : (minuteEvent p).bay.state = p.bay.state) :
    (minuteEvent p).plan = (recompute .minute p).plan := by
  obtain ⟨standby, opens, cleared, elsewhere⟩ := minuteEvent_cases p
  have watched : openState p.bay.state = true → (minuteEvent p).plan = (recompute .minute p).plan := by
    intro hs
    rw [opens hs] at h ⊢
    rw [evaluate_plan _ (by simpa using h)]
    simp [watchedAtMinute]
  cases hs : p.bay.state with
  | standby => simp [standby hs]
  | prepare | ready | held => exact watched (by simp [hs, openState])
  | cleared => simp [cleared hs]
  | empty | coupled | releasing => simp [elsewhere (by simp [hs])]

/-- The bay record before the evaluation: the watches, the window and the note of its opening are written (R180). -/
theorem watchedAtMinute_bay (p : Part) {w : Part} (h : w = watchedAtMinute p) :
    w.bay = { p.bay with readWatch := w.bay.readWatch, sweepWatch := w.bay.sweepWatch
                         windowWatch := w.bay.windowWatch, window := w.bay.window
                         openedAt := if p.bay.window = false ∧ w.bay.window = true ∧ p.bay.lanePass = false then some p.osc
                           else p.bay.openedAt } := by
  subst h
  unfold watchedAtMinute
  rw [noteOpening_bay, runWatches_bay]
  split
  · cases p.bay.window <;> simp
  · simp [and_assoc]

theorem minutesToDeparture_beforeBay (p : Part) :
    Part.minutesToDeparture (beforeBay p) = Part.minutesToDeparture p := by
  simp [Part.minutesToDeparture]

/-- What the three watches do at a minute event, before the evaluation and after it. -/
theorem watchesRun_atMinute {p : Part} (opens : openState p.bay.state = true) {m : Int}
    (hm : Part.minutesToDeparture p = some m) :
    WatchesRun m p.bay.window p (watchedAtMinute p) ∧ WatchesRun m p.bay.window p (evaluate (watchedAtMinute p)) := by
  have run := runWatches_watchesRun (p := beforeBay p) (by rw [minutesToDeparture_beforeBay, hm])
  have before : WatchesRun m p.bay.window p (watchedAtMinute p) := by
    refine watchesRun_noteOpening (watchesRun_of_agree ?_ ?_ ?_ ?_ ?_ (by simpa using run)) <;> simp
  refine ⟨before, watchesRun_evaluate ?_ before⟩
  rw [watchedAtMinute_state]
  intro releasing
  simp [releasing, openState] at opens

/-- Without a roster copy there is no M, and the watches do nothing. -/
theorem watchedAtMinute_of_noCopy {p : Part} (hm : Part.minutesToDeparture p = none) :
    watchedAtMinute p = beforeBay p := by
  have still : runWatches (beforeBay p) = beforeBay p := by
    simp [runWatches, minutesToDeparture_beforeBay, hm]
  simp [watchedAtMinute, still, noteOpening]

theorem beforeBay_unchanged (p : Part) : unchangedExcept [.cache, .line] (recompute .minute p) (beforeBay p) := by
  intro b hb
  cases b <;> simp_all [agreeOn, beforeBay]

theorem watchedAtMinute_unchanged (p : Part) :
    unchangedExcept [.cache, .line, .bay, .link, .sweep, .faults] (recompute .minute p) (watchedAtMinute p) := by
  intro b hb
  cases b <;> simp_all [agreeOn, watchedAtMinute, beforeBay]

theorem watchedAtMinute_line (p : Part) : (watchedAtMinute p).line
    = Line.raised .ask (p.cache.want.isSome && decide (4 ≤ p.cache.askCount)) (recompute .minute p).line := by
  simp [watchedAtMinute, beforeBay, cacheMinute_line]

/-- Settles O42: planner and cache first, then the bay controller by `minuteEvent_cases`. -/
theorem minuteEventServesCacheAndBay : Obligations.MinuteEventServesCacheAndBay := by
  rintro p q rfl
  obtain ⟨standby, opens, cleared, elsewhere⟩ := minuteEvent_cases p
  obtain ⟨flag, mark⟩ := minuteEvent_ask p
  have cache := minuteEvent_cache p
  refine ⟨congrArg Cache.entries cache, by rw [cache], congrArg Cache.askCount cache, flag, mark, fun hs => ?_,
    fun hs => ?_, minuteEvent_plan p, fun hs => ?_, fun hs => ?_, minuteEvent_unchanged p⟩
  · rw [cleared hs]
    have stale : (recompute .minute p).remarks.staleClearance = p.remarks.staleClearance :=
      recompute_remark .minute p .staleClearance (by decide)
    exact ⟨by simp [clearanceMinute_bay], by simp [clearanceMinute_stale, stale]⟩
  · rw [standby hs, judgedReasons_judge]
    simp
  · refine ⟨watchedAtMinute p, opens hs, watchedAtMinute_bay p rfl, fun m hm => ?_, fun hm => ?_, ?_, watchedAtMinute_line p,
      watchedAtMinute_unchanged p⟩
    · rw [opens hs]
      exact watchesRun_atMinute hs hm
    · rw [watchedAtMinute_of_noCopy hm]
      exact ⟨beforeBay_bay p, beforeBay_unchanged p⟩
    · rw [opens hs, evaluate_cache]
  · rw [elsewhere hs, beforeBay_bay]

end Sys2Proof.Machine
end

section
/-! TIME_FRAME (R8, R9): the roster cache under a new minute, the change of clock status, and the adoption as a whole. -/

namespace Sys2Proof.Machine

/-! ## The order of the roster cache (R171, R173) -/

theorem mem_insertRoster (now : Nat) (e x : RosterEntry) (es : List RosterEntry) :
    x ∈ insertRoster now e es ↔ x = e ∨ x ∈ es := by
  induction es with
  | nil => simp [insertRoster]
  | cons y ys ih =>
    unfold insertRoster
    split
    · simp
    · simp [ih, or_left_comm]

theorem before_trans {now : Nat} {a b c : RosterEntry} (hab : RosterEntry.before now a b = true)
    (hbc : RosterEntry.before now b c = true) : RosterEntry.before now a c = true := by
  simp only [RosterEntry.before, Bool.or_eq_true, Bool.and_eq_true, decide_eq_true_eq, beq_iff_eq] at *
  omega

/-- Of two entries of different coaches one stands before the other. -/
theorem before_of_not_before {now : Nat} {a b : RosterEntry} (coach : a.coach ≠ b.coach)
    (h : ¬RosterEntry.before now a b = true) : RosterEntry.before now b a = true := by
  simp only [RosterEntry.before, Bool.or_eq_true, Bool.and_eq_true, decide_eq_true_eq, beq_iff_eq] at *
  omega

/-- An entry of a coach that the list does not hold finds its place in the order. -/
theorem insertRoster_pairwise {now : Nat} {e : RosterEntry} {es : List RosterEntry}
    (sorted : es.Pairwise fun a b => RosterEntry.before now a b = true) (others : ∀ x ∈ es, e.coach ≠ x.coach) :
    (insertRoster now e es).Pairwise fun a b => RosterEntry.before now a b = true := by
  induction es with
  | nil => simp [insertRoster]
  | cons x xs ih =>
    obtain ⟨first, rest⟩ := List.pairwise_cons.mp sorted
    unfold insertRoster
    split
    · next h =>
      refine List.pairwise_cons.mpr ⟨fun y hy => ?_, sorted⟩
      obtain rfl | hy := List.mem_cons.mp hy
      · exact h
      · exact before_trans h (first y hy)
    · next h =>
      refine List.pairwise_cons.mpr ⟨fun y hy => ?_, ih rest fun y hy => others y (List.mem_cons_of_mem _ hy)⟩
      obtain rfl | hy := (mem_insertRoster now e y xs).mp hy
      · exact before_of_not_before (others x List.mem_cons_self) h
      · exact first y hy

theorem mem_sortRoster (now : Nat) (x : RosterEntry) (es : List RosterEntry) : x ∈ sortRoster now es ↔ x ∈ es := by
  induction es with
  | nil => rfl
  | cons y ys ih => simp [sortRoster, mem_insertRoster, ih]

/-- The entries of distinct coaches stand in the order of the cache once sorted. -/
theorem sortRoster_pairwise (now : Nat) {es : List RosterEntry} (coaches : (es.map (·.coach)).Nodup) :
    (sortRoster now es).Pairwise fun a b => RosterEntry.before now a b = true := by
  induction es with
  | nil => exact List.Pairwise.nil
  | cons x xs ih =>
    rw [List.map_cons, List.nodup_cons] at coaches
    obtain ⟨new, coaches⟩ := coaches
    refine insertRoster_pairwise (ih coaches) fun y hy same => new ?_
    exact List.mem_map.mpr ⟨y, (mem_sortRoster now y xs).mp hy, same.symm⟩

theorem mem_purgeRoster (now : Nat) (x : RosterEntry) (es : List RosterEntry) :
    x ∈ purgeRoster now es ↔ x ∈ es ∧ -30 ≤ minutesTo now x.departure := by
  unfold purgeRoster
  rw [List.mem_filter]
  exact and_congr_right fun _ => decide_eq_true_iff

/-! ## A change of clock status (R7, R177) -/

/-- A change of bay state writes the number the cache wants, and never its entries. -/
theorem setBayState_entries (new : BayState) (p : Part) : (setBayState new p).cache.entries = p.cache.entries := by
  unfold setBayState
  split
  · rfl
  · unfold leaveState
    split <;> simp [stopAsking]

/-- With its window closed, a bay that is evaluated in PREPARE, READY or HELD stays in one of them. -/
theorem evaluate_stays_open (p : Part) (opens : openState p.bay.state = true) (closed : p.bay.window = false) :
    openState (evaluate p).bay.state = true := by
  rw [(evaluate_placed p opens).2, closed]
  (repeat' split) <;> simp_all [openState]

/-- With a roster copy held the bay leaves STANDBY for PREPARE, its watches ARMED, and is evaluated there. -/
theorem statusChanged_eq_prepare {p : Part} (standby : p.bay.state = .standby) (copy : p.bay.roster.isSome)
    (dated : p.clock.status ≠ .invalid) :
    statusChanged p = evaluate (setBayState .prepare (setWatches .armed (recompute .clockStatus p))) := by
  simp [statusChanged, tryPrepare, standby, copy, dated]

/-! ## The adoption (R8, R9) -/

/-- The part whose clock has adopted a minute and a second and whose cache has followed a change of the minute. -/
def timeSet (minute second : Nat) (p : Part) : Part :=
  let clocked := { p with clock := {
    minute := minute, second := second, status := .valid
    silence := some (p.osc + timeSilencePeriod), secondEnds := p.osc + oneSecond } }
  if p.clock.minute != minute then cacheShift clocked else clocked

/-- The part that has been told of a change of clock status, where there is one. -/
def statusTold (changed : Bool) (p : Part) : Part := if changed then statusChanged p else p

/-- An adoption: clock and cache, then the change of status, then the minute event (R9, notes/assumptions/7). -/
theorem adoptTime_eq (minute second : Nat) (p : Part) : adoptTime minute second p =
    if p.clock.minute != minute then minuteEvent (statusTold (p.clock.status != .valid) (timeSet minute second p))
    else statusTold (p.clock.status != .valid) (timeSet minute second p) := rfl

@[simp] theorem timeSet_clock (minute second : Nat) (p : Part) : (timeSet minute second p).clock = {
    minute := minute, second := second, status := .valid
    silence := some (p.osc + 900000000), secondEnds := p.osc + 1000000 } := by
  unfold timeSet
  dsimp only
  split <;> simp [timeSilencePeriod, oneSecond]

theorem timeSet_unchanged (minute second : Nat) (p : Part) :
    unchangedExcept [.clock, .cache] p (timeSet minute second p) := by
  unfold timeSet
  intro b hb
  dsimp only
  split <;> cases b <;> simp_all [agreeOn]

theorem timeSet_cache_same {minute second : Nat} {p : Part} (same : minute = p.clock.minute) :
    (timeSet minute second p).cache = p.cache := by
  simp [timeSet, same]

/-- A change of the minute sorts and purges the cache under the new minute (R173). -/
theorem timeSet_cache_shift {minute second : Nat} {p : Part} (shift : minute ≠ p.clock.minute) :
    (timeSet minute second p).cache
      = { p.cache with entries := purgeRoster minute (sortRoster minute p.cache.entries) } := by
  simp [timeSet, Ne.symm shift, cacheShift]

@[simp] theorem timeSet_keeps (minute second : Nat) (p : Part) :
    (timeSet minute second p).osc = p.osc ∧ (timeSet minute second p).line = p.line
      ∧ (timeSet minute second p).bay = p.bay :=
  ⟨(timeSet_unchanged minute second p .osc (by simp)).symm, (timeSet_unchanged minute second p .line (by simp)).symm,
    (timeSet_unchanged minute second p .bay (by simp)).symm⟩

/-- The bay in STANDBY with a roster copy goes to PREPARE with its watches ARMED on a change of clock status (R177). -/
theorem statusChanged_prepares {p : Part} (standby : p.bay.state = .standby) (copy : p.bay.roster.isSome)
    (dated : p.clock.status ≠ .invalid) :
    (statusChanged p).bay.readWatch = .armed ∧ (statusChanged p).bay.sweepWatch = .armed
      ∧ (statusChanged p).bay.windowWatch = .armed ∧ (statusChanged p).bay.roster = p.bay.roster
      ∧ (statusChanged p).bay.window = p.bay.window
      ∧ (p.bay.window = false → openState (statusChanged p).bay.state = true)
      ∧ (statusChanged p).cache.entries = p.cache.entries := by
  rw [statusChanged_eq_prepare standby copy dated]
  refine ⟨by simp, by simp, by simp, by simp, by simp, fun closed => ?_, ?_⟩
  · exact evaluate_stays_open _ (by simp [openState]) (by simpa using closed)
  · rw [evaluate_cache, setBayState_entries]
    simp

/-! ## The frame -/

/-- A frame in range is adopted; any other leaves the part as its end has left it (R8, R198). -/
theorem takeTime_eq (b : TimePayload) (p : Part) : takeTime b p =
    if b.minute.toNat ≤ 1439 ∧ b.second.toNat ≤ 59 then adoptTime b.minute.toNat b.second.toNat p else p := rfl

/-- The adoption of a frame of another sender writes what its end, the clock and the bay's blocks hold. -/
theorem takeTime_unchanged (b : TimePayload) (p : Part) :
    unchangedExcept ([.osc, .clock] ++ bayBlocks) p (takeTime b (frameEnds 54 p)) := by
  intro k hk
  cases k <;> simp_all [bayBlocks, agreeOn]

/-- A frame under the own number writes at most what a number clash writes (R30). -/
theorem receive_own_unchanged (n : StationNo) (bytes : Nat) (hand : Part → Part) (p : Part)
    (own : n.toNat = p.latch.station) : unchangedExcept [.osc, .line, .remarks, .bay] p (receive n bytes hand p) := by
  rw [receive_own n bytes hand p own]
  intro b hb
  split <;> cases b <;> simp_all [agreeOn]

/-- What an adoption sets before any status change or minute event, from the part that the frame found (R9, R173). -/
theorem timeSet_frameEnds (minute second : Nat) (p w : Part) (h : w = timeSet minute second (frameEnds 54 p)) :
    unchangedExcept [.osc, .clock, .line, .cache] p w
      ∧ w.cache = { p.cache with entries := w.cache.entries }
      ∧ (minute = p.clock.minute → w.cache = p.cache)
      ∧ (minute ≠ p.clock.minute →
          (∀ x, x ∈ w.cache.entries ↔ x ∈ p.cache.entries ∧ -30 ≤ minutesTo minute x.departure)
          ∧ ((p.cache.entries.map (·.coach)).Nodup →
              w.cache.entries.Pairwise fun x y => RosterEntry.before minute x y = true)) := by
  subst h
  have unchanged : unchangedExcept [.osc, .clock, .line, .cache] p (timeSet minute second (frameEnds 54 p)) := by
    intro b hb
    have set := timeSet_unchanged minute second (frameEnds 54 p) b (by cases b <;> simp_all)
    cases b <;> simp_all [agreeOn]
  by_cases same : minute = p.clock.minute
  · have cache : (timeSet minute second (frameEnds 54 p)).cache = p.cache := timeSet_cache_same same
    exact ⟨unchanged, by rw [cache], fun _ => cache, fun shift => absurd same shift⟩
  · have cache : (timeSet minute second (frameEnds 54 p)).cache
        = { p.cache with entries := purgeRoster minute (sortRoster minute p.cache.entries) } := timeSet_cache_shift same
    refine ⟨unchanged, by rw [cache], fun h => absurd h same, fun _ => ?_⟩
    rw [cache]
    exact ⟨fun x => by rw [mem_purgeRoster, mem_sortRoster], fun coaches => (sortRoster_pairwise minute coaches).filter _⟩

/-- An adoption that changes neither minute nor status writes time, clock and line alone. -/
theorem adoptTime_same {minute second : Nat} {p : Part} (same : minute = p.clock.minute) (valid : p.clock.status = .valid) :
    adoptTime minute second p = timeSet minute second p := by
  simp [adoptTime_eq, statusTold, same, valid]

/-- Settles O7: the frame's end, then `adoptTime_eq` with `timeSet` as the part set and `statusTold` as the part told. -/
theorem timeFrameIsAdoptedInRange : Obligations.TimeFrameIsAdoptedInRange := by
  intro s n b mode
  generalize hq : receive n 3 (takeTime b) s.part = q
  refine ⟨q, hq ▸ exec_normal mode (by simp) (by simp), ?_, fun other => ?_, fun other minute second => ?_,
    fun other outside => ?_, fun own => ?_⟩
  · have kept := effect_keeps_counts (.timeFrame n b) s.part rfl
    rw [← hq]
    exact ((counts_eq_iff _ _).mp kept.1).2.2.2
  · rw [← hq, receive_other n 3 _ _ other]
    simp [frameBitCount]
  · have adopted : q = adoptTime b.minute.toNat b.second.toNat (frameEnds 54 s.part) := by
      rw [← hq, receive_other n 3 _ _ other, takeTime_eq, if_pos ⟨minute, second⟩]
      rfl
    have osc : q.osc = (frameEnds 54 s.part).osc := by simp [adopted]
    generalize hw : timeSet b.minute.toNat b.second.toNat (frameEnds 54 s.part) = w
    obtain ⟨unchanged, cache, cacheSame, cacheShifted⟩ := timeSet_frameEnds _ _ s.part w hw.symm
    have clock : q.clock = w.clock := by rw [adopted, adoptTime_clock, ← hw, timeSet_clock]
    have bay : w.bay = s.part.bay := by simp [← hw]
    have dated : w.clock.status ≠ .invalid := by simp [← hw]
    refine ⟨?_, ?_, ?_, w, statusTold (s.part.clock.status != .valid) w, unchanged, ?_, clock.symm, ?_, cache, cacheSame,
      cacheShifted, ?_, ?_, ?_, ?_, ?_⟩
    · rw [osc, adopted, adoptTime_clock]
    · rw [← hq, receive_other n 3 _ _ other]
      exact takeTime_unchanged b s.part
    · intro same valid
      rw [adopted, adoptTime_same (p := frameEnds 54 s.part) same valid, hw]
      intro k hk
      by_cases isCache : k = .cache
      · subst isCache
        exact (cacheSame same).symm
      · exact unchanged k (by simp_all)
    · simp [osc, ← hw]
    · simp [osc, ← hw]
    · intro valid
      simp [statusTold, valid]
    · intro changed staying
      rw [← bay] at staying
      simp [statusTold, changed, statusChanged_eq_recompute w staying]
    · intro changed standby copy
      rw [← bay] at standby copy ⊢
      have told : statusTold (s.part.clock.status != .valid) w = statusChanged w := by simp [statusTold, changed]
      obtain ⟨read, sweep, departure, copyKept, window, opens, entries⟩ := statusChanged_prepares standby copy dated
      rw [told]
      exact ⟨read, sweep, departure, copyKept, window, opens, entries, statusChanged_unchanged w⟩
    · intro shift
      rw [adopted, adoptTime_eq, hw, if_pos (by simpa using Ne.symm shift)]
      rfl
    · intro same
      rw [adopted, adoptTime_eq, hw, if_neg (by simp [same])]
      rfl
  · rw [← hq, receive_other n 3 _ _ other, takeTime_eq, if_neg outside]
    rfl
  · exact hq ▸ receive_own_unchanged n 3 _ _ own

end Sys2Proof.Machine
end

section
/-! Chapter 2: what the commands of the yard line interface leave of the part. -/

namespace Sys2Proof.Machine

/-! ## Timers (R24, R27, R65, R88) -/

theorem mutedEnds_eq {p : Part} {t : Moment} (h : p.line.muted = some t) : mutedEnds p = { p with
    osc := max p.osc t
    line := { p.line with muted := none, faults := 0 }
    share := { p.share with mutedHeld := false } } := by
  simp [mutedEnds, h, advanceTo]

theorem loadRefreshExpires_eq {p : Part} {t : Moment} (h : p.line.loadRefresh = some t) : loadRefreshExpires p = { p with
    osc := max p.osc t
    line := Line.raised .load true { p.line with loadRefresh := none } } := by
  simp [loadRefreshExpires, h, advanceTo, raise_eq_raised]

theorem baystateRefreshExpires_eq {p : Part} {t : Moment} (h : p.line.baystateRefresh = some t) :
    baystateRefreshExpires p = { p with
      osc := max p.osc t
      line := Line.raised .baystate true { p.line with baystateRefresh := none } } := by
  simp [baystateRefreshExpires, h, advanceTo, raise_eq_raised]

theorem shedLockEnds_eq {p : Part} {t : Moment} (h : p.share.shedLock = some t) : shedLockEnds p = { p with
    osc := max p.osc t
    share := { p.share with shedLock := none } } := by
  simp [shedLockEnds, h, advanceTo]

/-- Sixteen frames begin a self-test where none is due (R86, R88). -/
theorem selfTestCountEnds_eq (m : Measure) : selfTestCountEnds m =
    if m.selfTest = .notDue then { m with selfTest := .refloPending, reflo := none, frames := 0 }
    else { m with frames := 0 } := by
  unfold selfTestCountEnds
  cases h : m.selfTest <;> simp [selfTestCheck, dueSelfTest]

/-- What two parts in a row leave unchanged. -/
theorem unchangedExcept.trans {first second blocks : List Block} {p w q : Part} (before : unchangedExcept first p w)
    (after : unchangedExcept second w q) (sub : first ⊆ blocks) (sub' : second ⊆ blocks) :
    unchangedExcept blocks p q := by
  intro b hb
  have left := before b fun h => hb (sub h)
  have right := after b fun h => hb (sub' h)
  cases b <;> exact left.trans right

/-- A part that differs in time and line alone is unchanged elsewhere. -/
theorem unchanged_of_osc_line (p : Part) (t : Moment) (l : Line) :
    unchangedExcept [.osc, .line] p { p with osc := t, line := l } := by
  intro b hb
  cases b <;> simp_all [agreeOn]

/-- In normal operation a command completes with what its effect satisfies. -/
theorem completes_normal {c : Instr} {s : State} {post : Part → Prop} (mode : s.part.mode = .normal)
    (startUp : ∀ straps, c ≠ .startUp straps) (reset : c ≠ .resetAsserted) (h : post (effect c s.part)) :
    Completes c s post :=
  ⟨_, exec_normal mode startUp reset, h⟩

/-- Settles O12: each expiry as one update of the part. -/
theorem lineAndShareTimersExpire : Obligations.LineAndShareTimersExpire := by
  refine ⟨fun s t mode muted => completes_normal mode (by simp) (by simp) ?_,
    fun s t mode => ⟨fun running => completes_normal mode (by simp) (by simp) ?_,
      fun running => completes_normal mode (by simp) (by simp) ?_⟩,
    fun s t mode running => completes_normal mode (by simp) (by simp) ?_,
    fun s mode => completes_normal mode (by simp) (by simp) ?_⟩
  · rw [effect, mutedEnds_eq muted]
    exact ⟨rfl, rfl, rfl, fun b hb => by cases b <;> simp_all [agreeOn]⟩
  · rw [effect, loadRefreshExpires_eq running]
    exact ⟨rfl, rfl, unchanged_of_osc_line _ _ _⟩
  · rw [effect, baystateRefreshExpires_eq running]
    exact ⟨rfl, rfl, unchanged_of_osc_line _ _ _⟩
  · rw [effect, shedLockEnds_eq running]
    exact ⟨rfl, rfl, fun b hb => by cases b <;> simp_all [agreeOn]⟩
  · rw [effect]
    dsimp only
    rw [selfTestCountEnds_eq]
    exact ⟨fun h => if_pos h, fun h => if_neg h, fun b hb => by cases b <;> simp_all [agreeOn]⟩

end Sys2Proof.Machine
end

section
/-! The remarks that the yard line interface and the peer table write (R30, R39, R44, R46): no other block writes one of
them, and NUMBER_CLASH is left as it is by every block but the yard line interface. -/

namespace Sys2Proof.Machine

/-- The remarks of the yard line interface and the peer table. -/
def Remarks.yard (r : Remarks) : Bool × Bool × Bool × Bool :=
  (r.numberClash, r.peerOverflow, r.feederMismatch, r.laneClash)

/-- What leaves the four leaves NUMBER_CLASH. -/
theorem numberClash_of_yard {r q : Remarks} (h : Remarks.yard r = Remarks.yard q) : r.numberClash = q.numberClash :=
  congrArg Prod.fst h

/-! ## Requests, remarks, the plan and the share unit -/

@[simp] theorem setRemark_keeps_yard (k : Remark) (v : Bool) (p : Part)
    (h : k ≠ .numberClash ∧ k ≠ .peerOverflow ∧ k ≠ .feederMismatch ∧ k ≠ .laneClash) :
    Remarks.yard (setRemark k v p).remarks = Remarks.yard p.remarks := by
  unfold setRemark
  split
  · rfl
  · cases k <;> simp_all [Remarks.yard, Remarks.put]

@[simp] theorem judgePlanRemarks_keeps_yard (i : PlanInputs) (p : Part) :
    Remarks.yard (judgePlanRemarks i p).remarks = Remarks.yard p.remarks := by
  simp [judgePlanRemarks]

@[simp] theorem recompute_keeps_yard (t : Trigger) (p : Part) :
    Remarks.yard (recompute t p).remarks = Remarks.yard p.remarks := by
  simp [recompute]

@[simp] theorem clearFaults_keeps_yard (p : Part) :
    Remarks.yard (clearFaults p).remarks = Remarks.yard p.remarks := by
  simp [clearFaults]

/-! ## The bay controller -/

@[simp] theorem leaveState_keeps_yard (p : Part) :
    Remarks.yard (leaveState p).remarks = Remarks.yard p.remarks := by
  unfold leaveState
  split <;> simp

@[simp] theorem setBayState_keeps_yard (new : BayState) (p : Part) :
    Remarks.yard (setBayState new p).remarks = Remarks.yard p.remarks := by
  unfold setBayState
  split <;> simp

@[simp] theorem enterReleasing_keeps_yard (p : Part) :
    Remarks.yard (enterReleasing p).remarks = Remarks.yard p.remarks := by
  simp [enterReleasing]

@[simp] theorem placeBay_keeps_yard (p : Part) :
    Remarks.yard (placeBay p).remarks = Remarks.yard p.remarks := by
  simp only [placeBay]
  (repeat' split) <;> simp

@[simp] theorem evaluate_keeps_yard (p : Part) :
    Remarks.yard (evaluate p).remarks = Remarks.yard p.remarks := by
  unfold evaluate
  (repeat' split) <;> simp

@[simp] theorem tryPrepare_keeps_yard (p : Part) :
    Remarks.yard (tryPrepare p).remarks = Remarks.yard p.remarks := by
  unfold tryPrepare
  split <;> simp

@[simp] theorem copyArrives_keeps_yard (c : RosterCopy) (p : Part) :
    Remarks.yard (copyArrives c p).remarks = Remarks.yard p.remarks := by
  simp [copyArrives]

@[simp] theorem rosterLookup_keeps_yard (p : Part) :
    Remarks.yard (rosterLookup p).remarks = Remarks.yard p.remarks := by
  unfold rosterLookup
  (repeat' split) <;> simp

@[simp] theorem standBy_keeps_yard (p : Part) :
    Remarks.yard (standBy p).remarks = Remarks.yard p.remarks := by
  simp [standBy]

@[simp] theorem toStandby_keeps_yard (p : Part) :
    Remarks.yard (toStandby p).remarks = Remarks.yard p.remarks := by
  simp [toStandby]

@[simp] theorem clearanceCheck_keeps_yard (p : Part) :
    Remarks.yard (clearanceCheck p).remarks = Remarks.yard p.remarks := by
  unfold clearanceCheck
  split <;> simp

@[simp] theorem clearanceMinute_keeps_yard (p : Part) :
    Remarks.yard (clearanceMinute p).remarks = Remarks.yard p.remarks := by
  unfold clearanceMinute
  split <;> simp

@[simp] theorem bayMinute_keeps_yard (p : Part) :
    Remarks.yard (bayMinute p).remarks = Remarks.yard p.remarks := by
  unfold bayMinute
  split <;> simp

@[simp] theorem minuteEvent_keeps_yard (p : Part) :
    Remarks.yard (minuteEvent p).remarks = Remarks.yard p.remarks := by
  simp [minuteEvent]

@[simp] theorem setCopy_keeps_yard (c : RosterCopy) (p : Part) :
    Remarks.yard (setCopy c p).remarks = Remarks.yard p.remarks := by
  simp only [setCopy]
  (repeat' split) <;> simp

@[simp] theorem removeCopy_keeps_yard (p : Part) :
    Remarks.yard (removeCopy p).remarks = Remarks.yard p.remarks := by
  simp only [removeCopy]
  (repeat' split) <;> simp

@[simp] theorem returnToHeld_keeps_yard (r : ReturnReasons) (p : Part) :
    Remarks.yard (returnToHeld r p).remarks = Remarks.yard p.remarks := by
  simp only [returnToHeld]
  (repeat' split) <;> simp

@[simp] theorem laneViewChanged_keeps_yard (p : Part) :
    Remarks.yard (laneViewChanged p).remarks = Remarks.yard p.remarks := by
  unfold laneViewChanged
  split <;> simp

@[simp] theorem releaseEnds_keeps_yard (refused : Bool) (p : Part) :
    Remarks.yard (releaseEnds refused p).remarks = Remarks.yard p.remarks := by
  simp only [releaseEnds]
  (repeat' split) <;> simp

@[simp] theorem enterCleared_keeps_yard (p : Part) :
    Remarks.yard (enterCleared p).remarks = Remarks.yard p.remarks := by
  simp only [enterCleared]
  (repeat' split) <;> simp

@[simp] theorem holdOutcome_keeps_yard (o : BayOutcome) (p : Part) :
    Remarks.yard (holdOutcome o p).remarks = Remarks.yard p.remarks := by
  unfold holdOutcome
  (repeat' split) <;> simp

@[simp] theorem releaseOutcome_keeps_yard (o : BayOutcome) (p : Part) :
    Remarks.yard (releaseOutcome o p).remarks = Remarks.yard p.remarks := by
  simp only [releaseOutcome]
  (repeat' split) <;> simp

@[simp] theorem bayLinkLost_keeps_yard (p : Part) :
    Remarks.yard (bayLinkLost p).remarks = Remarks.yard p.remarks := by
  unfold bayLinkLost
  split <;> simp

@[simp] theorem departPress_keeps_yard (p : Part) :
    Remarks.yard (departPress p).remarks = Remarks.yard p.remarks := by
  simp only [departPress]
  (repeat' split) <;> simp

@[simp] theorem firstIdentity_keeps_yard (d : Identity) (p : Part) :
    Remarks.yard (firstIdentity d p).remarks = Remarks.yard p.remarks := by
  simp [firstIdentity]

@[simp] theorem clearBlocks_keeps_yard (p : Part) :
    Remarks.yard (clearBlocks p).remarks = Remarks.yard p.remarks := by
  simp [clearBlocks]

@[simp] theorem tearDown_keeps_yard (p : Part) :
    Remarks.yard (tearDown p).remarks = Remarks.yard p.remarks := by
  simp [tearDown]

@[simp] theorem decoupled_keeps_yard (p : Part) :
    Remarks.yard (decoupled p).remarks = Remarks.yard p.remarks := by
  simp [decoupled]

@[simp] theorem coachChange_keeps_yard (d : Identity) (p : Part) :
    Remarks.yard (coachChange d p).remarks = Remarks.yard p.remarks := by
  simp [coachChange]

@[simp] theorem bayReset_keeps_yard (p : Part) :
    Remarks.yard (bayReset p).remarks = Remarks.yard p.remarks := by
  simp only [bayReset]
  (repeat' split) <;> simp

/-! ## The clock -/

@[simp] theorem secondEnds_keeps_yard (p : Part) :
    Remarks.yard (secondEnds p).remarks = Remarks.yard p.remarks := by
  simp only [secondEnds]
  (repeat' split) <;> simp

@[simp] theorem statusChanged_keeps_yard (p : Part) :
    Remarks.yard (statusChanged p).remarks = Remarks.yard p.remarks := by
  simp [statusChanged]

@[simp] theorem timeSilenceExpires_keeps_yard (p : Part) :
    Remarks.yard (timeSilenceExpires p).remarks = Remarks.yard p.remarks := by
  unfold timeSilenceExpires
  split <;> simp

@[simp] theorem adoptTime_keeps_yard (m n : Nat) (p : Part) :
    Remarks.yard (adoptTime m n p).remarks = Remarks.yard p.remarks := by
  simp only [adoptTime]
  (repeat' split) <;> simp

@[simp] theorem takeTime_keeps_yard (t : TimePayload) (p : Part) :
    Remarks.yard (takeTime t p).remarks = Remarks.yard p.remarks := by
  unfold takeTime
  split <;> simp

/-! ## Peers -/

/-- Setting another remark leaves NUMBER_CLASH. -/
@[simp] theorem setRemark_keeps_numberClash (k : Remark) (v : Bool) (p : Part) (h : k ≠ .numberClash) :
    (setRemark k v p).remarks.numberClash = p.remarks.numberClash :=
  setRemark_get_other .numberClash k v p h.symm

@[simp] theorem laneViewChanged_keeps_numberClash (p : Part) :
    (laneViewChanged p).remarks.numberClash = p.remarks.numberClash :=
  numberClash_of_yard (laneViewChanged_keeps_yard p)

@[simp] theorem afterPeers_keeps_numberClash (v : List Position) (p : Part) :
    (afterPeers v p).remarks.numberClash = p.remarks.numberClash := by
  simp only [afterPeers]
  (repeat' split) <;> simp

@[simp] theorem overflowBegins_keeps_numberClash (p : Part) :
    (overflowBegins p).remarks.numberClash = p.remarks.numberClash := by
  unfold overflowBegins
  split <;> simp

@[simp] theorem overflowEnds_keeps_numberClash (p : Part) :
    (overflowEnds p).remarks.numberClash = p.remarks.numberClash := by
  unfold overflowEnds
  split <;> simp

@[simp] theorem deletionOf_keeps_numberClash (n : Nat) (p : Part) :
    (deletionOf n p).remarks.numberClash = p.remarks.numberClash := by
  simp [deletionOf]

@[simp] theorem writePeer_keeps_numberClash (e : Peer) (p : Part) :
    (writePeer e p).remarks.numberClash = p.remarks.numberClash := by
  simp [writePeer]

@[simp] theorem peerArrives_keeps_numberClash (f : PeerFields) (p : Part) :
    (peerArrives f p).remarks.numberClash = p.remarks.numberClash := by
  unfold peerArrives
  (repeat' split) <;> simp

@[simp] theorem arrivesIfGood_keeps_numberClash (f : Option PeerFields) (p : Part) :
    (arrivesIfGood f p).remarks.numberClash = p.remarks.numberClash := by
  unfold arrivesIfGood
  split <;> simp

@[simp] theorem peerAges_keeps_numberClash (n : Nat) (p : Part) :
    (peerAges n p).remarks.numberClash = p.remarks.numberClash := by
  unfold peerAges
  (repeat' split) <;> simp

@[simp] theorem ghostAges_keeps_numberClash (n : Nat) (p : Part) :
    (ghostAges n p).remarks.numberClash = p.remarks.numberClash := by
  unfold ghostAges
  (repeat' split) <;> simp

/-! ## The yard line's own timers -/

/-! ## The sweep, the heat frame and the fault list -/

@[simp] theorem completeSweep_keeps_yard (p : Part) :
    Remarks.yard (completeSweep p).remarks = Remarks.yard p.remarks := by
  simp [completeSweep]

@[simp] theorem lampsOutcome_keeps_yard (o : LampsOutcome) (p : Part) :
    Remarks.yard (lampsOutcome o p).remarks = Remarks.yard p.remarks := by
  unfold lampsOutcome
  (repeat' split) <;> simp

@[simp] theorem setChain_keeps_yard (c : ChainStatus) (p : Part) :
    Remarks.yard (setChain c p).remarks = Remarks.yard p.remarks := by
  simp only [setChain]
  (repeat' split) <;> simp

@[simp] theorem refhiEnds_keeps_yard (c : Code) (p : Part) :
    Remarks.yard (refhiEnds c p).remarks = Remarks.yard p.remarks := by
  unfold refhiEnds
  split
  case h_1 h =>
    have kept := takeConversion_keeps h
    (repeat' split) <;> simp [kept]
  all_goals rfl

@[simp] theorem completeRead_keeps_yard (p : Part) :
    Remarks.yard (completeRead p).remarks = Remarks.yard p.remarks := by
  simp [completeRead]

@[simp] theorem nextRecord_keeps_yard (p : Part) :
    Remarks.yard (nextRecord p).remarks = Remarks.yard p.remarks := by
  simp only [nextRecord]
  (repeat' split) <;> simp

@[simp] theorem takeRecord_keeps_yard (ws : List Word16) (p : Part) :
    Remarks.yard (takeRecord ws p).remarks = Remarks.yard p.remarks := by
  unfold takeRecord
  (repeat' split) <;> simp

@[simp] theorem faultOutcome_keeps_yard (c : CommandCode) (o : FaultOutcome) (p : Part) :
    Remarks.yard (faultOutcome c o p).remarks = Remarks.yard p.remarks := by
  simp only [faultOutcome]
  (repeat' split) <;> simp

/-! ## The coach link -/

@[simp] theorem enterLost_keeps_yard (p : Part) :
    Remarks.yard (enterLost p).remarks = Remarks.yard p.remarks := by
  simp [enterLost]

@[simp] theorem acceptIdentity_keeps_yard (d : Identity) (p : Part) :
    Remarks.yard (acceptIdentity d p).remarks = Remarks.yard p.remarks := by
  simp only [acceptIdentity]
  (repeat' split) <;> simp

@[simp] theorem ackOutcome_keeps_yard (c : Command) (p : Part) :
    Remarks.yard (ackOutcome c p).remarks = Remarks.yard p.remarks := by
  unfold ackOutcome
  (repeat' split) <;> simp

@[simp] theorem lastOutcome_keeps_yard (c : Command) (ws : List Word16) (p : Part) :
    Remarks.yard (lastOutcome c ws p).remarks = Remarks.yard p.remarks := by
  unfold lastOutcome
  split <;> simp

@[simp] theorem refuseOutcome_keeps_yard (c : Command) (p : Part) :
    Remarks.yard (refuseOutcome c p).remarks = Remarks.yard p.remarks := by
  unfold refuseOutcome
  split <;> simp

@[simp] theorem failedOutcome_keeps_yard (c : Command) (p : Part) :
    Remarks.yard (failedOutcome c p).remarks = Remarks.yard p.remarks := by
  unfold failedOutcome
  split <;> simp

@[simp] theorem failCommand_keeps_yard (f : InFlight) (p : Part) :
    Remarks.yard (failCommand f p).remarks = Remarks.yard p.remarks := by
  unfold failCommand
  (repeat' split) <;> simp

@[simp] theorem takeWait_keeps_yard (f : InFlight) (p : Part) :
    Remarks.yard (takeWait f p).remarks = Remarks.yard p.remarks := by
  simp only [takeWait]
  (repeat' split) <;> simp

@[simp] theorem takeData_keeps_yard (f : InFlight) (w : Word16) (p : Part) :
    Remarks.yard (takeData f w p).remarks = Remarks.yard p.remarks := by
  unfold takeData
  split <;> simp

@[simp] theorem takeLast_keeps_yard (f : InFlight) (w : Word16) (p : Part) :
    Remarks.yard (takeLast f w p).remarks = Remarks.yard p.remarks := by
  simp only [takeLast]
  (repeat' split) <;> simp

@[simp] theorem takeAck_keeps_yard (f : InFlight) (p : Part) :
    Remarks.yard (takeAck f p).remarks = Remarks.yard p.remarks := by
  simp only [takeAck]
  (repeat' split) <;> simp

@[simp] theorem takeRefuse_keeps_yard (f : InFlight) (w : Word16) (p : Part) :
    Remarks.yard (takeRefuse f w p).remarks = Remarks.yard p.remarks := by
  simp only [takeRefuse]
  (repeat' split) <;> simp

@[simp] theorem takeWord_keeps_yard (f : InFlight) (w : CoachWord) (p : Part) :
    Remarks.yard (takeWord f w p).remarks = Remarks.yard p.remarks := by
  unfold takeWord
  split <;> simp

@[simp] theorem coachWord_keeps_yard (w : CoachWord) (p : Part) :
    Remarks.yard (coachWord w p).remarks = Remarks.yard p.remarks := by
  simp only [coachWord]
  (repeat' split) <;> simp

@[simp] theorem waitCountEnds_keeps_yard (p : Part) :
    Remarks.yard (waitCountEnds p).remarks = Remarks.yard p.remarks := by
  unfold waitCountEnds
  (repeat' split) <;> simp

@[simp] theorem startTimerExpires_keeps_yard (p : Part) :
    Remarks.yard (startTimerExpires p).remarks = Remarks.yard p.remarks := by
  unfold startTimerExpires
  split <;> simp

/-! ## Rosters, couple sense and orders -/

@[simp] theorem takeCancel_keeps_yard (n : Nat) (p : Part) :
    Remarks.yard (takeCancel n p).remarks = Remarks.yard p.remarks := by
  simp only [takeCancel]
  (repeat' split) <;> simp

@[simp] theorem takeEntry_keeps_yard (e : RosterEntry) (p : Part) :
    Remarks.yard (takeEntry e p).remarks = Remarks.yard p.remarks := by
  simp only [takeEntry]
  (repeat' split) <;> simp

@[simp] theorem takeRosterFrame_keeps_yard (b : RosterPayload) (p : Part) :
    Remarks.yard (takeRosterFrame b p).remarks = Remarks.yard p.remarks := by
  unfold takeRosterFrame
  (repeat' split) <;> simp

@[simp] theorem coupleRises_keeps_yard (p : Part) :
    Remarks.yard (coupleRises p).remarks = Remarks.yard p.remarks := by
  unfold coupleRises
  split <;> simp

@[simp] theorem coupleFalls_keeps_yard (p : Part) :
    Remarks.yard (coupleFalls p).remarks = Remarks.yard p.remarks := by
  unfold coupleFalls
  split <;> simp

@[simp] theorem clearanceCountEnds_keeps_yard (p : Part) :
    Remarks.yard (clearanceCountEnds p).remarks = Remarks.yard p.remarks := by
  unfold clearanceCountEnds
  split <;> simp

@[simp] theorem holdEffect_keeps_yard (o : Order) (p : Part) :
    Remarks.yard (holdEffect o p).remarks = Remarks.yard p.remarks := by
  unfold holdEffect
  (repeat' split) <;> simp

@[simp] theorem unholdEffect_keeps_yard (p : Part) :
    Remarks.yard (unholdEffect p).remarks = Remarks.yard p.remarks := by
  unfold unholdEffect
  split <;> simp

@[simp] theorem lanepassEffect_keeps_yard (p : Part) :
    Remarks.yard (lanepassEffect p).remarks = Remarks.yard p.remarks := by
  simp [lanepassEffect]

@[simp] theorem takeOrder_keeps_yard (o : Order) (r : OrderRule) (p : Part)
    (h : Remarks.yard (r.effect p).remarks = Remarks.yard p.remarks) :
    Remarks.yard (takeOrder o r p).remarks = Remarks.yard p.remarks := by
  unfold takeOrder judgeOrder
  (repeat' split) <;> simp [h]

@[simp] theorem completion_keeps_yard (k : SendKind) (notice : Transmission → Part → Part) (p : Part)
    (h : ∀ t q, Remarks.yard (notice t q).remarks = Remarks.yard q.remarks) :
    Remarks.yard (completion k notice p).remarks = Remarks.yard p.remarks := by
  obtain same | ⟨t, -, done⟩ := completion_cases k notice p
  · rw [same]
  · rw [done, h]
    simp

/-! ## NUMBER_CLASH (R30) -/

@[simp] theorem fromBayPost_keeps_numberClash (sender : StationNo) (hand : Part → Part) (p : Part)
    (h : (hand p).remarks.numberClash = p.remarks.numberClash) :
    (fromBayPost sender hand p).remarks.numberClash = p.remarks.numberClash := by
  unfold fromBayPost
  split <;> simp [h]

/-- The block that takes a frame leaves NUMBER_CLASH as it is. -/
theorem effect_hands {c : Instr} {n : StationNo} (h : senderOf c = some n) : ∃ bytes hand,
    effect c = receive n bytes hand ∧ ∀ q, (hand q).remarks.numberClash = q.remarks.numberClash := by
  cases c <;> simp only [senderOf, reduceCtorEq, Option.some.injEq] at h <;> subst h <;>
    refine ⟨_, _, rfl, fun q => ?_⟩
  case shedFrame | loadFrame | baystateFrame => simp
  all_goals exact numberClash_of_yard (by simp)

/-- A command that is no frame received leaves NUMBER_CLASH as it is. -/
theorem effect_numberClash_of_noSender (c : Instr) (p : Part) (h : senderOf c = none) :
    (effect c p).remarks.numberClash = p.remarks.numberClash := by
  cases c <;> simp only [senderOf, reduceCtorEq] at h <;> rw [effect]
  case peerAgeing60s | ghostAgeing180s => simp
  all_goals exact numberClash_of_yard (by simp)

end Sys2Proof.Machine
end

section
/-! Chapter 2: the end of an attempt, the frames that no block takes, and number clashes. -/

namespace Sys2Proof.Machine

/-! ## The bits of a frame (R14) -/

@[simp] theorem msbFirst_length (n v : Nat) : (msbFirst n v).length = n := by
  induction n with
  | zero => rfl
  | succ n ih => simp [msbFirst, ih]

/-- The bits of a number stand most significant first. -/
theorem msbFirst_getElem? {n i : Nat} (v : Nat) (h : i < n) : (msbFirst n v)[i]? = some (v.testBit (n - 1 - i)) := by
  induction n generalizing i with
  | zero => exact absurd h (Nat.not_lt_zero i)
  | succ n ih =>
    cases i with
    | zero => simp [msbFirst]
    | succ i =>
      rw [msbFirst, List.getElem?_cons_succ, ih (Nat.lt_of_succ_lt_succ h)]
      congr 2
      omega

/-- The arbitration value follows the start bit (R14). -/
theorem drivenBits_arbitration (p : Part) (t : Transmission) (bit : Fin 9) : (Part.drivenBits p t)[bit.val + 1]?
    = some ((arbitrationOf (sendKindCode t.kind) p.latch.station).testBit (8 - bit.val)) := by
  have inside : bit.val < (msbFirst 9 (arbitrationOf (sendKindCode t.kind) p.latch.station)).length := by simp
  simp only [Part.drivenBits, frameBits, coveredBits, List.cons_append, List.append_assoc, List.getElem?_cons_succ]
  rw [List.getElem?_append_left inside, msbFirst_getElem? _ bit.isLt]

/-! ## The end of an attempt (R17, R18, R26) -/

theorem arbitrationIsLost_eq {bit : Fin 9} {p : Part} {t : Transmission} (tx : p.line.tx = some t)
    (recessive : (Part.drivenBits p t)[bit.val + 1]? = some true) :
    arbitrationIsLost bit p = attemptEnds t (bitRead t (bit.val + 1) p) := by
  simp [arbitrationIsLost, tx, recessive]

theorem transmitFaults_eq {bit : Nat} {p : Part} {t : Transmission} {level : Bool} (tx : p.line.tx = some t)
    (driven : (Part.drivenBits p t)[bit]? = some level) (fault : 10 ≤ bit ∨ level = false) :
    transmitFaults bit p = countFault (attemptEnds t (bitRead t bit p)) := by
  have counts : faultAt (Part.drivenBits p t) bit = true := by
    simpa [faultAt, driven] using fault
  simp [transmitFaults, tx, counts]

/-- A fault before the sixteenth is counted and no more (R26). -/
theorem countFault_below {p : Part} (h : p.line.faults < 15) :
    countFault p = { p with line := { p.line with faults := p.line.faults + 1 } } :=
  if_pos (by omega)

/-- The sixteenth begins MUTED, which the share unit is told (R26, R27). -/
theorem countFault_sixteenth {p : Part} (h : 15 ≤ p.line.faults) : countFault p = { p with
    line := { p.line with faults := 16, muted := some (p.osc + mutedPeriod) }
    share := { p.share with mutedHeld := true } } :=
  if_neg (by omega)

/-- A counted fault writes the fault count, MUTED and the share unit's notice alone. -/
theorem countFault_keeps_line (p : Part) :
    (countFault p).line.tx = p.line.tx ∧ (countFault p).line.flags = p.line.flags
      ∧ (countFault p).line.marks = p.line.marks ∧ (countFault p).line.receiving = p.line.receiving
      ∧ (countFault p).line.corrupt = p.line.corrupt ∧ (countFault p).line.loadRefresh = p.line.loadRefresh
      ∧ (countFault p).line.baystateRefresh = p.line.baystateRefresh := by
  unfold countFault
  split <;> simp

theorem countFault_unchanged (p : Part) : unchangedExcept [.line, .share] p (countFault p) := by
  intro b hb
  unfold countFault
  split <;> cases b <;> simp_all [agreeOn]

/-- Settles O11. -/
theorem lossOfContentionAndTransmitFault : Obligations.LossOfContentionAndTransmitFault := by
  refine ⟨fun s t bit mode tx recessive => completes_normal mode (by simp) (by simp) ?_,
    fun s t bit level mode tx driven fault => completes_normal mode (by simp) (by simp) ?_⟩
  · rw [effect, arbitrationIsLost_eq tx (by rw [drivenBits_arbitration, recessive])]
    exact ⟨rfl, rfl, unchanged_of_osc_line _ _ _⟩
  · rw [effect, transmitFaults_eq tx driven fault]
    obtain ⟨txKept, flags, marks, receiving, corrupt, load, baystate⟩ :=
      countFault_keeps_line (attemptEnds t (bitRead t bit s.part))
    refine ⟨by simp [bitTime], txKept, flags, marks, receiving, fun below => ?_, fun full => ?_, corrupt, load, baystate,
      (unchanged_of_osc_line _ _ _).trans (countFault_unchanged _) (by simp) (by simp)⟩
    · rw [countFault_below (p := attemptEnds t (bitRead t bit s.part)) below]
      exact ⟨rfl, rfl, rfl⟩
    · rw [countFault_sixteenth (p := attemptEnds t (bitRead t bit s.part)) full]
      exact ⟨rfl, rfl, rfl⟩

/-! ## Frames that no block takes (R28 to R31) -/

/-- No row that names a sender is START_UP or RESET_ASSERTED. -/
theorem acts_of_senderOf {c : Instr} {n : StationNo} (h : senderOf c = some n) :
    (∀ straps, c ≠ .startUp straps) ∧ c ≠ .resetAsserted := by
  constructor
  · rintro straps rfl
    cases h
  · rintro rfl
    cases h

/-- While the station transmits, a frame of the own number is its own and has no effect (R29). -/
theorem exec_ownFrame {s : State} {c : Instr} {n : StationNo} (sending : s.part.line.tx.isSome)
    (sender : senderOf c = some n) (own : n.toNat = s.part.latch.station) : exec c s = .next s := by
  obtain ⟨startUp, reset⟩ := acts_of_senderOf sender
  by_cases mode : s.part.mode = .normal
  · obtain ⟨bytes, hand, received, -⟩ := effect_hands sender
    rw [exec_normal mode startUp reset, received, receive_own n bytes hand _ own, if_pos sending]
  · exact exec_outside c s mode startUp reset

/-- The frame of another sender that its block does not take leaves its end on the line alone. -/
theorem effect_ignored {c : Instr} {n : StationNo} {p : Part} (other : n.toNat ≠ p.latch.station)
    (row : (∃ coach, c = .askFrame n coach) ∨ (∃ payload, c = .reportFrame n payload)
      ∨ ((n.toNat = 0 ∨ 60 ≤ n.toNat) ∧
          ((∃ b, c = .shedFrame n b) ∨ (∃ b, c = .loadFrame n b) ∨ (∃ b, c = .baystateFrame n b)))) :
    ∃ bits, effect c p = frameEnds bits p := by
  have notBayPost : ∀ hand q, (n.toNat = 0 ∨ 60 ≤ n.toNat) → fromBayPost n hand q = q := by
    intro hand q terminal
    refine if_neg ?_
    rw [validStation_iff]
    omega
  obtain ⟨coach, rfl⟩ | ⟨payload, rfl⟩ | ⟨terminal, ⟨b, rfl⟩ | ⟨b, rfl⟩ | ⟨b, rfl⟩⟩ := row
  · exact ⟨_, receive_other n 2 _ _ other⟩
  · exact ⟨_, receive_other n 15 _ _ other⟩
  · exact ⟨_, (receive_other n 3 _ _ other).trans (notBayPost _ _ terminal)⟩
  · exact ⟨_, (receive_other n 5 _ _ other).trans (notBayPost _ _ terminal)⟩
  · exact ⟨_, (receive_other n 13 _ _ other).trans (notBayPost _ _ terminal)⟩

/-- A corrupt frame while the station does not transmit: its end on the line and the count (R28). -/
theorem corruptFrameEnds_idle {f : RawFrame} {p : Part} (idle : p.line.tx = none) (corrupt : RawFrame.corrupt f = true) :
    corruptFrameEnds f p = countCorrupt (frameEnds (frameBitCount f.length.toNat) p) := by
  simp [corruptFrameEnds, idle, corrupt]

/-- Settles O14. -/
theorem framesOfNoBlockAreIgnored : Obligations.FramesOfNoBlockAreIgnored := by
  refine ⟨fun s f mode most => ⟨fun sending => ?_, fun idle bad => completes_normal mode (by simp) (by simp) ?_⟩,
    fun s c n => exec_ownFrame, fun s c n mode other row => ?_⟩
  · rw [exec_normal mode (by simp) (by simp)]
    simp [effect, corruptFrameEnds, Option.isNone_eq_false_iff.mpr sending]
  · have corrupt : RawFrame.corrupt f = true := by simpa [RawFrame.corrupt, RawFrame.kind] using bad
    rw [effect, corruptFrameEnds_idle idle corrupt]
    refine ⟨rfl, ?_, unchanged_of_osc_line _ _ _⟩
    have count : min 65535 (s.part.line.corrupt + 1)
        = if s.part.line.corrupt = 65535 then 65535 else s.part.line.corrupt + 1 := by
      split <;> omega
    simp [countCorrupt, lineAfter_idle _ _ idle, count, frameEnds]
  · obtain ⟨bits, ignored⟩ := effect_ignored other row
    refine completes_normal mode ?_ ?_ ?_
    · rintro straps rfl
      simp at row
    · rintro rfl
      simp at row
    · rw [ignored]
      exact ⟨unchanged_of_osc_line _ _ _, rfl⟩

/-! ## Number clashes (R30) -/

/-- A number clash that is known already is ignored. -/
theorem numberClash_known {p : Part} (h : p.remarks.numberClash = true) : numberClash p = p := if_pos h

/-- The first one sets the remark, raises BAYSTATE and begins the overlay. -/
theorem numberClash_first {p : Part} (h : p.remarks.numberClash = false) : numberClash p = { p with
    bay := { p.bay with clashFrom := some p.osc }
    remarks := { p.remarks with numberClash := true }
    line := Line.raised .baystate true p.line } := by
  simp [numberClash, setRemark_eq, h, Remarks.get, Remarks.put]

/-- A frame of the own number while the station does not transmit is a number clash at its end (R30). -/
theorem effect_clash {c : Instr} {n : StationNo} {p : Part} (idle : p.line.tx = none) (sender : senderOf c = some n)
    (own : n.toNat = p.latch.station) : ∃ bits, effect c p = numberClash (frameEnds bits p) := by
  obtain ⟨bytes, hand, received, -⟩ := effect_hands sender
  exact ⟨_, by rw [received, receive_own n bytes hand p own, idle]; rfl⟩

/-- Once set, NUMBER_CLASH stays set. -/
theorem effect_keeps_numberClash (c : Instr) (p : Part) (h : p.remarks.numberClash = true) :
    (effect c p).remarks.numberClash = true := by
  cases sender : senderOf c with
  | none => rw [effect_numberClash_of_noSender c p sender, h]
  | some n =>
    obtain ⟨bytes, hand, received, kept⟩ := effect_hands sender
    rw [received]
    refine receive_induct (I := fun q => q.remarks.numberClash = true) n bytes hand (by simp) (fun q hq => ?_)
      (fun q hq => ?_) h
    · rwa [numberClash_known hq]
    · rwa [kept]

/-- Settles O15: a frame of the own number ends in `numberClash`, and every effect keeps the remark. -/
theorem numberClashIsIgnoredAndReported : Obligations.NumberClashIsIgnoredAndReported := by
  refine ⟨fun s c n mode idle sender own => ?_, fun s c q notStartUp set done => ?_⟩
  · obtain ⟨startUp, reset⟩ := acts_of_senderOf sender
    obtain ⟨bits, clash⟩ := effect_clash idle sender own
    refine completes_normal mode startUp reset ?_
    rw [clash]
    cases known : s.part.remarks.numberClash with
    | true =>
      rw [numberClash_known (p := frameEnds bits s.part) known]
      exact ⟨by simp [← known], by simp, by simp, by simp, by simp, fun b hb => by cases b <;> simp_all [agreeOn]⟩
    | false =>
      rw [numberClash_first (p := frameEnds bits s.part) known]
      have raised : Line.raised .baystate true (frameEnds bits s.part).line
          = { (frameEnds bits s.part).line with flags := { s.part.line.flags with baystate := true } } := by
        simp [Line.raised, idle, SendFlags.put]
      rw [raised]
      exact ⟨by simp, by simp, by simp, by simp, by simp, fun b hb => by cases b <;> simp_all [agreeOn]⟩
  · rw [exec_eq] at done
    obtain rfl : Part.after c s.part = q := congrArg State.part (Host.Outcome.next.inj done)
    unfold Part.after
    split
    · exact absurd rfl (notStartUp _)
    · exact set
    · split
      · exact effect_keeps_numberClash c s.part set
      · exact set

end Sys2Proof.Machine
end

section
/-! Chapter 2: the completions (R22 to R24), and what each of them gives its owner (R53, R193, R194). -/

namespace Sys2Proof.Machine

/-- A flag reads as it was written, and no other changes; REPORT has none here, and reads as not set. -/
theorem SendFlags.get_put (f : SendFlags) {k : SendKind} (j : SendKind) {v : Bool} (h : k = .report → v = false) :
    SendFlags.get (SendFlags.put f k v) j = if j = k then v else SendFlags.get f j := by
  cases j <;> cases k <;> simp_all [SendFlags.get, SendFlags.put]

/-- The notice of a completion to the owner of its kind. -/
def completionNotice : SendKind → Transmission → Part → Part
  | .load => loadNotice
  | .baystate => baystateNotice
  | .report => reportNotice
  | .shed | .ask => fun _ p => p

theorem effect_rowOfCompletion (k : SendKind) : effect (rowOfCompletion k) = completion k (completionNotice k) := by
  cases k <;> rfl

/-- A completion of the kind in flight: the frame completes, and its owner is told. -/
theorem effect_completion {p : Part} {t : Transmission} (tx : p.line.tx = some t) :
    effect (rowOfCompletion t.kind) p = completionNotice t.kind t (frameCompletes t p) := by
  simp [effect_rowOfCompletion, completion, tx]

/-- A notice writes of the line the refresh timer of its kind alone (R24). -/
theorem completionNotice_line (k : SendKind) (t : Transmission) (p : Part) :
    (completionNotice k t p).line = { p.line with
      loadRefresh := if k = .load then some (p.osc + 20000000) else p.line.loadRefresh
      baystateRefresh := if k = .baystate then some (p.osc + 60000000) else p.line.baystateRefresh } := by
  cases k <;> simp [completionNotice, loadNotice, baystateNotice, loadRefreshPeriod, baystateRefreshPeriod]

/-- A LOAD that carries the latched demand sets an absent claim time (R53). -/
theorem completionNotice_share (k : SendKind) (t : Transmission) (p : Part) :
    (completionNotice k t p).share = { p.share with
      claim := if k = .load ∧ p.share.claim = none ∧ t.payload[2]? = some (byteOf p.share.demand) then some p.osc
        else p.share.claim } := by
  cases k <;> simp [completionNotice, loadNotice, baystateNotice]

/-- A notice writes the line, the share unit and the reply jobs, the last for a REPORT alone. -/
theorem completionNotice_unchanged (k : SendKind) (t : Transmission) (p : Part) :
    unchangedExcept [.line, .share, .orders] p (completionNotice k t p)
      ∧ (k ≠ .report → (completionNotice k t p).orders = p.orders) := by
  constructor
  · intro b hb
    cases k <;> cases b <;> simp_all [agreeOn, completionNotice]
  · cases k <;> simp [completionNotice]

theorem frameCompletes_unchanged (t : Transmission) (p : Part) : unchangedExcept [.osc, .line] p (frameCompletes t p) :=
  unchanged_of_osc_line _ _ _

/-- A completion writes time, the line, the share unit and the reply jobs alone. -/
theorem completion_unchanged (k : SendKind) (t : Transmission) (p : Part) :
    unchangedExcept [.osc, .line, .share, .orders] p (completionNotice k t (frameCompletes t p)) :=
  (frameCompletes_unchanged t p).trans (completionNotice_unchanged k t _).1 (by simp) (by simp)

/-! ## The reply jobs (R193, R194) -/

/-- The cursor advances while items are left. -/
theorem reportNotice_next {t : Transmission} {p : Part} {j : Job} {js : List Job} (jobs : p.orders.jobs = j :: js)
    (left : j.cursor + 1 < j.total.getD 1) :
    (reportNotice t p).orders = { p.orders with jobs := { j with cursor := j.cursor + 1 } :: js } := by
  simp [reportNotice, jobs, left]

/-- The last item removes the job, and an outcome that went out PENDING is seen to. -/
theorem reportNotice_last {t : Transmission} {p : Part} {j : Job} {js : List Job} (jobs : p.orders.jobs = j :: js)
    (last : ¬j.cursor + 1 < j.total.getD 1) : reportNotice t p
      = if carriesPending t.payload then pendingSent j { p with orders := { p.orders with jobs := js } }
        else { p with orders := { p.orders with jobs := js } } := by
  simp [reportNotice, jobs, last]

/-- The outcome went out while the revocation runs: it is marked as sent (R193). -/
theorem pendingSent_running {j : Job} (p : Part) (h : j.outcome = .pending) : (pendingSent j p).orders
    = { p.orders with revocation := p.orders.revocation.map fun r => { r with sent := true } } := by
  simp [pendingSent, h]

/-- The revocation has ended meanwhile: a job with the final outcome follows where the queue has room (R193). -/
theorem pendingSent_ended {j : Job} {p : Part} (h : j.outcome ≠ .pending) (room : p.orders.jobs.length < 4) :
    (pendingSent j p).orders
      = { p.orders with jobs := p.orders.jobs ++ [followUp j.tag j.sender j.outcome] } := by
  simp [pendingSent, h, jobLimit, room, queueJob]

/-- Settles O13: the frame completes, then `completionNotice`. -/
theorem completionClearsTheRequestAndServesTheJob : Obligations.CompletionClearsTheRequestAndServesTheJob := by
  have row : ∀ k, (∀ straps, rowOfCompletion k ≠ .startUp straps) ∧ rowOfCompletion k ≠ .resetAsserted := by
    intro k
    cases k <;> simp [rowOfCompletion]
  refine ⟨fun s t mode tx => completes_normal mode (row t.kind).1 (row t.kind).2 ?_,
    fun s t j js mode tx kind jobs => completes_normal mode (by simp) (by simp) ?_⟩
  · rw [effect_completion tx]
    obtain ⟨told, orders⟩ := completionNotice_unchanged t.kind t (frameCompletes t s.part)
    have osc : (completionNotice t.kind t (frameCompletes t s.part)).osc = (frameCompletes t s.part).osc :=
      (told .osc (by simp)).symm
    rw [completionNotice_line, completionNotice_share, osc]
    refine ⟨by simp [bitTime, frameBitCount], rfl, rfl, fun k => ?_, fun k => ?_, by simp, by simp, by simp,
      fun h => by simp [orders h], by simp, by simp, completion_unchanged t.kind t s.part⟩
    · have written := SendFlags.get_put s.part.line.flags (k := t.kind) k (v := SendFlags.get s.part.line.marks t.kind)
        (fun report => by rw [report]; rfl)
      refine written.trans ?_
      split
      · next same => rw [same]
      · rfl
    · exact SendFlags.get_put s.part.line.marks k (fun _ => rfl)
  · have completed : effect .reportComplete s.part = reportNotice t (frameCompletes t s.part) := by
      have done := effect_completion tx
      rwa [kind] at done
    have unchanged := completion_unchanged .report t s.part
    have head : (frameCompletes t s.part).orders.jobs = j :: js := jobs
    rw [completed]
    refine ⟨reportNotice_next head, fun last plain => ?_, fun last carried running => ?_,
      fun last carried ended room => ?_, unchanged⟩
    · rw [reportNotice_last head last, plain]
      rfl
    · rw [reportNotice_last head last, carried, if_pos rfl, pendingSent_running _ running]
      rfl
    · refine ⟨followUp j.tag j.sender j.outcome, rfl, rfl, rfl, rfl, rfl, rfl, ?_⟩
      rw [reportNotice_last head last, carried, if_pos rfl, pendingSent_ended ended room]
      rfl

end Sys2Proof.Machine
end

section
/-! Chapter 2: the start of a frame (R16, R20, R21), and the item total of the head job that a REPORT fixes (R195). -/

namespace Sys2Proof.Machine

/-! ## Items and their number (R195) -/

/-- Each entry is of one of three classes. -/
theorem length_filter_classes {α : Type} (cls : α → FaultClass) (es : List α) :
    (es.filter fun e => cls e == .block).length + (es.filter fun e => cls e == .warn).length
      + (es.filter fun e => cls e == .info).length = es.length := by
  induction es with
  | nil => rfl
  | cons e es ih => cases h : cls e <;> simp [h] <;> omega

/-- The fault list in its order has every entry once. -/
theorem listed_length (f : Faults) : (Faults.listed f).length = f.coach.length + f.bay.length := by
  have coach := length_filter_classes CoachEntry.cls f.coach
  have bay := length_filter_classes BayEntry.cls f.bay
  simp only [Faults.listed, Faults.ofClass, List.length_append, List.length_map]
  omega

/-- The number of members that a SHOW kind reports (R195). -/
def Part.memberCount (p : Part) : ShowKind → Nat
  | .summary | .plan | .counters => 1
  | .lamps => (p.lamps.filter fun l => l.fit.isSome).length
  | .faults => p.faults.coach.length + p.faults.bay.length
  | .peers => p.peers.entries.length
  | .roster => p.cache.entries.length

theorem membersOf_length (p : Part) (k : ShowKind) : (Part.membersOf p k).length = Part.memberCount p k := by
  cases k <;> simp [Part.membersOf, Part.memberCount, listed_length]

/-- The total is fixed from the live collection (R195). -/
theorem fixTotal_eq (p : Part) {j : Job} (h : j.total = none) : Part.fixTotal p j
    = (Job.shown j).elim { j with total := some 1 } fun k =>
        { j with total := some (max 1 (Part.memberCount p k)), bare := Part.memberCount p k == 0 } := by
  unfold Part.fixTotal
  rw [h]
  cases Job.shown j <;> simp [membersOf_length]

/-- A total that is fixed is kept. -/
theorem fixTotal_fixed (p : Part) {j : Job} {n : Nat} (h : j.total = some n) : Part.fixTotal p j = j := by
  simp [Part.fixTotal, h]

theorem fixHeadTotal_cons {p : Part} {j : Job} {js : List Job} (h : p.orders.jobs = j :: js) :
    fixHeadTotal p = { p with orders := { p.orders with jobs := Part.fixTotal p j :: js } } := by
  simp [fixHeadTotal, h]

/-- The total of the head job reads the four collections and the jobs alone. -/
theorem fixHeadTotal_orders_congr {p q : Part} (lamps : q.lamps = p.lamps) (faults : q.faults = p.faults)
    (peers : q.peers = p.peers) (cache : q.cache = p.cache) (orders : q.orders = p.orders) :
    (fixHeadTotal q).orders = (fixHeadTotal p).orders := by
  have count : Part.memberCount q = Part.memberCount p := by
    funext k
    cases k <;> simp [Part.memberCount, lamps, faults, peers, cache]
  cases jobs : p.orders.jobs with
  | nil => simp [fixHeadTotal, jobs, orders]
  | cons j js =>
    rw [fixHeadTotal_cons jobs, fixHeadTotal_cons (p := q) (by rw [orders, jobs]), orders]
    cases total : j.total with
    | none => simp [fixTotal_eq _ total, count]
    | some n => simp [fixTotal_fixed _ total]

/-- Of the orders the jobs alone are written. -/
theorem fixHeadTotal_keeps_orders (p : Part) : (fixHeadTotal p).orders.dropped = p.orders.dropped
    ∧ (fixHeadTotal p).orders.revocation = p.orders.revocation := by
  unfold fixHeadTotal
  split <;> simp

/-! ## Payload sizes (R14, R21) -/

@[simp] theorem padded_length (n : Nat) (bs : List Byte) : (padded n bs).length = n := by
  simp [padded]

/-- A payload has the fixed size of its kind; a REPORT where a job waits. -/
theorem compose_length (p : Part) (k : SendKind) (h : k = .report → p.orders.jobs ≠ []) :
    (Part.compose p k).length = payloadSize (sendKindCode k) := by
  cases k with
  | report =>
    obtain ⟨j, js, jobs⟩ := List.exists_cons_of_ne_nil (h rfl)
    simp [Part.compose, jobs, Part.reportPayload, payloadSize, sendKindCode]
  | shed | load | baystate | ask => rfl

/-- The payload of a frame reads nothing of the transmission and of the frame that is received. -/
theorem compose_line (p : Part) (tx : Option Transmission) (receiving : Option Moment) (k : SendKind) :
    Part.compose { p with line := { p.line with tx := tx, receiving := receiving } } k = Part.compose p k := by
  cases k <;> rfl

/-! ## The attempt (R16, R20) -/

theorem mayBegin_iff (p : Part) :
    Part.mayBegin p = true ↔ p.line.tx = none ∧ p.line.muted = none ∧ p.line.receiving = none := by
  simp [Part.mayBegin, and_assoc]

/-- A station that may not begin leaves everything as it is (R16). -/
theorem attemptStarts_refrains {p : Part} (h : Part.mayBegin p = false) : attemptStarts p = p := by
  simp [attemptStarts, h]

/-- The flag of ASK after the choice: cleared where ASK is the lowest pending kind and the cache wants no number (R20). -/
def Part.askKept (p : Part) : Bool :=
  p.line.flags.ask && (p.line.flags.shed || p.line.flags.load || p.line.flags.baystate || p.cache.want.isSome)

/-- The part after the choice of a kind, which writes the flag of ASK alone. -/
def askPassed (p : Part) : Part :=
  { p with line := { p.line with flags := { p.line.flags with ask := Part.askKept p } } }

theorem askPassed_eq (p : Part) : askPassed p
    = if Part.passesAsk p then { p with line := { p.line with flags := { p.line.flags with ask := false } } } else p := by
  have kept : Part.askKept p = (p.line.flags.ask && !Part.passesAsk p) := by
    unfold Part.askKept Part.passesAsk
    cases p.line.flags.shed <;> cases p.line.flags.load <;> cases p.line.flags.baystate <;> cases p.line.flags.ask <;>
      cases p.cache.want <;> rfl
  unfold askPassed
  rw [kept]
  cases Part.passesAsk p <;> simp

/-- Where no kind is pending, no frame is begun. -/
theorem attemptStarts_none {p : Part} (may : Part.mayBegin p = true) (next : Part.nextKind p = none) :
    attemptStarts p = askPassed p := by
  simp [attemptStarts, may, next, askPassed_eq]

/-- The pending kind of lowest code is begun after the quiet gap. -/
theorem attemptStarts_some {p : Part} {k : SendKind} (may : Part.mayBegin p = true) (next : Part.nextKind p = some k) :
    attemptStarts p = beginFrame k (advanceTo (p.line.quietFrom + 220) (askPassed p)) := by
  rw [askPassed_eq]
  simp only [attemptStarts, may, next]
  cases Part.passesAsk p <;> rfl

/-- What the begin of a frame leaves of the orders: the head job's total is fixed by a REPORT (R195). -/
theorem beginFrame_orders (k : SendKind) (p : Part) :
    (beginFrame k p).orders = if k = .report then (fixHeadTotal p).orders else p.orders := by
  unfold beginFrame
  split <;> simp_all

/-- What it leaves of the line: the transmission, composed at its start bit (R21). -/
theorem beginFrame_line (k : SendKind) (p : Part) : (beginFrame k p).line = { p.line with
    tx := some { kind := k, payload := Part.compose (beginFrame k p) k, start := p.osc }, receiving := none } := by
  have composed : Part.compose (beginFrame k p) k = Part.compose (if k = .report then fixHeadTotal p else p) k :=
    compose_line _ _ _ k
  rw [composed]
  unfold beginFrame
  split <;> simp_all

theorem beginFrame_unchanged (k : SendKind) (p : Part) : unchangedExcept [.line, .orders] p (beginFrame k p) := by
  intro b hb
  cases b <;> simp_all [agreeOn]

/-- The chosen kind, in the words of the statement (R20). -/
theorem nextKind_eq (p : Part) : Part.nextKind p = (if p.line.flags.shed then some .shed
    else if p.line.flags.load then some .load
    else if p.line.flags.baystate then some .baystate
    else if p.line.flags.ask ∧ p.cache.want.isSome then some .ask
    else if p.orders.jobs ≠ [] then some .report
    else none) := by
  simp [Part.nextKind, Part.reportPending]

/-- A REPORT is chosen where a job waits. -/
theorem jobs_of_nextKind {p : Part} (h : Part.nextKind p = some .report) : p.orders.jobs ≠ [] := by
  unfold Part.nextKind Part.reportPending at h
  (repeat' split at h) <;> simp_all

/-- Settles O9. -/
theorem attemptSendsTheLowestPendingKind : Obligations.AttemptSendsTheLowestPendingKind := by
  refine ⟨fun s busy => ?_, fun s kind mode tx muted receiving chosen => completes_normal mode (by simp) (by simp) ?_⟩
  · have refrains : Part.mayBegin s.part = false := by
      rw [Bool.eq_false_iff, Ne, mayBegin_iff]
      rintro ⟨tx, muted, receiving⟩
      simp [tx, muted, receiving] at busy
    rw [exec_eq]
    simp [Part.after, effect, attemptStarts_refrains refrains]
  · have may := (mayBegin_iff _).mpr ⟨tx, muted, receiving⟩
    rw [← nextKind_eq] at chosen
    subst chosen
    rw [effect]
    cases next : Part.nextKind s.part with
    | none =>
      rw [attemptStarts_none may next]
      exact ⟨fun _ => ⟨tx, rfl, rfl⟩, nofun, rfl, rfl, rfl, rfl, rfl, rfl, rfl, rfl, rfl,
        fun b hb => by cases b <;> simp_all [agreeOn, askPassed]⟩
    | some k =>
      rw [attemptStarts_some may next]
      generalize hw : advanceTo (s.part.line.quietFrom + 220) (askPassed s.part) = w
      have orders : w.orders = s.part.orders := by simp [← hw, askPassed]
      have unchanged : unchangedExcept [.osc, .line] s.part w := hw ▸ unchanged_of_osc_line _ _ _
      have fixed : (fixHeadTotal w).orders = (fixHeadTotal s.part).orders := by
        subst hw
        exact fixHeadTotal_orders_congr rfl rfl rfl rfl rfl
      have waits : k = .report → (beginFrame k w).orders.jobs ≠ [] := by
        rintro rfl
        obtain ⟨j, js, jobs⟩ := List.exists_cons_of_ne_nil (jobs_of_nextKind next)
        rw [beginFrame_orders, if_pos rfl, fixed, fixHeadTotal_cons jobs]
        simp
      obtain ⟨dropped, revocation⟩ := fixHeadTotal_keeps_orders s.part
      have line := beginFrame_line k w
      have chosen : w.line = { s.part.line with flags := { s.part.line.flags with ask := Part.askKept s.part } } := by
        rw [← hw]
        rfl
      have osc : (beginFrame k w).osc = w.osc := by simp
      refine ⟨nofun, fun k' same => ?_, ?_⟩
      · obtain rfl := Option.some.inj same
        refine ⟨by rw [osc, ← hw]; rfl, by rw [line, osc], compose_length _ _ waits, fun other => ?_, fun report => ?_⟩
        · rw [beginFrame_orders, if_neg other, orders]
        · rw [beginFrame_orders, if_pos report, fixed]
      · rw [line, beginFrame_orders, chosen]
        refine ⟨rfl, rfl, rfl, rfl, rfl, rfl, rfl, ?_, ?_,
          unchanged.trans (beginFrame_unchanged k w) (by simp) (by simp)⟩
        · split <;> simp [fixed, dropped, orders]
        · split <;> simp [fixed, revocation, orders]

end Sys2Proof.Machine
end

section
/-! The content of the frames that the part sends (R21, R195, R197; sections 13.1, 13.3 and 13.4). -/

namespace Sys2Proof.Machine

/-! ## Fields -/

theorem twosComplement_16 (m : Int) : twosComplement 16 m = (m % 65536).toNat := by
  norm_num [twosComplement]

theorem twosComplement_12 (m : Int) : twosComplement 12 m = (m % 4096).toNat := by
  norm_num [twosComplement]

theorem twosComplement_11 (m : Int) : twosComplement 11 m = (m % 2048).toNat := by
  norm_num [twosComplement]

/-- Bits 12 and above of a two-byte field are none of its low byte. -/
theorem byteOf_high (n m : Nat) : byteOf (n * 4096 + m) = byteOf m := by
  apply BitVec.eq_of_toNat_eq
  simp only [byteOf, BitVec.toNat_ofNat]
  omega

/-- A reading field carries the cause and the value of the ring; a channel without a reading has the value 0. -/
theorem readingField_eq (c : Channel) : readingField c = causeCode (Channel.cause c) * 2048
    + (Channel.reading c).elim 0 fun tenths => (tenths % 2048).toNat := by
  unfold readingField
  rw [twosComplement_11]
  by_cases empty : c.ring = []
  · simp [Channel.reading, empty]
  · have read : Channel.cause c ≠ .noReading := by
      unfold Channel.cause
      simp only [empty, if_false]
      (repeat' split) <;> simp
    simp [Channel.reading, empty, read]

/-! ## The payloads of SHED, LOAD, BAYSTATE and ASK -/

theorem reasonsCode_eq (r : Reasons) : reasonsCode r = r.faultBlock.toNat + 2 * r.lampFail.toNat
    + 4 * r.lampUnchecked.toNat + 8 * r.faultsStale.toNat + 16 * r.linkLost.toNat + 32 * r.chainFault.toNat
    + 64 * r.laneBlocked.toNat + 128 * r.laneUnknown.toNat + 256 * r.yardHoldRefused.toNat + 512 * r.orderHold.toNat
    + 1024 * r.releaseRefused.toNat := by
  simp only [reasonsCode, bitsOf]
  omega

theorem remarksCode_eq (r : Remarks) : remarksCode r = r.numberClash.toNat + 2 * r.peerOverflow.toNat
    + 4 * r.feederMismatch.toNat + 8 * r.laneClash.toNat + 16 * r.cold.toNat + 32 * r.cabinSensor.toNat
    + 64 * r.outsideSensor.toNat + 128 * r.faultsTruncated.toNat + 256 * r.staleClearance.toNat := by
  simp only [remarksCode, bitsOf]
  omega

theorem compose_shed (p : Part) :
    Part.compose p .shed = [p.latch.group, Part.observedSum p / 256, Part.observedSum p].map (BitVec.ofNat 8) := rfl

theorem compose_load (p : Part) : Part.compose p .load = [p.latch.lane,
    (p.latch.depth - 1) * 16 + p.latch.group * 4 + p.latch.cls, p.share.demand, p.share.draw,
    plannerModeCode p.share.mode * 16 + p.share.urgency].map (BitVec.ofNat 8) := rfl

theorem compose_ask (p : Part) :
    Part.compose p .ask = [p.cache.want.getD 0 / 256, p.cache.want.getD 0].map (BitVec.ofNat 8) := rfl

/-- The field of M in a BAYSTATE is its two's complement, the lowest value where no roster copy is held. -/
theorem minutesField_16 (m : Option Int) : minutesField 16 m = (m.getD (-32768) % 65536).toNat := by
  cases m with
  | none => rfl
  | some m => exact twosComplement_16 m

/-- The field of M in a SUMMARY. -/
theorem minutesField_12 (m : Option Int) : minutesField 12 m = m.elim 2048 fun m => (m % 4096).toNat := by
  cases m with
  | none => rfl
  | some m => exact twosComplement_12 m

theorem compose_baystate (p : Part) (minutes : Int) (h : minutes = (Part.minutesToDeparture p).getD (-32768)) :
    Part.compose p .baystate = [p.latch.lane, (p.latch.depth - 1) * 16 + p.latch.group * 4 + p.latch.cls,
      bayStateCode p.bay.state, Part.coachNumber p / 256, Part.coachNumber p, reasonsCode p.bay.reasons / 256,
      reasonsCode p.bay.reasons, remarksCode p.remarks / 256, remarksCode p.remarks, (minutes % 65536).toNat / 256,
      (minutes % 65536).toNat, p.orders.dropped,
      decoupleFlagCode p.bay.decoupleFlag * 16 + revocationCode p.bay.revocation * 4 + p.bay.lanePass.toNat * 2
        + p.bay.window.toNat].map (BitVec.ofNat 8) := by
  subst h
  simp only [Part.compose, Part.baystatePayload, minutesField_16]
  rfl

/-! ## The items of a REPORT (R195) -/

/-- The code of the item kind that a SHOW kind reports (section 13.4). -/
def showItemKind : ShowKind → Nat
  | .summary => 1 | .lamps => 2 | .faults => 3 | .peers => 4 | .plan => 5 | .counters => 6 | .roster => 9

/-- A SHOW reports items of its kind alone. -/
theorem membersOf_kind {p : Part} {k : ShowKind} {i : Item} (h : i ∈ Part.membersOf p k) : i.kind = showItemKind k := by
  cases k with
  | summary | plan | counters =>
    obtain rfl := List.mem_singleton.mp h
    rfl
  | lamps | faults | peers | roster =>
    obtain ⟨x, -, rfl⟩ := List.mem_map.mp h
    rfl

theorem shown_of_show {j : Job} {k : ShowKind} (show? : j.show? = some k) (taken : j.outcome = .taken) :
    Job.shown j = some k := by
  simp [Job.shown, taken, show?]

/-- A job of an order that was refused, or was no SHOW, shows its outcome. -/
theorem shown_of_outcome {j : Job} (h : j.show? = none ∨ j.outcome ≠ .taken) : Job.shown j = none := by
  unfold Job.shown
  cases outcome : j.outcome <;> simp_all

theorem itemOf_outcome (p : Part) {j : Job} (h : j.show? = none ∨ j.outcome ≠ .taken) :
    Part.itemOf p j = outcomeItem j := by
  simp [Part.itemOf, shown_of_outcome h]

/-- NONE where the collection was empty when the total was fixed. -/
theorem itemOf_none (p : Part) {j : Job} {k : ShowKind} (shown : Job.shown j = some k) (bare : j.bare = true) :
    Part.itemOf p j = noneItem := by
  simp [Part.itemOf, shown, bare]

/-- GONE where no member stands at the cursor. -/
theorem itemOf_gone {p : Part} {j : Job} {k : ShowKind} (shown : Job.shown j = some k) (bare : j.bare = false)
    (past : Part.memberCount p k ≤ j.cursor) : Part.itemOf p j = goneItem := by
  have none_ : (Part.membersOf p k)[j.cursor]? = none := by
    rw [List.getElem?_eq_none_iff, membersOf_length]
    exact past
  simp [Part.itemOf, shown, bare, none_]

/-- The member at the cursor where one stands. -/
theorem itemOf_member {p : Part} {j : Job} {k : ShowKind} {i : Item} (shown : Job.shown j = some k)
    (bare : j.bare = false) (member : (Part.membersOf p k)[j.cursor]? = some i) : Part.itemOf p j = i := by
  simp [Part.itemOf, shown, bare, member]

/-- The kind of a SHOW's item. -/
theorem itemOf_kind {p : Part} {j : Job} {k : ShowKind} (shown : Job.shown j = some k) : (Part.itemOf p j).kind
    = if j.bare then 7 else if j.cursor < Part.memberCount p k then showItemKind k else 8 := by
  cases bare : j.bare with
  | true => rw [itemOf_none p shown bare]; rfl
  | false =>
    rw [if_neg Bool.false_ne_true]
    split
    · next inside =>
      obtain ⟨i, member⟩ : ∃ i, (Part.membersOf p k)[j.cursor]? = some i :=
        ⟨_, List.getElem?_eq_getElem (by rwa [membersOf_length])⟩
      rw [itemOf_member shown bare member]
      exact membersOf_kind (List.mem_of_getElem? member)
    · next past =>
      rw [itemOf_gone shown bare (Nat.not_lt.mp past)]
      rfl

/-! ## The payload of a REPORT -/

/-- A REPORT carries the sender, tag, index and total of the head job, and its item. -/
theorem compose_report {p : Part} {j : Job} {js : List Job} (jobs : p.orders.jobs = j :: js) :
    Part.compose p .report = byteOf j.sender.toNat :: j.tag :: byteOf j.cursor :: byteOf (j.total.getD 1)
      :: byteOf (Part.itemOf p j).kind :: padded 10 (Part.itemOf p j).content := by
  simp [Part.compose, jobs, Part.reportPayload]

/-- Its last ten bytes are the item's content, of a SHOW that of the member at the cursor. -/
theorem compose_report_content {p : Part} {j : Job} {js : List Job} {k : ShowKind} {i : Item}
    (jobs : p.orders.jobs = j :: js) (taken : j.outcome = .taken) (bare : j.bare = false) (show? : j.show? = some k)
    (member : (Part.membersOf p k)[j.cursor]? = some i) :
    (Part.compose p .report).drop 5 = padded 10 i.content := by
  rw [compose_report jobs, itemOf_member (shown_of_show show? taken) bare member]
  rfl

/-- The same where the members are those of a list. -/
theorem compose_report_listed {α : Type} {p : Part} {j : Job} {js : List Job} {k : ShowKind} {xs : List α} {x : α}
    {item : α → Item} (jobs : p.orders.jobs = j :: js) (taken : j.outcome = .taken) (bare : j.bare = false)
    (show? : j.show? = some k) (members : Part.membersOf p k = xs.map item) (member : xs[j.cursor]? = some x) :
    (Part.compose p .report).drop 5 = padded 10 (item x).content :=
  compose_report_content jobs taken bare show? (by rw [members, List.getElem?_map, member]; rfl)

/-- Settles O10. -/
theorem ownFramesCarryTheState : Obligations.OwnFramesCarryTheState := by
  refine ⟨?payloads, ?report, ?items⟩
  case payloads =>
    intro p ask remarks reasons minutes hask hreasons hremarks hminutes
    obtain rfl : reasonsCode p.bay.reasons = reasons := by rw [hreasons, reasonsCode_eq]
    obtain rfl : remarksCode p.remarks = remarks := by rw [hremarks, remarksCode_eq]
    have hm : minutes = (Part.minutesToDeparture p).getD (-32768) := by
      rw [hminutes, Part.minutesToDeparture]
      cases p.bay.roster <;> rfl
    refine ⟨rfl, rfl, compose_shed p, ?_, hask ▸ compose_ask p, ?_⟩
    · rw [compose_load]
      rfl
    · rw [compose_baystate p minutes hm]
      rfl
  case report =>
    intro p j js total members jobs
    refine ⟨fun unfixed count => ⟨fun outcome => ?_, fun show? taken => ?_⟩, fun fixed => ⟨?_, ?_, fun outcome => ?_,
      fun k show? taken count => ?_⟩⟩
    · rw [fixHeadTotal_cons jobs, fixTotal_eq p unfixed, shown_of_outcome outcome]
      rfl
    · obtain ⟨k, show?⟩ := Option.isSome_iff_exists.mp show?
      obtain rfl : members = Part.memberCount p k := count k show? taken
      rw [fixHeadTotal_cons jobs, fixTotal_eq p unfixed, shown_of_show show? taken]
      rfl
    · rw [fixHeadTotal_cons jobs, fixTotal_fixed p fixed, ← jobs]
    · rw [compose_report jobs, fixed]
      rfl
    · rw [compose_report jobs, itemOf_outcome p outcome]
      cases h : j.outcome with
      | refused reason => cases reason <;> simp [outcomeItem, h, padded, byteOf, outcomeCode, reasonCode]
      | _ => simp [outcomeItem, h, padded, byteOf, outcomeCode, reasonCode]
    · have shown := shown_of_show show? taken
      obtain rfl : members = Part.memberCount p k := count
      rw [compose_report jobs]
      refine ⟨?_, fun absent => ?_⟩
      · show some (byteOf (Part.itemOf p j).kind) = _
        rw [itemOf_kind shown]
        cases j.bare with
        | true => rfl
        | false =>
          by_cases inside : j.cursor < Part.memberCount p k
          · simp only [inside, if_true, Bool.false_eq_true, if_false]
            cases k <;> rfl
          · simp only [inside, if_false, Bool.false_eq_true]
            rfl
      · have empty : (Part.itemOf p j).content = [] := by
          cases bare : j.bare with
          | true => rw [itemOf_none p shown bare]; rfl
          | false => rw [itemOf_gone shown bare (absent.resolve_left (by simp [bare]))]; rfl
        rw [empty]
        rfl
  case items =>
    intro p j js sweep coach m ceiling w reading jobs taken bare hsweep hcoach hm hceiling hreading
    obtain rfl : sweep = sweepCode p.sweep.status := hsweep
    obtain rfl : coach = Part.coachNumber p := hcoach
    have readings : reading = readingField := by
      funext c
      rw [hreading, readingField_eq]
      cases Channel.reading c <;> rfl
    have minutes : minutesField 12 (Part.minutesToDeparture p) = m := by
      rw [hm, minutesField_12, Part.minutesToDeparture]
      cases p.bay.roster <;> rfl
    have ceilingBit : (p.heat.ceiling == 56).toNat * 32768 = ceiling := by
      rw [hceiling]
      by_cases h : p.heat.ceiling = 56 <;> simp [h]
    refine ⟨?summary, ?lamps, ?coach, ?bay, ?peers, ?plan, ?counters, ?roster⟩
    case summary =>
      intro show? first
      rw [compose_report_content jobs taken bare show? (by rw [first]; rfl), Part.summaryItem, minutes, ceilingBit]
      simp only [bytesOf, byteOf_high]
      rfl
    case lamps =>
      intro l type n show? member fit
      rw [compose_report_listed jobs taken bare show? rfl member, Part.lampItem, fit]
      rfl
    case coach =>
      rintro e show? member rfl
      rw [compose_report_listed jobs taken bare show? rfl member, Part.faultItem]
      rfl
    case bay =>
      rintro e show? member rfl
      rw [compose_report_listed jobs taken bare show? rfl member, Part.faultItem]
      rfl
    case peers =>
      intro e show? member
      rw [compose_report_listed jobs taken bare show? rfl member, Part.peerItem]
      cases e.load <;> cases e.bayState with
        | none => rfl
        | some state => cases state <;> rfl
    case plan =>
      rintro show? first rfl
      rw [compose_report_content jobs taken bare show? (by rw [first]; rfl), Part.planItem, readings]
      rfl
    case counters =>
      intro show? first
      rw [compose_report_content jobs taken bare show? (by rw [first]; rfl), Part.countersItem]
      rfl
    case roster =>
      rintro e show? member rfl
      rw [compose_report_listed jobs taken bare show? rfl member, Part.rosterItem, twosComplement_16]
      rfl

end Sys2Proof.Machine
end

section
/-! Beacon and sounder (R188, R189), and what a change of bay state does (R25, R102, R174, R185). -/

namespace Sys2Proof.Machine

/-! ## Beacon and sounder -/

section
variable {p : Part} (mode : p.mode = .normal)
include mode

/-- The base pattern shows where no overlay runs. -/
theorem beacon_base (clash : p.bay.clashFrom = none) (early : p.bay.tooEarly = none) :
    Part.beacon p = basePattern p.bay.state p.bay.patternFrom p.osc := by
  simp [Part.beacon, mode, clash, early]

theorem beacon_tooEarly {t : Moment} (clash : p.bay.clashFrom = none) (early : p.bay.tooEarly = some t) :
    Part.beacon p = { amber := onPhase t p.osc quarterSecond } := by
  simp [Part.beacon, mode, clash, early]

/-- The overlay of NUMBER_CLASH alternates red and amber, whatever else runs. -/
theorem beacon_clash {t : Moment} (clash : p.bay.clashFrom = some t) : Part.beacon p
    = { red := onPhase t p.osc halfSecond, amber := !onPhase t p.osc halfSecond } := by
  simp only [Part.beacon, mode, clash]
  cases onPhase t p.osc halfSecond <;> rfl

theorem sounder_chirps {c : Chirps} (chirps : p.bay.chirps = some c) :
    Part.sounder p = onPhase c.start p.osc quarterSecond := by
  simp [Part.sounder, mode, chirps]

end

theorem sounder_silent {p : Part} (chirps : p.bay.chirps = none) : Part.sounder p = false := by
  simp [Part.sounder, chirps]

/-! ## A change of bay state -/

/-- The chirps that go on when the bay leaves its state: those of a clearance stop on leaving CLEARED (R189). -/
def Bay.chirpsLeft (b : Bay) : Option Chirps :=
  if b.state = .cleared ∧ b.chirps.map (·.cause) = some .cleared then none else b.chirps

theorem stopClearedChirps_eq (c : Option Chirps) :
    stopClearedChirps c = if c.map (·.cause) = some .cleared then none else c := by
  cases c <;> simp [stopClearedChirps]

/-- What ends when the bay leaves its state, as one update: the asking of STANDBY (R174), STALE_CLEARANCE and the chirps of
CLEARED (R185, R189). -/
theorem leaveState_eq (p : Part) : leaveState p = { p with
    bay := { p.bay with chirps := Bay.chirpsLeft p.bay }
    line := Line.raised .baystate (decide (p.bay.state = .cleared ∧ p.remarks.staleClearance = true)) p.line
    cache := if p.bay.state = .standby then { p.cache with want := none, askCount := 0 } else p.cache
    remarks := if p.bay.state = .cleared then { p.remarks with staleClearance := false } else p.remarks } := by
  unfold leaveState Bay.chirpsLeft
  cases state : p.bay.state with
  | cleared => simp [setRemark_eq, stopClearedChirps_eq, Remarks.get, Remarks.put]
  | standby => simp [stopAsking, Line.raised]
  | _ => simp [Line.raised]

/-- A change of bay state is a recomputation from the part that has left the old state and entered the new (R25, R102). -/
theorem setBayState_eq {new : BayState} {p : Part} (h : p.bay.state ≠ new) :
    setBayState new p = recompute (.bayState p.bay.state) { p with
      bay := { p.bay with state := new, patternFrom := p.osc, chirps := Bay.chirpsLeft p.bay }
      line := Line.raised .baystate true p.line
      cache := if p.bay.state = .standby then { p.cache with want := none, askCount := 0 } else p.cache
      remarks := if p.bay.state = .cleared then { p.remarks with staleClearance := false } else p.remarks } := by
  simp only [setBayState, h, if_false, leaveState_eq, raise_eq_raised, raised_raised, Bool.true_or]

/-- Settles O47. -/
theorem beaconAndSounderFollowTheBay : Obligations.BeaconAndSounderFollowTheBay := by
  refine ⟨fun p since mode hsince => ⟨fun clash early => ?_, fun t early clash => ?_, fun t clash => ?_,
    sounder_silent, fun c => sounder_chirps mode⟩, fun p new => ⟨fun same => if_pos same, fun changed => ?_⟩,
    fun p r k v => ⟨setReasons_eq r p, setRemark_eq k v p⟩⟩
  · rw [beacon_base mode clash early, hsince]
    cases p.bay.state <;> rfl
  · exact beacon_tooEarly mode clash early
  · exact beacon_clash mode clash
  · have bay : (setBayState new p).bay
        = { p.bay with state := new, patternFrom := p.osc, chirps := Bay.chirpsLeft p.bay } := by
      rw [setBayState_eq changed]
      simp
    refine ⟨bay, setBayState_line new p changed, ?_⟩
    rw [bay]
    exact setBayState_eq changed

end Sys2Proof.Machine
end

section
/-! The clearance evaluation (R178, R179): the reasons it judges and what each row of its table leaves of the part. -/

namespace Sys2Proof.Machine

/-! ## Freshness (R155, R169) -/

/-- A completion of which a minute is known is younger than `limit` minutes. -/
theorem completionAge_below (now limit : Nat) (c : Option Completion) : (completionAge now c).any (· < limit)
    = c.elim false fun c => c.dated && decide (((now : Int) - c.minute) % 1440 < limit) := by
  cases c with
  | none => rfl
  | some c =>
    have age : ageInMinutes now c.minute < limit ↔ ((now : Int) - c.minute) % 1440 < limit := by
      unfold ageInMinutes
      omega
    cases dated : c.dated <;> simp [completionAge, dated, age]

theorem sweepFresh_eq (p : Part) : Part.sweepFresh p
    = p.sweep.last.elim false fun c => c.dated && decide (((p.clock.minute : Int) - c.minute) % 1440 < 60) := by
  refine Eq.trans ?_ (completionAge_below p.clock.minute 60 p.sweep.last)
  unfold Part.sweepFresh
  cases completionAge p.clock.minute p.sweep.last <;> rfl

theorem readFresh_eq (p : Part) : Part.readFresh p
    = p.faults.lastRead.elim false fun c => c.dated && decide (((p.clock.minute : Int) - c.minute) % 1440 < 45) := by
  refine Eq.trans ?_ (completionAge_below p.clock.minute 45 p.faults.lastRead)
  unfold Part.readFresh
  cases completionAge p.clock.minute p.faults.lastRead <;> rfl

/-! ## The rows of the table (R179, R183) -/

/-- What a change of bay state leaves of the bay record, but on leaving CLEARED. -/
theorem setBayState_bay_eq {p : Part} (new : BayState) (h : p.bay.state ≠ .cleared) : (setBayState new p).bay
    = { p.bay with state := new, patternFrom := if new = p.bay.state then p.bay.patternFrom else p.osc } := by
  by_cases same : p.bay.state = new
  · subst same
    simp [setBayState]
  · rw [setBayState_eq same]
    simp [Bay.chirpsLeft, h, Ne.symm same]

/-- What the entry to RELEASING leaves of the bay record (R183). -/
theorem enterReleasing_bay_eq {p : Part} (h : p.bay.state ≠ .cleared) (h' : p.bay.state ≠ .releasing) :
    (enterReleasing p).bay = { p.bay with state := .releasing, lanePass := false, patternFrom := p.osc } := by
  unfold enterReleasing
  rw [setBayState_bay_eq _ (by simpa using h)]
  simp [Ne.symm h']

/-- An evaluation of an open state that ends in RELEASING is the entry to it from READY. -/
theorem evaluate_releases {p : Part} (opens : openState p.bay.state = true) (h : (evaluate p).bay.state = .releasing) :
    evaluate p = enterReleasing (setBayState .ready (judge p)) := by
  obtain ⟨new, newOpens, row⟩ | row := evaluate_open_cases p opens
  · rw [row, (setBayState_bay new _).1] at h
    simp [h, openState] at newOpens
  · exact row

/-- One that does not is a change to an open state. -/
theorem evaluate_stays {p : Part} (opens : openState p.bay.state = true) (h : (evaluate p).bay.state ≠ .releasing) :
    evaluate p = setBayState (evaluate p).bay.state (judge p) := by
  obtain ⟨new, -, row⟩ | row := evaluate_open_cases p opens
  · rw [row, (setBayState_bay new _).1]
  · exact absurd (by simp [row]) h

/-- An open state is neither CLEARED nor RELEASING. -/
theorem not_closed_of_open {b : BayState} (h : openState b = true) : b ≠ .cleared ∧ b ≠ .releasing := by
  cases b <;> simp_all [openState]

/-- The bay record after an evaluation of an open state. -/
theorem evaluate_bay_eq {p : Part} (opens : openState p.bay.state = true) : (evaluate p).bay = { p.bay with
    state := (evaluate p).bay.state
    reasons := Part.judgedReasons p
    lanePass := p.bay.lanePass && (evaluate p).bay.state != .releasing
    patternFrom := if (evaluate p).bay.state = p.bay.state then p.bay.patternFrom else p.osc } := by
  obtain ⟨notCleared, notReleasing⟩ := not_closed_of_open opens
  by_cases h : (evaluate p).bay.state = .releasing
  · have ready := setBayState_bay_eq (p := judge p) .ready (by simpa using notCleared)
    rw [h, evaluate_releases opens h, enterReleasing_bay_eq (by simp [ready]) (by simp [ready]), ready]
    simp [Ne.symm notReleasing]
  · have row := setBayState_bay_eq (p := judge p) (evaluate p).bay.state (by simpa using notCleared)
    rw [← evaluate_stays opens h] at row
    rw [row]
    simp [h]

/-- An evaluation that does not end in RELEASING writes the bay record, the plan and its remarks, and the line. -/
theorem evaluate_unchanged_of_stays {p : Part} (opens : openState p.bay.state = true)
    (h : (evaluate p).bay.state ≠ .releasing) :
    unchangedExcept [.bay, .line, .plan, .remarks, .free] p (evaluate p) := by
  have cache := evaluate_cache p
  rw [evaluate_stays opens h] at cache ⊢
  intro b hb
  cases b <;> simp_all [agreeOn]

theorem evaluate_unchanged (p : Part) : unchangedExcept bayBlocks p (evaluate p) := by
  intro b hb
  cases b <;> simp_all [bayBlocks, agreeOn]

/-- What an abort does is a matter of the sweep, its marks and conversions, and its slot alone. -/
theorem sweepAborted_congr {lightsOff : Bool} {p q p' q' : Part} (sweep : p'.sweep = p.sweep)
    (measure : p'.measure = p.measure) (slot : p'.link.slots.sweep = p.link.slots.sweep) (sweep' : q'.sweep = q.sweep)
    (measure' : q'.measure = q.measure) (heat' : q'.heat = q.heat) (slot' : q'.link.slots.sweep = q.link.slots.sweep)
    (h : SweepAborted lightsOff p q) : SweepAborted lightsOff p' q' := by
  simpa only [SweepAborted, sweep, measure, slot, sweep', measure', heat', slot'] using h

/-- An abort leaves the slots of the other requesters. -/
theorem sweepAbort_slots (lightsOff : Bool) (p : Part) :
    (sweepAbort lightsOff p).link.slots.bay = p.link.slots.bay
      ∧ (sweepAbort lightsOff p).link.slots.faults = p.link.slots.faults := by
  unfold sweepAbort
  split
  · split <;> simp [Slots.put]
  · simp

/-- What the entry to RELEASING does to the link, the sweep and the fault list (R183). -/
theorem enterReleasing_checks (p : Part) : (enterReleasing p).link.slots.bay = some { code := .release, arg := 0 }
    ∧ (enterReleasing p).link.slots.faults = none ∧ SweepAborted true p (enterReleasing p)
    ∧ (enterReleasing p).faults
      = { p.faults with status := .idle, kind := none, toRead := none, nextIndex := none, staging := [] } := by
  obtain ⟨x, hx⟩ : ∃ x, x = place .bay .release { p with bay := { p.bay with lanePass := false } } := ⟨_, rfl⟩
  have entered : enterReleasing p = setBayState .releasing (operationEnds (sweepAbort true x)) := by rw [hx]; rfl
  have placed : x.link.slots.bay = some { code := .release, arg := 0 } := by simp [hx, Slots.put]
  have kept : p.sweep = x.sweep ∧ p.measure = x.measure ∧ p.link.slots.sweep = x.link.slots.sweep
      ∧ p.faults = x.faults := by
    simp [hx, Slots.put]
  obtain ⟨sweep, measure, slot, faults⟩ := kept
  rw [entered]
  refine ⟨?_, ?_, sweepAborted_congr sweep measure slot ?_ ?_ ?_ ?_ (sweepAbort_aborted true x), ?_⟩
  · simp [Slots.put, sweepAbort_slots, placed]
  · simp [Slots.put]
  · simp
  · simp
  · simp
  · simp [Slots.put]
  · simp [operationEnds, faults]

end Sys2Proof.Machine
end

section
/-! A changed lane view (R47), and one that meets the window watch's minute event (R190, notes/assumptions/33): whichever
comes first, the clearance evaluation ends on the same inputs. -/

namespace Sys2Proof.Machine

/-! ## A changed lane view -/

/-- The lane view reads the latch and the peer table alone (R45). -/
theorem laneView_congr {p q : Part} (latch : q.latch = p.latch) (entries : q.peers.entries = p.peers.entries) :
    Part.laneView q = Part.laneView p := by
  simp only [Part.laneView, Part.aheadDepths, Part.claims, latch, entries]

/-- The part in which FEEDER_MISMATCH and LANE_CLASH have been judged (R44, R46). -/
def judgePeers (p : Part) : Part := { p with
  remarks := { p.remarks with
    feederMismatch := Part.feederLimitInUse p != Part.ownLimit p, laneClash := Part.laneClashes p }
  line := Line.raised .baystate (decide (({ p.remarks with
    feederMismatch := Part.feederLimitInUse p != Part.ownLimit p
    laneClash := Part.laneClashes p } : Remarks) ≠ p.remarks)) p.line }

@[simp] theorem judgePeers_keeps (p : Part) : (judgePeers p).bay = p.bay ∧ (judgePeers p).osc = p.osc
    ∧ (judgePeers p).latch = p.latch ∧ (judgePeers p).peers = p.peers ∧ (judgePeers p).clock = p.clock
    ∧ (judgePeers p).link = p.link ∧ (judgePeers p).orders = p.orders := ⟨rfl, rfl, rfl, rfl, rfl, rfl, rfl⟩

/-- What follows a change of the peer table: the two remarks are judged, and a lane view that is not the one before reaches
the bay controller. -/
theorem afterPeers_eq (before : List Position) (p : Part) : afterPeers before p
    = if Part.laneView p = before then judgePeers p else laneViewChanged (judgePeers p) := by
  have put : ∀ (s : Remarks) (a b : Bool),
      (decide (Remarks.get (Remarks.put s .feederMismatch a) .laneClash ≠ b)
        || decide (Remarks.get s .feederMismatch ≠ a))
      = decide ({ s with feederMismatch := a, laneClash := b } ≠ s) := by
    rintro ⟨_, _, x, y, _, _, _, _, _⟩ a b
    cases a <;> cases b <;> cases x <;> cases y <;> simp [Remarks.get, Remarks.put]
  have judged : setRemark .laneClash (Part.laneClashes
      (setRemark .feederMismatch (Part.feederLimitInUse p != Part.ownLimit p) p))
      (setRemark .feederMismatch (Part.feederLimitInUse p != Part.ownLimit p) p) = judgePeers p := by
    simp only [setRemark_eq, raised_raised, put]
    rfl
  unfold afterPeers
  dsimp only
  rw [judged]
  rfl

/-- What an entry to RELEASING that is revised needs: it was made at this moment by the window watch's minute event, its
RELEASE still waits, no revocation has begun, and the lane is no longer clear. -/
theorem entryRevised_iff (p : Part) : Part.entryRevised p = true ↔
    p.bay.state = .releasing ∧ p.bay.openedAt = some p.osc
    ∧ p.link.slots.bay = some { code := .release, arg := 0 } ∧ p.bay.revocation = .none ∧ Part.laneClear p = false := by
  simp [Part.entryRevised, and_assoc]

theorem entryRevised_judgePeers (p : Part) : Part.entryRevised (judgePeers p) = Part.entryRevised p := rfl

/-- A view with every position FREE is fixed by the latch (R45, R47). -/
theorem laneView_eq_of_clear {p q : Part} (latch : q.latch = p.latch) (clear : Part.laneClear p = true)
    (clear' : Part.laneClear q = true) : Part.laneView q = Part.laneView p := by
  have free : ∀ x : Part, Part.laneClear x = true →
      Part.laneView x = List.replicate (Part.aheadDepths x).length .free := by
    intro x hx
    rw [List.eq_replicate_iff]
    refine ⟨by simp [Part.laneView], fun v hv => ?_⟩
    simpa using List.all_eq_true.mp hx v hv
  rw [free p clear, free q clear']
  simp [Part.aheadDepths, latch]

/-! ## The inputs of the evaluation -/

/-- The hold reasons that are latched (R178). -/
def Reasons.latched (r : Reasons) : Bool × Bool × Bool := (r.yardHoldRefused, r.orderHold, r.releaseRefused)

/-- What the clearance evaluation reads, but for the window: COACH entries, lamps, the last completions and the minute, the
link, the chain, the lane and the latched reasons (R178, R179). -/
def Part.judgedFrom (p : Part) : (List CoachEntry × List Lamp × Option Completion × Option Completion × Nat)
    × (LinkState × Bool × ChainStatus) × (List Position × Bool × Bool × Bool × Bool) :=
  ((p.faults.coach, p.lamps, p.faults.lastRead, p.sweep.last, p.clock.minute),
    (p.link.state, p.link.holdConfirmed, p.measure.chain),
    (Part.laneView p, p.bay.lanePass, Reasons.latched p.bay.reasons))

/-- What is judged from the same inputs is the same. -/
theorem judged_congr {p q : Part} (inputs : Part.judgedFrom q = Part.judgedFrom p) (window : q.bay.window = p.bay.window) :
    Part.judgedReasons q = Part.judgedReasons p ∧ Part.sweepPending q = Part.sweepPending p
      ∧ Part.readFresh q = Part.readFresh p := by
  simp only [Part.judgedFrom, Reasons.latched, Prod.mk.injEq] at inputs
  obtain ⟨⟨coach, lamps, read, swept, minute⟩, ⟨link, -, chain⟩, view, pass, held, order, refused⟩ := inputs
  have readFresh : Part.readFresh q = Part.readFresh p := by simp only [readFresh_eq, read, minute]
  have pending : Part.sweepPending q = Part.sweepPending p := by
    simp only [Part.sweepPending, sweepFresh_eq, swept, minute, lamps]
  refine ⟨?_, pending, readFresh⟩
  simp only [Part.judgedReasons, Part.coachBlock, coach, lamps, window, pending, readFresh, link, chain, view, pass, held,
    order, refused]

/-- Two evaluations of open states from the same inputs end alike. -/
theorem evaluate_congr {p q : Part} (opens : openState p.bay.state = true) (opens' : openState q.bay.state = true)
    (inputs : Part.judgedFrom q = Part.judgedFrom p) (window : q.bay.window = p.bay.window) :
    (evaluate q).bay.state = (evaluate p).bay.state ∧ (evaluate q).bay.reasons = (evaluate p).bay.reasons := by
  obtain ⟨reasons, pending, read⟩ := judged_congr inputs window
  have hold : q.link.holdConfirmed = p.link.holdConfirmed := by
    simp only [Part.judgedFrom, Prod.mk.injEq] at inputs
    exact inputs.2.1.2.1
  obtain ⟨reasonsP, stateP⟩ := evaluate_placed p opens
  obtain ⟨reasonsQ, stateQ⟩ := evaluate_placed q opens'
  rw [stateP, stateQ, reasonsP, reasonsQ, reasons, pending, read, window, hold]
  exact ⟨rfl, rfl⟩

/-- A view that is not clear has a position that is OCCUPIED or UNKNOWN. -/
theorem view_of_not_clear (view : List Position) (h : view.all (· == .free) = false) :
    view.any (· == .occupied) = true ∨ view.any (· == .unknown) = true := by
  obtain ⟨v, hv, notFree⟩ := List.all_eq_false.mp h
  cases v with
  | free => exact absurd rfl notFree
  | occupied => exact .inl (List.any_eq_true.mpr ⟨_, hv, rfl⟩)
  | unknown => exact .inr (List.any_eq_true.mpr ⟨_, hv, rfl⟩)

/-- With the window open and no lane pass held, a lane that is not clear keeps the bay HELD (R178, R179). -/
theorem evaluate_held {p : Part} (opens : openState p.bay.state = true) (window : p.bay.window = true)
    (pass : p.bay.lanePass = false) (clear : Part.laneClear p = false) : (evaluate p).bay.state = .held := by
  have reason : Reasons.any (Part.judgedReasons p) = true := by
    have lane : (Part.judgedReasons p).laneBlocked = true ∨ (Part.judgedReasons p).laneUnknown = true := by
      simp only [Part.judgedReasons, window, pass, Bool.not_false, Bool.true_and]
      cases occupied : (Part.laneView p).any (· == .occupied) with
      | true => exact .inl rfl
      | false =>
        have unknown := (view_of_not_clear _ clear).resolve_left (by simp [occupied])
        exact .inr (by simp [unknown])
    obtain lane | lane := lane <;> simp [Reasons.any, lane]
  rw [(evaluate_placed p opens).2, if_pos reason]

/-- An evaluation into RELEASING finds no hold reason. -/
theorem noReason_of_releases {p : Part} (opens : openState p.bay.state = true)
    (releases : (evaluate p).bay.state = .releasing) : Reasons.any (Part.judgedReasons p) = false := by
  rw [(evaluate_placed p opens).2] at releases
  by_contra any
  rw [if_pos (by simpa using any)] at releases
  cases releases

/-! ## What keeps these inputs -/

theorem sweepAbort_keeps_judged (lightsOff : Bool) (p : Part) : (sweepAbort lightsOff p).sweep.last = p.sweep.last
    ∧ (sweepAbort lightsOff p).measure.chain = p.measure.chain := by
  unfold sweepAbort
  split
  · split <;> simp
  · simp

theorem judge_keeps_judgedFrom (p : Part) : Part.judgedFrom (judge p) = Part.judgedFrom p := by
  have view := laneView_congr (p := p) (q := judge p) (by simp) (by simp)
  simp [Part.judgedFrom, view, Reasons.latched, Part.judgedReasons]

theorem setBayState_keeps_judgedFrom (new : BayState) (p : Part) :
    Part.judgedFrom (setBayState new p) = Part.judgedFrom p := by
  have view := laneView_congr (p := p) (q := setBayState new p) (by simp) (by simp)
  simp [Part.judgedFrom, view]

theorem enterReleasing_keeps_judgedFrom {p : Part} (pass : p.bay.lanePass = false) :
    Part.judgedFrom (enterReleasing p) = Part.judgedFrom p := by
  have view := laneView_congr (p := p) (q := enterReleasing p) (by simp) (by simp)
  simp [Part.judgedFrom, view, pass]
  simp [enterReleasing, sweepAbort_keeps_judged]

/-- An evaluation leaves its own inputs as they were, but for a lane pass that it consumes. -/
theorem evaluate_keeps_judgedFrom {p : Part} (pass : p.bay.lanePass = false) :
    Part.judgedFrom (evaluate p) = Part.judgedFrom p := by
  obtain same | same | ⟨-, new, -, same⟩ | ⟨-, same⟩ := evaluate_cases p
  · rw [same]
  · rw [same, judge_keeps_judgedFrom]
  · rw [same, setBayState_keeps_judgedFrom, judge_keeps_judgedFrom]
  · rw [same, enterReleasing_keeps_judgedFrom (by simpa using pass), setBayState_keeps_judgedFrom, judge_keeps_judgedFrom]

/-- A request to the fault list leaves the COACH entries, the last read and the state of the link. -/
theorem faultRequest_keeps_judged (kind : OpKind) (p : Part) : (faultRequest kind p).faults.coach = p.faults.coach
    ∧ (faultRequest kind p).faults.lastRead = p.faults.lastRead ∧ (faultRequest kind p).link.state = p.link.state
    ∧ (faultRequest kind p).link.holdConfirmed = p.link.holdConfirmed := by
  unfold faultRequest startOperation
  (repeat' split) <;> simp

/-- The watches leave them too: what they ask for is none of them. -/
theorem runWatches_keeps_judged (p : Part) : (runWatches p).faults.coach = p.faults.coach
    ∧ (runWatches p).faults.lastRead = p.faults.lastRead ∧ (runWatches p).link.state = p.link.state
    ∧ (runWatches p).link.holdConfirmed = p.link.holdConfirmed ∧ (runWatches p).sweep.last = p.sweep.last := by
  cases hm : Part.minutesToDeparture p with
  | none => simp [runWatches, hm]
  | some m =>
    rw [runWatches_eq hm]
    unfold requestSweepIf requestReadIf sweepRequest
    (repeat' split) <;> simp [faultRequest_keeps_judged]

@[simp] theorem beforeBay_keeps_rest (p : Part) : (beforeBay p).latch = p.latch ∧ (beforeBay p).peers = p.peers
    ∧ (beforeBay p).lamps = p.lamps ∧ (beforeBay p).measure = p.measure := by
  simp [beforeBay]

theorem watchedAtMinute_keeps_judgedFrom (p : Part) : Part.judgedFrom (watchedAtMinute p) = Part.judgedFrom p := by
  have view := laneView_congr (p := p) (q := watchedAtMinute p) (by simp [watchedAtMinute]) (by simp [watchedAtMinute])
  have watched := runWatches_keeps_judged (beforeBay p)
  rw [Part.judgedFrom, Part.judgedFrom, view, watchedAtMinute_bay p rfl]
  simp [watchedAtMinute, watched]

/-- The window after the watches: open before, or opened by the window watch at M ≤ 5 (R180). -/
theorem watchedAtMinute_window (p : Part) : (watchedAtMinute p).bay.window
    = (p.bay.window || (Part.minutesToDeparture p).any fun m => (evaluateWatch p.bay.windowWatch m 5).2) := by
  unfold watchedAtMinute
  rw [noteOpening_bay, runWatches_bay, minutesToDeparture_beforeBay]
  cases Part.minutesToDeparture p <;> simp

/-! ## A changed lane view that meets the window watch's minute event (R190) -/

/-- `p` with the entries of the peer table changed. -/
def withEntries (es : List Peer) (p : Part) : Part := { p with peers := { p.peers with entries := es } }

/-- Where the inputs of the evaluation are the same, they are so for any peer table. -/
theorem judgedFrom_withEntries {p q : Part} (es : List Peer) (latch : q.latch = p.latch)
    (inputs : Part.judgedFrom q = Part.judgedFrom p) :
    Part.judgedFrom (withEntries es q) = Part.judgedFrom (withEntries es p) := by
  have view := laneView_congr (p := withEntries es p) (q := withEntries es q) latch rfl
  simp only [Part.judgedFrom, Prod.mk.injEq] at inputs ⊢
  obtain ⟨checks, link, -, rest⟩ := inputs
  exact ⟨checks, link, view, rest⟩

/-- A changed peer table with the lane view as it was changes none of the inputs. -/
theorem judgedFrom_of_view {p : Part} {es : List Peer} (view : Part.laneView (withEntries es p) = Part.laneView p) :
    Part.judgedFrom (withEntries es p) = Part.judgedFrom p := by
  simp only [Part.judgedFrom, view]
  rfl

@[simp] theorem withEntries_keeps (es : List Peer) (p : Part) : (withEntries es p).bay = p.bay
    ∧ (withEntries es p).osc = p.osc ∧ (withEntries es p).latch = p.latch ∧ (withEntries es p).clock = p.clock
    ∧ (withEntries es p).link = p.link ∧ (withEntries es p).orders = p.orders := ⟨rfl, rfl, rfl, rfl, rfl, rfl⟩

theorem judgePeers_keeps_judgedFrom (p : Part) : Part.judgedFrom (judgePeers p) = Part.judgedFrom p := rfl

/-- While the window is closed an evaluation leads to no RELEASING. -/
theorem evaluate_opens {p : Part} (opens : openState p.bay.state = true) (window : p.bay.window = false) :
    openState (evaluate p).bay.state = true := by
  rw [(evaluate_placed p opens).2, window]
  (repeat' split) <;> simp_all [openState]

/-- A lane view that does not revise an entry is evaluated. -/
theorem afterPeers_changed {before : List Position} {p : Part} (view : Part.laneView p ≠ before)
    (kept : Part.entryRevised p = false) : afterPeers before p = evaluate (judgePeers p) := by
  rw [afterPeers_eq, if_neg view, laneViewChanged_evaluates _ (by rwa [entryRevised_judgePeers])]

/-- The lane view first: the minute event ends in an evaluation with the new peer table. -/
theorem minuteEvent_afterPeers {p : Part} (es : List Peer) (opens : openState p.bay.state = true)
    (window : p.bay.window = false) (pass : p.bay.lanePass = false) :
    ∃ w, minuteEvent (afterPeers (Part.laneView p) (withEntries es p)) = evaluate w ∧ openState w.bay.state = true
      ∧ Part.judgedFrom w = Part.judgedFrom (withEntries es p)
      ∧ w.bay.window = (watchedAtMinute p).bay.window := by
  have opens' : openState (judgePeers (withEntries es p)).bay.state = true := opens
  obtain ⟨x, hx⟩ : ∃ x, x = afterPeers (Part.laneView p) (withEntries es p) := ⟨_, rfl⟩
  have entered : openState x.bay.state = true ∧ Part.judgedFrom x = Part.judgedFrom (withEntries es p)
      ∧ x.bay.window = p.bay.window ∧ x.bay.windowWatch = p.bay.windowWatch ∧ x.bay.roster = p.bay.roster
      ∧ x.clock = p.clock := by
    by_cases view : Part.laneView (withEntries es p) = Part.laneView p
    · rw [hx, afterPeers_eq, if_pos view]
      exact ⟨opens, rfl, rfl, rfl, rfl, rfl⟩
    · have kept : Part.entryRevised (withEntries es p) = false := by
        rw [Bool.eq_false_iff, Ne, entryRevised_iff]
        exact fun revised => (not_closed_of_open opens).2 revised.1
      rw [hx, afterPeers_changed view kept]
      refine ⟨evaluate_opens opens' window, evaluate_keeps_judgedFrom (p := judgePeers (withEntries es p)) pass, ?_⟩
      simp [judgePeers, withEntries]
  obtain ⟨opensX, inputs, windowX, watch, roster, clock⟩ := entered
  refine ⟨watchedAtMinute x, by rw [← hx, (minuteEvent_cases x).2.1 opensX], by simpa using opensX,
    by rw [watchedAtMinute_keeps_judgedFrom, inputs], ?_⟩
  simp only [watchedAtMinute_window, windowX, watch, Part.minutesToDeparture, roster, clock]

/-- The part in which an entry to RELEASING that is revised is HELD again: RELEASE withdrawn, no reason latched (R190). -/
def entryTakenBack (p : Part) : Part := setBayState .held { setSlot .bay none p with bay := { p.bay with
  revocation := .none, reasons := {} } }

theorem laneViewChanged_revised {p : Part} (revised : Part.entryRevised p = true) (copy : p.bay.roster.isSome = true) :
    laneViewChanged p = evaluate (entryTakenBack p) := by
  simp [laneViewChanged, revised, returnToHeld, entryTakenBack, copy]

/-- The inputs stay where no reason was latched. -/
theorem entryTakenBack_judgedFrom {p : Part} (latched : Reasons.latched p.bay.reasons = (false, false, false)) :
    Part.judgedFrom (entryTakenBack p) = Part.judgedFrom p := by
  rw [entryTakenBack, setBayState_keeps_judgedFrom]
  simp only [Part.judgedFrom, latched]
  rfl

theorem latched_of_noReason {r : Reasons} (h : Reasons.any r = false) : Reasons.latched r = (false, false, false) := by
  simp only [Reasons.any, Bool.or_eq_false_iff] at h
  simp [Reasons.latched, h]

/-- A minute event in PREPARE, READY and HELD leaves the roster copy and the revocation. -/
theorem minuteEvent_keeps_record {p : Part} (opens : openState p.bay.state = true) :
    (minuteEvent p).bay.roster = p.bay.roster ∧ (minuteEvent p).bay.revocation = p.bay.revocation := by
  rw [(minuteEvent_cases p).2.1 opens]
  simp only [evaluate_bay]
  rw [watchedAtMinute_bay p rfl]
  exact ⟨rfl, rfl⟩

/-- A minute event that opens the window and takes the bay into RELEASING: the lane was clear and no reason was latched. -/
theorem minuteEvent_releases {p : Part} (opens : openState p.bay.state = true) (window : p.bay.window = false)
    (pass : p.bay.lanePass = false) (opened : (minuteEvent p).bay.window = true)
    (releases : (minuteEvent p).bay.state = .releasing) :
    Part.laneClear p = true ∧ Reasons.latched (minuteEvent p).bay.reasons = (false, false, false)
      ∧ (minuteEvent p).bay.openedAt = some p.osc
      ∧ (minuteEvent p).link.slots.bay = some { code := .release, arg := 0 } ∧ p.bay.roster.isSome = true := by
  have opensW : openState (watchedAtMinute p).bay.state = true := by simpa using opens
  have event := (minuteEvent_cases p).2.1 opens
  rw [event] at opened releases ⊢
  rw [(evaluate_bay _).2.2.2.1] at opened
  have bay := watchedAtMinute_bay p rfl
  have noReason := noReason_of_releases opensW releases
  refine ⟨?_, ?_, ?_, ?_, ?_⟩
  · have view : Part.laneClear (watchedAtMinute p) = Part.laneClear p := by
      rw [Part.laneClear, laneView_congr (p := p) (by simp [watchedAtMinute]) (by simp [watchedAtMinute])]
      rfl
    by_contra clear
    have held := evaluate_held opensW opened (by rw [bay, pass]) (by rw [view]; simpa using clear)
    rw [held] at releases
    cases releases
  · rw [(evaluate_placed _ opensW).1]
    exact latched_of_noReason noReason
  · rw [show (evaluate (watchedAtMinute p)).bay.openedAt = (watchedAtMinute p).bay.openedAt by simp, bay]
    exact if_pos ⟨window, opened, pass⟩
  · rw [evaluate_releases opensW releases]
    exact (enterReleasing_checks _).1
  · rw [watchedAtMinute_window, window, Bool.false_or] at opened
    unfold Part.minutesToDeparture at opened
    cases roster : p.bay.roster with
    | none => simp [roster] at opened
    | some r => rfl

/-- The minute event first, into RELEASING: a view that is now another takes the entry back to HELD, and is evaluated
there. -/
theorem afterPeers_revises {p : Part} {es : List Peer} (opens : openState p.bay.state = true)
    (window : p.bay.window = false) (pass : p.bay.lanePass = false) (none_ : p.bay.revocation = .none)
    (opened : (minuteEvent p).bay.window = true) (releases : (minuteEvent p).bay.state = .releasing)
    (view : Part.laneView (withEntries es (minuteEvent p)) ≠ Part.laneView p) :
    afterPeers (Part.laneView p) (withEntries es (minuteEvent p))
      = evaluate (entryTakenBack (judgePeers (withEntries es (minuteEvent p)))) := by
  obtain ⟨clear, -, openedAt, slot, copy⟩ := minuteEvent_releases opens window pass opened releases
  have latch : (minuteEvent p).latch = p.latch := by simp
  have blocked : Part.laneClear (withEntries es (minuteEvent p)) = false := by
    by_contra h
    exact view (laneView_eq_of_clear latch clear (by simpa using h))
  have osc : (minuteEvent p).osc = p.osc := by simp
  obtain ⟨roster, revocation⟩ := minuteEvent_keeps_record opens
  have revised : Part.entryRevised (withEntries es (minuteEvent p)) = true :=
    (entryRevised_iff _).mpr ⟨releases, openedAt.trans (congrArg some osc.symm), slot, revocation.trans none_, blocked⟩
  have copy' : (judgePeers (withEntries es (minuteEvent p))).bay.roster.isSome = true := by
    rw [← copy, ← roster]
    rfl
  rw [afterPeers_eq, if_neg view, laneViewChanged_revised (by rwa [entryRevised_judgePeers]) copy']

/-- The minute event first, the window opened by it: the bay ends as an evaluation with the new peer table has it. -/
theorem afterPeers_minuteEvent {p : Part} (es : List Peer) (opens : openState p.bay.state = true)
    (window : p.bay.window = false) (pass : p.bay.lanePass = false) (none_ : p.bay.revocation = .none)
    (opened : (minuteEvent p).bay.window = true) {r : Part}
    (hr : r = afterPeers (Part.laneView p) (withEntries es (minuteEvent p))) :
    r.bay.window = true ∧ ∃ w, openState w.bay.state = true ∧ Part.judgedFrom w = Part.judgedFrom (withEntries es p)
      ∧ w.bay.window = true ∧ r.bay.state = (evaluate w).bay.state ∧ r.bay.reasons = (evaluate w).bay.reasons := by
  have opensW : openState (watchedAtMinute p).bay.state = true := by simpa using opens
  have event := (minuteEvent_cases p).2.1 opens
  have openedW : (watchedAtMinute p).bay.window = true := by simpa [event] using opened
  have passW : (watchedAtMinute p).bay.lanePass = false := by rw [watchedAtMinute_bay p rfl, pass]
  have inputs : Part.judgedFrom (minuteEvent p) = Part.judgedFrom p := by
    rw [event, evaluate_keeps_judgedFrom passW, watchedAtMinute_keeps_judgedFrom]
  have inputs' := judgedFrom_withEntries es (p := p) (q := minuteEvent p) (by simp) inputs
  have latch : (minuteEvent p).latch = p.latch := by simp
  by_cases view : Part.laneView (withEntries es (minuteEvent p)) = Part.laneView p
  · have viewP : Part.laneView (withEntries es p) = Part.laneView p :=
      (laneView_congr (p := withEntries es p) (q := withEntries es (minuteEvent p)) latch rfl).symm.trans view
    rw [hr, afterPeers_eq, if_pos view]
    refine ⟨opened, watchedAtMinute p, opensW, ?_, openedW, ?_, ?_⟩
    · rw [watchedAtMinute_keeps_judgedFrom, judgedFrom_of_view viewP]
    · exact congrArg (·.bay.state) event
    · exact congrArg (·.bay.reasons) event
  · by_cases releases : (minuteEvent p).bay.state = .releasing
    · obtain ⟨-, latched, -⟩ := minuteEvent_releases opens window pass opened releases
      have windowW : (entryTakenBack (judgePeers (withEntries es (minuteEvent p)))).bay.window = true := by
        simpa [entryTakenBack] using opened
      rw [hr, afterPeers_revises opens window pass none_ opened releases view]
      refine ⟨by simpa using windowW, _, ?_, ?_, windowW, rfl, rfl⟩
      · simp [entryTakenBack, openState]
      · rw [entryTakenBack_judgedFrom (by simpa using latched), judgePeers_keeps_judgedFrom, inputs']
    · have kept : Part.entryRevised (withEntries es (minuteEvent p)) = false := by
        rw [Bool.eq_false_iff, Ne, entryRevised_iff]
        exact fun revised => releases revised.1
      have stays : openState (minuteEvent p).bay.state = true := by
        rw [event] at releases ⊢
        rw [(evaluate_placed _ opensW).2] at releases ⊢
        (repeat' split) <;> simp_all [openState]
      rw [hr, afterPeers_changed view kept]
      exact ⟨by simpa using opened, judgePeers (withEntries es (minuteEvent p)), stays, inputs', opened, rfl, rfl⟩

end Sys2Proof.Machine
end

section
/-! The clearance evaluation as a whole (R178, R179, R183), and what sets it off (R47, R190). -/

namespace Sys2Proof.Machine

/-- An evaluation in STANDBY, as one update: the reasons as judged, and BAYSTATE where they change (R25, R178). -/
theorem evaluate_standby_eq {p : Part} (h : p.bay.state = .standby) : evaluate p = { p with
    bay := { p.bay with reasons := Part.judgedReasons p }
    line := Line.raised .baystate (decide (Part.judgedReasons p ≠ p.bay.reasons)) p.line } := by
  rw [evaluate_standby p h, judge, setReasons_eq]

theorem unchanged_of_bay_line (p : Part) (b : Bay) (l : Line) :
    unchangedExcept [.bay, .line] p { p with bay := b, line := l } := by
  intro block hb
  cases block <;> simp_all [agreeOn]

/-- Lane view and lane pass are inputs of the evaluation. -/
theorem lane_of_judgedFrom {p q : Part} (h : Part.judgedFrom q = Part.judgedFrom p) :
    Part.laneView q = Part.laneView p ∧ q.bay.lanePass = p.bay.lanePass := by
  simp only [Part.judgedFrom, Prod.mk.injEq] at h
  obtain ⟨-, -, view, pass, -⟩ := h
  exact ⟨view, pass⟩

theorem judgePeers_unchanged (p : Part) : unchangedExcept [.remarks, .line] p (judgePeers p) := by
  intro b hb
  cases b <;> simp_all [agreeOn, judgePeers]

/-- The entry to RELEASING from an open state places RELEASE, empties the fault list's slot, aborts a running sweep and cuts an
operation short (R183). -/
theorem evaluate_releases_checks {p : Part} (opens : openState p.bay.state = true)
    (releases : (evaluate p).bay.state = .releasing) :
    (evaluate p).link.slots.bay = some { code := .release, arg := 0 } ∧ (evaluate p).link.slots.faults = none
      ∧ SweepAborted true p (evaluate p)
      ∧ (evaluate p).faults
        = { p.faults with status := .idle, kind := none, toRead := none, nextIndex := none, staging := [] } := by
  rw [evaluate_releases opens releases]
  obtain ⟨slot, slotFaults, aborted, faults⟩ := enterReleasing_checks (setBayState .ready (judge p))
  refine ⟨slot, slotFaults, sweepAborted_congr ?_ ?_ ?_ rfl rfl rfl rfl aborted, by simpa using faults⟩ <;> simp

/-- Settles O45: the table row by row, `judgePeers` and the change of view, and the two orders of R190 by `evaluate_congr`. -/
theorem evaluationPlacesTheBay : Obligations.EvaluationPlacesTheBay := by
  refine ⟨?evaluation, ?viewChange, ?bothOrders⟩
  case evaluation =>
    rintro p q sweepFresh readFresh pending r rfl hsweep hread hpending hreasons
    obtain rfl : sweepFresh = Part.sweepFresh p := by
      rw [hsweep, sweepFresh_eq]
      cases p.sweep.last <;> rfl
    obtain rfl : readFresh = Part.readFresh p := by
      rw [hread, readFresh_eq]
      cases p.faults.lastRead <;> rfl
    obtain rfl : pending = Part.sweepPending p := hpending
    obtain rfl : r = Part.judgedReasons p := hreasons
    refine ⟨fun closed notStandby => evaluate_elsewhere p ?_, fun standby => ?_, fun opens => ⟨?_, evaluate_line p opens,
      evaluate_unchanged_of_stays opens, evaluate_releases_checks opens, evaluate_unchanged p⟩⟩
    · cases h : p.bay.state <;> simp_all [heldCoach, openState]
    · rw [evaluate_standby_eq standby]
      exact ⟨rfl, rfl, unchanged_of_bay_line p _ _⟩
    · rw [← (evaluate_placed p opens).2]
      exact evaluate_bay_eq opens
  case viewChange =>
    rintro p q before rfl
    refine ⟨judgePeers p, rfl, rfl, judgePeers_unchanged p, fun same => ?_, fun changed kept => ?_⟩
    · rw [afterPeers_eq, if_pos same]
    · refine afterPeers_changed changed ?_
      rw [Bool.eq_false_iff, Ne, entryRevised_iff]
      rintro ⟨state, openedAt, slot, revocation, clear⟩
      simp [state, openedAt, slot, revocation, clear] at kept
  case bothOrders =>
    rintro p q r r' es opens window pass none_ rfl opened hr hr'
    have viewKept : Part.laneView (minuteEvent p) = Part.laneView p := laneView_congr (by simp) (by simp)
    rw [viewKept] at hr
    change r = afterPeers (Part.laneView p) (withEntries es (minuteEvent p)) at hr
    change r' = minuteEvent (afterPeers (Part.laneView p) (withEntries es p)) at hr'
    obtain ⟨windowR, w, opensW, inputs, windowW, state, reasons⟩ :=
      afterPeers_minuteEvent es opens window pass none_ opened hr
    obtain ⟨w', event', opensW', inputs', windowW'⟩ := minuteEvent_afterPeers es opens window pass
    have windowW' : w'.bay.window = true := by
      rw [windowW']
      simpa [(minuteEvent_cases p).2.1 opens] using opened
    obtain ⟨sameState, sameReasons⟩ :=
      evaluate_congr opensW opensW' (inputs'.trans inputs.symm) (windowW'.trans windowW.symm)
    rw [event'] at hr'
    have viewR : Part.laneView r = Part.laneView (withEntries es p) := by
      rw [hr]
      exact laneView_congr (by simp) (by simp [withEntries])
    obtain ⟨viewW, passW⟩ := lane_of_judgedFrom inputs
    refine ⟨by rw [state, hr', sameState], by rw [reasons, hr', sameReasons], windowR, by rw [hr']; simpa using windowW',
      fun blocked => ?_⟩
    have held : r.bay.state = .held := by
      rw [state]
      refine evaluate_held opensW windowW (passW.trans pass) ?_
      rwa [Part.laneClear, viewW, ← viewR]
    refine ⟨held, fun releases => ?_⟩
    have changed : Part.laneView (withEntries es (minuteEvent p)) ≠ Part.laneView p := by
      intro same
      have clear := (minuteEvent_releases opens window pass opened releases).1
      have view := laneView_congr (p := withEntries es p) (q := withEntries es (minuteEvent p)) (by simp) rfl
      rw [Part.laneClear, viewR, ← view, same] at blocked
      exact Bool.false_ne_true (blocked.symm.trans clear)
    rw [afterPeers_revises opens window pass none_ opened releases changed] at hr
    obtain ⟨-, link, -⟩ := evaluate_checks (entryTakenBack (judgePeers (withEntries es (minuteEvent p))))
      (by rw [← hr, held]; simp)
    rw [hr]
    exact ⟨by rw [link]; simp [entryTakenBack, Slots.put], by simp [entryTakenBack]⟩

end Sys2Proof.Machine
end

section
/-! The peer table as a list (R33): what writing and deleting an entry leave of it, and the GHOST that a full table evicts
(R38). -/

namespace Sys2Proof.Machine

/-! ## Order -/

/-- A strictly rising list is in order throughout. -/
theorem strictlyRising_iff (ns : List Nat) : strictlyRising ns = true ↔ ns.Pairwise (· < ·) := by
  rw [← List.isChain_iff_pairwise]
  induction ns with
  | nil => simp [strictlyRising]
  | cons n ns ih =>
    cases ns with
    | nil => simp [strictlyRising]
    | cons m ms => simp [strictlyRising, ih]

/-- The table is in order of station number, so that it holds at most one entry a station (R33). -/
def Rising (es : List Peer) : Prop := es.Pairwise fun a b => a.station < b.station

theorem rising_iff (es : List Peer) : strictlyRising (es.map (·.station)) = true ↔ Rising es := by
  rw [strictlyRising_iff, List.pairwise_map, Rising]

/-! ## The entry of a station -/

/-- What is found is an entry of the table, of the station asked for. -/
theorem findPeer_some {n : Nat} {es : List Peer} {e : Peer} (h : findPeer n es = some e) : e ∈ es ∧ e.station = n :=
  ⟨List.mem_of_find?_eq_some h, by simpa using List.find?_some h⟩

theorem findPeer_eq_none_iff {n : Nat} {es : List Peer} : findPeer n es = none ↔ ∀ e ∈ es, e.station ≠ n := by
  simp [findPeer]

theorem findPeer_cons (n : Nat) (e : Peer) (es : List Peer) :
    findPeer n (e :: es) = if e.station = n then some e else findPeer n es := by
  unfold findPeer
  rw [List.find?_cons]
  cases h : e.station == n <;> simp_all

/-! ## Deletion -/

theorem mem_deletePeer {n : Nat} {es : List Peer} {e : Peer} : e ∈ deletePeer n es ↔ e ∈ es ∧ e.station ≠ n := by
  simp [deletePeer]

/-- A deleted station has no entry. -/
theorem findPeer_deletePeer_same (n : Nat) (es : List Peer) : findPeer n (deletePeer n es) = none :=
  findPeer_eq_none_iff.mpr fun _ he => (mem_deletePeer.mp he).2

/-- A deletion leaves the entries of the others. -/
theorem findPeer_deletePeer_other {m n : Nat} (es : List Peer) (h : m ≠ n) :
    findPeer m (deletePeer n es) = findPeer m es := by
  unfold findPeer deletePeer
  rw [List.find?_filter]
  congr 1
  funext e
  by_cases he : e.station = m <;> simp [he, h]

/-- A deletion of a station without an entry leaves the table. -/
theorem deletePeer_absent {n : Nat} {es : List Peer} (h : findPeer n es = none) : deletePeer n es = es := by
  simpa [deletePeer, findPeer] using h

theorem deletePeer_rising {n : Nat} {es : List Peer} (h : Rising es) : Rising (deletePeer n es) := h.filter _

theorem deletePeer_length_le (n : Nat) (es : List Peer) : (deletePeer n es).length ≤ es.length :=
  List.length_filter_le _ _

/-- A station has one entry at most, so its deletion makes one place. -/
theorem deletePeer_length {es : List Peer} {g : Peer} (rising : Rising es) (h : g ∈ es) :
    (deletePeer g.station es).length + 1 = es.length := by
  induction es with
  | nil => simp at h
  | cons x xs ih =>
    obtain ⟨below, rising⟩ := List.pairwise_cons.mp rising
    obtain rfl | h := List.mem_cons.mp h
    · have none_ : findPeer g.station xs = none := findPeer_eq_none_iff.mpr fun e he => (below e he).ne'
      have same := deletePeer_absent none_
      simpa [deletePeer] using congrArg List.length same
    · have other : x.station ≠ g.station := (below g h).ne
      simpa [deletePeer, other] using ih rising h

/-! ## Writing -/

/-- A written entry is the one found of its station. -/
theorem findPeer_storePeer_same (e : Peer) (es : List Peer) : findPeer e.station (storePeer e es) = some e := by
  induction es with
  | nil => simp [storePeer, findPeer_cons]
  | cons x xs ih =>
    unfold storePeer
    split
    · simp [findPeer_cons]
    · split
      · simp [findPeer_cons]
      · next other => rw [findPeer_cons, if_neg (Ne.symm other), ih]

/-- Writing an entry leaves those of the other stations. -/
theorem findPeer_storePeer_other {m : Nat} (e : Peer) (es : List Peer) (h : m ≠ e.station) :
    findPeer m (storePeer e es) = findPeer m es := by
  induction es with
  | nil => simp [storePeer, findPeer_cons, h.symm]
  | cons x xs ih =>
    unfold storePeer
    split
    · simp [findPeer_cons, h.symm]
    · split
      · next same => simp [findPeer_cons, ← same, h.symm]
      · simp [findPeer_cons, ih]

/-- What a table holds after writing is the entry written or was in it before. -/
theorem of_mem_storePeer {e x : Peer} {es : List Peer} (h : x ∈ storePeer e es) : x = e ∨ x ∈ es := by
  induction es with
  | nil => simpa [storePeer] using h
  | cons y ys ih =>
    unfold storePeer at h
    split at h
    · simpa using h
    · split at h
      · obtain rfl | old := List.mem_cons.mp h
        · exact .inl rfl
        · exact .inr (List.mem_cons_of_mem _ old)
      · obtain rfl | old := List.mem_cons.mp h
        · exact .inr List.mem_cons_self
        · exact (ih old).imp_right (List.mem_cons_of_mem _)

/-- Writing keeps the entries of the other stations. -/
theorem mem_storePeer_of_other {e x : Peer} {es : List Peer} (h : x ∈ es) (other : x.station ≠ e.station) :
    x ∈ storePeer e es := by
  induction es with
  | nil => simp at h
  | cons y ys ih =>
    unfold storePeer
    split
    · exact List.mem_cons_of_mem _ h
    · obtain rfl | h := List.mem_cons.mp h
      · rw [if_neg (Ne.symm other)]
        exact List.mem_cons_self
      · split
        · exact List.mem_cons_of_mem _ h
        · exact List.mem_cons_of_mem _ (ih h)

/-- Writing keeps the order. -/
theorem storePeer_rising {es : List Peer} (e : Peer) (h : Rising es) : Rising (storePeer e es) := by
  induction es with
  | nil => exact List.pairwise_singleton _ _
  | cons x xs ih =>
    have whole := h
    obtain ⟨below, rising⟩ := List.pairwise_cons.mp h
    unfold storePeer
    split
    · next less =>
      refine List.pairwise_cons.mpr ⟨fun y hy => ?_, whole⟩
      obtain rfl | hy := List.mem_cons.mp hy
      · exact less
      · exact less.trans (below y hy)
    · split
      · next same => exact List.pairwise_cons.mpr ⟨fun y hy => same ▸ below y hy, rising⟩
      · next notLess other =>
        refine List.pairwise_cons.mpr ⟨fun y hy => ?_, ih rising⟩
        obtain rfl | hy := of_mem_storePeer hy
        · omega
        · exact below y hy

/-- A new station takes one place. -/
theorem storePeer_length_new {e : Peer} {es : List Peer} (h : findPeer e.station es = none) :
    (storePeer e es).length = es.length + 1 := by
  induction es with
  | nil => rfl
  | cons x xs ih =>
    rw [findPeer_cons] at h
    unfold storePeer
    split
    · rfl
    · split
      · next same => simp [same] at h
      · next other =>
        rw [if_neg (Ne.symm other)] at h
        simp [ih h]

/-- A station of the table takes its own place again. -/
theorem storePeer_length_held {e x : Peer} {es : List Peer} (rising : Rising es) (h : x ∈ es)
    (same : x.station = e.station) : (storePeer e es).length = es.length := by
  induction es with
  | nil => simp at h
  | cons y ys ih =>
    obtain ⟨below, rising⟩ := List.pairwise_cons.mp rising
    unfold storePeer
    obtain rfl | h := List.mem_cons.mp h
    · simp [same]
    · have after := below x h
      rw [if_neg (by omega), if_neg (by omega)]
      simp [ih rising h]

/-! ## The oldest GHOST (R38) -/

theorem oldestGhost_cons (e : Peer) (es : List Peer) : oldestGhost (e :: es) = (match oldestGhost es with
    | none => if e.status = .ghost then some e else none
    | some g => if e.status = .ghost ∧ e.lastHeard ≤ g.lastHeard then some e else some g) := rfl

/-- The table has no oldest GHOST exactly where no entry is a GHOST. -/
theorem oldestGhost_eq_none_iff (es : List Peer) : oldestGhost es = none ↔ ∀ x ∈ es, x.status ≠ .ghost := by
  induction es with
  | nil => simp [oldestGhost]
  | cons e es ih =>
    rw [List.forall_mem_cons, ← ih, oldestGhost_cons]
    cases oldestGhost es with
    | none => simp
    | some g => dsimp only; split <;> simp

/-- The entry evicted is a GHOST of the table, and none was heard longer ago. -/
theorem oldestGhost_some {es : List Peer} {g : Peer} (h : oldestGhost es = some g) :
    g ∈ es ∧ g.status = .ghost ∧ ∀ x ∈ es, x.status = .ghost → g.lastHeard ≤ x.lastHeard := by
  induction es generalizing g with
  | nil => simp [oldestGhost] at h
  | cons e es ih =>
    rw [oldestGhost_cons] at h
    cases tail : oldestGhost es with
    | none =>
      simp only [tail] at h
      split at h
      · next ghost =>
        obtain rfl := Option.some.inj h
        have none_ := (oldestGhost_eq_none_iff es).mp tail
        refine ⟨List.mem_cons_self, ghost, fun x hx isGhost => ?_⟩
        obtain rfl | hx := List.mem_cons.mp hx
        · exact le_rfl
        · exact absurd isGhost (none_ x hx)
      · cases h
    | some o =>
      obtain ⟨mem, ghost, oldest⟩ := ih tail
      simp only [tail] at h
      split at h
      · next older =>
        obtain rfl := Option.some.inj h
        refine ⟨List.mem_cons_self, older.1, fun x hx isGhost => ?_⟩
        obtain rfl | hx := List.mem_cons.mp hx
        · exact le_rfl
        · exact older.2.trans (oldest x hx isGhost)
      · next younger =>
        obtain rfl := Option.some.inj h
        refine ⟨List.mem_cons_of_mem _ mem, ghost, fun x hx isGhost => ?_⟩
        obtain rfl | hx := List.mem_cons.mp hx
        · exact (not_le.mp fun le => younger ⟨isGhost, le⟩).le
        · exact oldest x hx isGhost

end Sys2Proof.Machine
end

section
/-! What the peer table gives the other blocks: the feeder limit in use (R43), the lane view (R45) and the lane-clear
condition (R47). -/

namespace Sys2Proof.Machine

/-! ## The feeder limit in use (R43) -/

theorem mem_groupPeers {p : Part} {e : Peer} :
    e ∈ Part.groupPeers p ↔ e ∈ p.peers.entries ∧ e.status = .live ∧ e.group = p.latch.group := by
  simp [Part.groupPeers, Peer.live]

/-- The limit in use is one of the own limit and those of the LIVE entries of the own group, and none of them is smaller. -/
theorem feederLimitInUse_least (p : Part) :
    Part.feederLimitInUse p ∈ Part.ownLimit p :: (Part.groupPeers p).map (fun e => feederLimit e.cls)
      ∧ ∀ l ∈ Part.ownLimit p :: (Part.groupPeers p).map (fun e => feederLimit e.cls), Part.feederLimitInUse p ≤ l :=
  List.min?_eq_some_iff.mp List.min?_cons'

/-! ## The lane view (R45, R47) -/

theorem claims_eq (p : Part) (d : Nat) : Part.claims p d
    = p.peers.entries.filter fun e => decide (e.status = .live ∧ e.lane = p.latch.lane ∧ e.depth = d) := by
  simp [Part.claims, Peer.live, Bool.and_assoc]

/-- A position is FREE with one claimant, whose bay is EMPTY. -/
theorem positionValue_free_iff (es : List Peer) :
    positionValue es = .free ↔ ∃ e, es = [e] ∧ e.bayState = some .empty := by
  match es with
  | [] => simp [positionValue]
  | [e] =>
    cases h : e.bayState with
    | none => simp [positionValue, h]
    | some b => cases b <;> simp [positionValue, h]
  | _ :: _ :: _ => simp [positionValue]

/-- A position is OCCUPIED with one claimant, whose bay is in another state. -/
theorem positionValue_occupied_iff (es : List Peer) :
    positionValue es = .occupied ↔ ∃ e b, es = [e] ∧ e.bayState = some b ∧ b ≠ .empty := by
  match es with
  | [] => simp [positionValue]
  | [e] =>
    cases h : e.bayState with
    | none => simp [positionValue, h]
    | some b => cases b <;> simp [positionValue, h]
  | _ :: _ :: _ => simp [positionValue]

/-- No position is ahead with lane 0 or at depth 1. -/
theorem laneView_nil {p : Part} (h : p.latch.lane = 0 ∨ p.latch.depth ≤ 1) : Part.laneView p = [] := by
  obtain lane | depth := h
  · simp [Part.laneView, Part.aheadDepths, lane]
  · simp [Part.laneView, Part.aheadDepths, Nat.sub_eq_zero_of_le depth]

theorem laneView_length {p : Part} (h : p.latch.lane ≠ 0) : (Part.laneView p).length = p.latch.depth - 1 := by
  simp [Part.laneView, Part.aheadDepths, h]

/-- The view holds the value of each ahead position in its place. -/
theorem laneView_getElem? {p : Part} {d : Nat} (h : p.latch.lane ≠ 0) (first : 1 ≤ d) (ahead : d < p.latch.depth) :
    (Part.laneView p)[d - 1]? = some (positionValue (Part.claims p d)) := by
  have place : d - 1 < p.latch.depth - 1 := by omega
  simp [Part.laneView, Part.aheadDepths, h, place, Nat.sub_add_cancel first]

/-- The lane is clear where every ahead position is FREE. -/
theorem laneClear_iff {p : Part} (h : p.latch.lane ≠ 0) : Part.laneClear p = true
    ↔ ∀ d, 1 ≤ d → d < p.latch.depth → (Part.laneView p)[d - 1]? = some .free := by
  rw [Part.laneClear, List.all_eq_true]
  constructor
  · intro free d first ahead
    rw [laneView_getElem? h first ahead]
    exact congrArg some (by simpa using free _ (List.mem_of_getElem? (laneView_getElem? h first ahead)))
  · intro free v hv
    obtain ⟨i, hi, rfl⟩ := List.getElem_of_mem hv
    rw [laneView_length h] at hi
    have at_ := free (i + 1) (by omega) (by omega)
    simpa [List.getElem?_eq_some_iff, laneView_length h, hi] using at_

/-- Settles O18. -/
theorem feederLimitAndLaneView : Obligations.FeederLimitAndLaneView := by
  refine ⟨fun p => ?limit, fun p claimants claimed => ?view⟩
  case limit =>
    obtain ⟨mem, least⟩ := feederLimitInUse_least p
    refine ⟨least _ List.mem_cons_self, fun e he live group => ?_, ?_, fun empty => ?_, rfl, rfl, rfl, rfl⟩
    · exact least _ (List.mem_cons_of_mem _ (List.mem_map_of_mem (mem_groupPeers.mpr ⟨he, live, group⟩)))
    · obtain own | peer := List.mem_cons.mp mem
      · exact .inl own
      · obtain ⟨e, he, limit⟩ := List.mem_map.mp peer
        obtain ⟨he, live, group⟩ := mem_groupPeers.mp he
        exact .inr ⟨e, he, live, group, limit.symm⟩
    · simp [Part.feederLimitInUse, Part.groupPeers, empty, Part.ownLimit]
  case view =>
    obtain rfl : claimants = Part.claims p := funext fun d => (claimed d).trans (claims_eq p d).symm
    refine ⟨fun none_ => ?_, fun lane => ⟨laneView_length lane, fun d first ahead => ?_, laneClear_iff lane⟩⟩
    · simp [Part.laneClear, laneView_nil none_]
    · rw [laneView_getElem? lane first ahead, Option.some.injEq, Option.some.injEq]
      exact ⟨positionValue_free_iff _, positionValue_occupied_iff _⟩

end Sys2Proof.Machine
end

section
/-! What the peer table's invariants read, and which commands write it: the share unit's notice of peer overflow is written by
the peer table alone (R39, R61), as are the three remarks (R39, R44, R46). -/

namespace Sys2Proof.Machine

/-! ## The share unit's notice of peer overflow -/

@[simp] theorem shedCheck_keeps_overflow (p : Part) : (shedCheck p).share.overflowHeld = p.share.overflowHeld := by
  unfold shedCheck
  (repeat' split) <;> simp

@[simp] theorem grantStep_keeps_overflow (p : Part) : (grantStep p).share.overflowHeld = p.share.overflowHeld := by
  simp only [grantStep]
  split <;> simp

@[simp] theorem enterCleared_keeps_overflow (p : Part) :
    (enterCleared p).share.overflowHeld = p.share.overflowHeld := by
  simp only [enterCleared]
  split <;> simp

@[simp] theorem releaseOutcome_keeps_overflow (o : BayOutcome) (p : Part) :
    (releaseOutcome o p).share.overflowHeld = p.share.overflowHeld := by
  simp only [releaseOutcome]
  (repeat' split) <;> simp

@[simp] theorem clearBlocks_keeps_overflow (p : Part) : (clearBlocks p).share.overflowHeld = p.share.overflowHeld := by
  simp [clearBlocks]

@[simp] theorem tearDown_keeps_overflow (p : Part) : (tearDown p).share.overflowHeld = p.share.overflowHeld := by
  simp [tearDown]

@[simp] theorem decoupled_keeps_overflow (p : Part) : (decoupled p).share.overflowHeld = p.share.overflowHeld := by
  simp [decoupled]

@[simp] theorem coachChange_keeps_overflow (d : Identity) (p : Part) :
    (coachChange d p).share.overflowHeld = p.share.overflowHeld := by
  simp [coachChange]

@[simp] theorem bayReset_keeps_overflow (p : Part) : (bayReset p).share.overflowHeld = p.share.overflowHeld := by
  simp only [bayReset]
  (repeat' split) <;> simp

@[simp] theorem takeShed_keeps_overflow (b : ShedPayload) (p : Part) :
    (takeShed b p).share.overflowHeld = p.share.overflowHeld := by
  unfold takeShed
  split <;> simp

@[simp] theorem shedLockEnds_keeps_overflow (p : Part) :
    (shedLockEnds p).share.overflowHeld = p.share.overflowHeld := by
  unfold shedLockEnds
  split <;> simp

@[simp] theorem loadNotice_keeps_overflow (t : Transmission) (p : Part) :
    (loadNotice t p).share.overflowHeld = p.share.overflowHeld := by
  simp [loadNotice]

@[simp] theorem transmitFaults_keeps_overflow (bit : Nat) (p : Part) :
    (transmitFaults bit p).share.overflowHeld = p.share.overflowHeld := by
  unfold transmitFaults countFault
  (repeat' split) <;> simp

@[simp] theorem mutedEnds_keeps_overflow (p : Part) : (mutedEnds p).share.overflowHeld = p.share.overflowHeld := by
  unfold mutedEnds
  split <;> simp

@[simp] theorem boundary_keeps_overflow (p : Part) : (boundary p).share.overflowHeld = p.share.overflowHeld := by
  simp [boundary]

@[simp] theorem acceptIdentity_keeps_overflow (d : Identity) (p : Part) :
    (acceptIdentity d p).share.overflowHeld = p.share.overflowHeld := by
  simp only [acceptIdentity]
  (repeat' split) <;> simp

@[simp] theorem ackOutcome_keeps_overflow (c : Command) (p : Part) :
    (ackOutcome c p).share.overflowHeld = p.share.overflowHeld := by
  unfold ackOutcome
  (repeat' split) <;> simp

@[simp] theorem refuseOutcome_keeps_overflow (c : Command) (p : Part) :
    (refuseOutcome c p).share.overflowHeld = p.share.overflowHeld := by
  unfold refuseOutcome
  split <;> simp

@[simp] theorem takeLast_keeps_overflow (f : InFlight) (w : Word16) (p : Part) :
    (takeLast f w p).share.overflowHeld = p.share.overflowHeld := by
  simp only [takeLast]
  (repeat' split) <;> simp

@[simp] theorem takeAck_keeps_overflow (f : InFlight) (p : Part) :
    (takeAck f p).share.overflowHeld = p.share.overflowHeld := by
  simp only [takeAck]
  (repeat' split) <;> simp

@[simp] theorem takeRefuse_keeps_overflow (f : InFlight) (w : Word16) (p : Part) :
    (takeRefuse f w p).share.overflowHeld = p.share.overflowHeld := by
  simp only [takeRefuse]
  (repeat' split) <;> simp

@[simp] theorem takeWord_keeps_overflow (f : InFlight) (w : CoachWord) (p : Part) :
    (takeWord f w p).share.overflowHeld = p.share.overflowHeld := by
  unfold takeWord
  split <;> simp

@[simp] theorem coachWord_keeps_overflow (w : CoachWord) (p : Part) :
    (coachWord w p).share.overflowHeld = p.share.overflowHeld := by
  simp only [coachWord]
  (repeat' split) <;> simp

@[simp] theorem coupleFalls_keeps_overflow (p : Part) :
    (coupleFalls p).share.overflowHeld = p.share.overflowHeld := by
  unfold coupleFalls
  split <;> simp

/-! ## What the invariants read -/

/-- The remarks of the peer table. -/
def Remarks.ofPeers (r : Remarks) : Bool × Bool × Bool := (r.peerOverflow, r.feederMismatch, r.laneClash)

/-- What leaves the yard's four remarks leaves these three. -/
theorem ofPeers_of_yard {r q : Remarks} (h : Remarks.yard r = Remarks.yard q) : Remarks.ofPeers r = Remarks.ofPeers q :=
  congrArg Prod.snd h

/-- What the invariants of the peer table read of the part. -/
def Part.peerRecord (p : Part) : Latch × PeerTable × Bool × Bool × Bool × Bool :=
  (p.latch, p.peers, p.share.overflowHeld, Remarks.ofPeers p.remarks)

theorem peerRecord_eq_iff (p q : Part) : Part.peerRecord q = Part.peerRecord p ↔
    q.latch = p.latch ∧ q.peers = p.peers ∧ q.share.overflowHeld = p.share.overflowHeld
      ∧ Remarks.ofPeers q.remarks = Remarks.ofPeers p.remarks := by
  simp [Part.peerRecord]

/-- The feeder limit in use reads the latch and the entries alone (R43). -/
theorem feederLimitInUse_congr {p q : Part} (latch : q.latch = p.latch) (entries : q.peers.entries = p.peers.entries) :
    Part.feederLimitInUse q = Part.feederLimitInUse p := by
  simp only [Part.feederLimitInUse, Part.groupPeers, Part.ownLimit, latch, entries]

/-- So does the test of LANE_CLASH (R46). -/
theorem laneClashes_congr {p q : Part} (latch : q.latch = p.latch) (entries : q.peers.entries = p.peers.entries) :
    Part.laneClashes q = Part.laneClashes p := by
  have claims : Part.claims q = Part.claims p := funext fun d => by simp only [claims_eq, latch, entries]
  simp only [Part.laneClashes, Part.aheadDepths, claims, latch]

/-- The two invariants of the peer table (the conjunction that O55 names). -/
abbrev PeerInvs (p : Part) : Prop := PeerInv p ∧ PeerRemarkInv p

/-- The invariants of the peer table read nothing else. -/
theorem peerInvs_congr {p q : Part} (same : Part.peerRecord q = Part.peerRecord p) (h : PeerInvs p) : PeerInvs q := by
  obtain ⟨latch, peers, held, remarks⟩ := (peerRecord_eq_iff p q).mp same
  simp only [Remarks.ofPeers, Prod.mk.injEq] at remarks
  obtain ⟨overflow, mismatch, clash⟩ := remarks
  have entries : q.peers.entries = p.peers.entries := congrArg PeerTable.entries peers
  obtain ⟨table, limit, lane⟩ := h
  refine ⟨by simpa only [PeerInv, latch, peers, held, overflow] using table, ?_, ?_⟩
  · rw [mismatch, limit, feederLimitInUse_congr latch entries, Part.ownLimit, Part.ownLimit, latch]
  · rw [clash, lane, laneClashes_congr latch entries]

/-- An operation that leaves latch, table and notice, and the yard's four remarks, leaves what they read. -/
theorem peerRecord_of_yard {p q : Part} (latch : q.latch = p.latch := by simp) (peers : q.peers = p.peers := by simp)
    (held : q.share.overflowHeld = p.share.overflowHeld := by simp)
    (remarks : Remarks.yard q.remarks = Remarks.yard p.remarks := by simp) : Part.peerRecord q = Part.peerRecord p :=
  (peerRecord_eq_iff p q).mpr ⟨latch, peers, held, ofPeers_of_yard remarks⟩

/-! ## The commands that do not reach the peer table -/

/-- A command that the peer table takes: a peer's frame, or an ageing time (R33). -/
def reachesPeers : Instr → Bool
  | .loadFrame _ _ | .baystateFrame _ _ | .peerAgeing60s _ | .ghostAgeing180s _ => true
  | _ => false

theorem numberClash_keeps_peerRecord (p : Part) : Part.peerRecord (numberClash p) = Part.peerRecord p := by
  unfold numberClash
  split
  · rfl
  · simp [Part.peerRecord, setRemark_eq, Remarks.put, Remarks.ofPeers]

/-- A frame leaves what the invariants read where the block that takes it does. -/
theorem receive_keeps_peerRecord (sender : StationNo) (n : Nat) (hand : Part → Part) (p : Part)
    (h : ∀ q, Part.peerRecord (hand q) = Part.peerRecord q) :
    Part.peerRecord (receive sender n hand p) = Part.peerRecord p :=
  receive_induct (I := fun q => Part.peerRecord q = Part.peerRecord p) sender n hand (fun _ _ hq => hq)
    (fun q hq => (numberClash_keeps_peerRecord q).trans hq) (fun q hq => (h q).trans hq) rfl

theorem fromBayPost_keeps_peerRecord (sender : StationNo) (hand : Part → Part) (p : Part)
    (h : Part.peerRecord (hand p) = Part.peerRecord p) :
    Part.peerRecord (fromBayPost sender hand p) = Part.peerRecord p := by
  unfold fromBayPost
  split
  · exact h
  · rfl

/-- An order writes of it what its effect writes. -/
theorem takeOrder_keeps_peerRecord (o : Order) (r : OrderRule) (p : Part)
    (h : Part.peerRecord (r.effect p) = Part.peerRecord p) :
    Part.peerRecord (takeOrder o r p) = Part.peerRecord p := by
  unfold takeOrder
  split
  · split
    · unfold judgeOrder
      split
      · rfl
      · exact h
    · unfold dropOrder
      split
      · exact peerRecord_of_yard
      · rfl
  · rfl

/-- The block that takes a frame other than a peer's writes nothing that the invariants read. -/
theorem effect_hands_peerRecord {c : Instr} {n : StationNo} (sender : senderOf c = some n)
    (h : reachesPeers c = false) :
    ∃ bytes hand, effect c = receive n bytes hand ∧ ∀ q, Part.peerRecord (hand q) = Part.peerRecord q := by
  cases c <;> simp only [senderOf, reduceCtorEq, Option.some.injEq] at sender <;> subst sender <;>
    refine ⟨_, _, rfl, fun q => ?_⟩
  case loadFrame | baystateFrame => cases h
  case shedFrame =>
    exact fromBayPost_keeps_peerRecord _ _ q peerRecord_of_yard
  case timeFrame | askFrame | reportFrame | rosterFrame | rosterCancel =>
    exact peerRecord_of_yard
  all_goals exact takeOrder_keeps_peerRecord _ _ q peerRecord_of_yard

/-- A completion writes nothing that they read. -/
theorem completion_keeps_peerRecord (k : SendKind) (p : Part) :
    Part.peerRecord (completion k (completionNotice k) p) = Part.peerRecord p := by
  obtain same | ⟨t, -, done⟩ := completion_cases k (completionNotice k) p
  · rw [same]
  · rw [done]
    refine peerRecord_of_yard ?_ ?_ ?_ ?_ <;> cases k <;> simp [completionNotice]

/-- No command but a peer's frame and an ageing time writes what the invariants read: bay reset and decouple leave the table as
it stands (R33). -/
theorem effect_keeps_peerRecord (c : Instr) (p : Part) (h : reachesPeers c = false) :
    Part.peerRecord (effect c p) = Part.peerRecord p := by
  cases sender : senderOf c with
  | some n =>
    obtain ⟨bytes, hand, received, kept⟩ := effect_hands_peerRecord sender h
    rw [received]
    exact receive_keeps_peerRecord n bytes hand p kept
  | none =>
    cases c <;> simp only [senderOf, reduceCtorEq] at sender
    case peerAgeing60s | ghostAgeing180s => cases h
    case shedComplete => exact completion_keeps_peerRecord .shed p
    case loadComplete => exact completion_keeps_peerRecord .load p
    case baystateComplete => exact completion_keeps_peerRecord .baystate p
    case askComplete => exact completion_keeps_peerRecord .ask p
    case reportComplete => exact completion_keeps_peerRecord .report p
    all_goals rw [effect]; exact peerRecord_of_yard

end Sys2Proof.Machine
end

section
/-! Every step keeps the peer table in order, within its places and to the own group or lane, and its remarks true (R33, R36 to
R41, R44, R46). -/

namespace Sys2Proof.Machine

/-! ## The table that the latch admits -/

/-- A peer that the table may hold: a bay post other than the own, of the own group or the own non-zero lane (R33, R35). -/
def Latch.admits (l : Latch) (e : Peer) : Prop :=
  validStation e.station = true ∧ e.station ≠ l.station ∧ (e.group = l.group ∨ (e.lane = l.lane ∧ l.lane ≠ 0))

/-- A table of such peers, in order and within its places (R33). -/
def Latch.fits (l : Latch) (es : List Peer) : Prop := es.length ≤ 31 ∧ Rising es ∧ ∀ e ∈ es, Latch.admits l e

/-- The share unit's notice and the remark say whether peer overflow holds (R39, R61). -/
def Part.overflowTold (p : Part) : Prop :=
  p.share.overflowHeld = p.peers.overflow ∧ p.remarks.peerOverflow = p.peers.overflow

theorem peerInv_iff (p : Part) : PeerInv p ↔ Latch.fits p.latch p.peers.entries ∧ Part.overflowTold p := by
  simp only [PeerInv, Latch.fits, Latch.admits, Part.overflowTold, rising_iff, peerLimit, and_assoc]

theorem Latch.fits.deletePeer {l : Latch} {es : List Peer} (h : Latch.fits l es) (n : Nat) :
    Latch.fits l (deletePeer n es) := by
  obtain ⟨places, rising, admitted⟩ := h
  exact ⟨(deletePeer_length_le n es).trans places, deletePeer_rising rising,
    fun e he => admitted e (mem_deletePeer.mp he).1⟩

/-- An entry may be written where its station has one or the table has room. -/
theorem Latch.fits.storePeer {l : Latch} {es : List Peer} (h : Latch.fits l es) {e : Peer} (admitted : Latch.admits l e)
    (place : (findPeer e.station es).isSome ∨ es.length < 31) : Latch.fits l (storePeer e es) := by
  obtain ⟨places, rising, others⟩ := h
  refine ⟨?_, storePeer_rising e rising, fun x hx => ?_⟩
  · cases held : findPeer e.station es with
    | some x =>
      obtain ⟨mem, same⟩ := findPeer_some held
      rwa [storePeer_length_held rising mem same]
    | none =>
      rw [storePeer_length_new held]
      simpa [held] using place
  · obtain rfl | old := of_mem_storePeer hx
    · exact admitted
    · exact others x old

/-! ## What follows a change of the table -/

/-- The two remarks judged, the bay controller writes nothing that the invariants read. -/
theorem afterPeers_peerRecord (before : List Position) (p : Part) :
    Part.peerRecord (afterPeers before p) = Part.peerRecord (judgePeers p) := by
  rw [afterPeers_eq]
  split
  · rfl
  · exact peerRecord_of_yard

/-- What follows a change makes the remarks true (R44, R46). -/
theorem afterPeers_keeps_peerInvs (before : List Position) {p : Part} (h : PeerInv p) :
    PeerInvs (afterPeers before p) :=
  peerInvs_congr (p := judgePeers p) (afterPeers_peerRecord before p) ⟨h, rfl, rfl⟩

theorem setEntries_keeps_peerInv {es : List Peer} {p : Part} (h : PeerInv p) (fits : Latch.fits p.latch es) :
    PeerInv (setEntries es p) :=
  (peerInv_iff _).mpr ⟨fits, ((peerInv_iff p).mp h).2⟩

/-- Peer overflow ends, and the remark and the notice with it (R39). -/
theorem overflowEnds_eq (p : Part) : overflowEnds p = if p.peers.overflow then { p with
    peers := { p.peers with overflow := false }
    share := { p.share with overflowHeld := false }
    remarks := { p.remarks with peerOverflow := false }
    line := Line.raised .baystate p.remarks.peerOverflow p.line } else p := by
  unfold overflowEnds
  rw [setRemark_eq]
  simp [Remarks.put, Remarks.get]

/-- Peer overflow begins, and the remark and the notice with it (R39). -/
theorem overflowBegins_eq (p : Part) : overflowBegins p = if p.peers.overflow then p else { p with
    peers := { p.peers with overflow := true }
    share := { p.share with overflowHeld := true }
    remarks := { p.remarks with peerOverflow := true }
    line := Line.raised .baystate (!p.remarks.peerOverflow) p.line } := by
  unfold overflowBegins
  rw [setRemark_eq]
  simp [Remarks.put, Remarks.get]

theorem overflowEnds_keeps_peerInv {p : Part} (h : PeerInv p) : PeerInv (overflowEnds p) := by
  rw [overflowEnds_eq]
  split
  · exact (peerInv_iff _).mpr ⟨((peerInv_iff p).mp h).1, rfl, rfl⟩
  · exact h

theorem overflowBegins_keeps_peerInvs {p : Part} (h : PeerInvs p) : PeerInvs (overflowBegins p) := by
  obtain ⟨table, remarks⟩ := h
  rw [overflowBegins_eq]
  split
  · exact ⟨table, remarks⟩
  · exact ⟨(peerInv_iff _).mpr ⟨((peerInv_iff p).mp table).1, rfl, rfl⟩, remarks⟩

theorem deletionOf_keeps_peerInvs (n : Nat) {p : Part} (h : PeerInv p) :
    PeerInvs (deletionOf n p) :=
  afterPeers_keeps_peerInvs _ (overflowEnds_keeps_peerInv
    (setEntries_keeps_peerInv h (((peerInv_iff p).mp h).1.deletePeer n)))

theorem writePeer_keeps_peerInvs {e : Peer} {p : Part} (h : PeerInv p) (admitted : Latch.admits p.latch e)
    (place : (findPeer e.station p.peers.entries).isSome ∨ p.peers.entries.length < 31) :
    PeerInvs (writePeer e p) :=
  afterPeers_keeps_peerInvs _ (setEntries_keeps_peerInv h (((peerInv_iff p).mp h).1.storePeer admitted place))

/-! ## Arrival (R35 to R38) -/

theorem qualifies_iff (p : Part) (f : PeerFields) : Part.qualifies p f = true
    ↔ f.group = p.latch.group ∨ (f.lane = p.latch.lane ∧ p.latch.lane ≠ 0) := by
  simp [Part.qualifies]

/-- A qualifying frame of another bay post gives an entry that the table may hold. -/
theorem admits_entry {p : Part} {f : PeerFields} (valid : validStation f.station = true)
    (other : f.station ≠ p.latch.station) (qualifies : Part.qualifies p f = true) (held : Option Peer) (now : Moment) :
    Latch.admits p.latch (PeerFields.entry f held now) :=
  ⟨valid, other, (qualifies_iff p f).mp qualifies⟩

/-- A frame that qualifies is written over what is held of its sender, where that is something or the table has room (R36,
R37). -/
theorem peerArrives_stores {f : PeerFields} {p : Part} (qualifies : Part.qualifies p f = true)
    (place : (findPeer f.station p.peers.entries).isSome ∨ p.peers.entries.length < 31) :
    peerArrives f p = writePeer (PeerFields.entry f (findPeer f.station p.peers.entries) p.osc) p := by
  cases held : findPeer f.station p.peers.entries with
  | some e => simp [peerArrives, held, qualifies]
  | none =>
    have room : p.peers.entries.length < 31 := by simpa [held] using place
    simp [peerArrives, held, qualifies, peerLimit, room]

/-- One that does not deletes the entry of its sender (R36), and is ignored where there is none (R37). -/
theorem peerArrives_disqualified {f : PeerFields} {p : Part} {e : Peer}
    (held : findPeer f.station p.peers.entries = some e) (qualifies : Part.qualifies p f = false) :
    peerArrives f p = deletionOf f.station p := by
  simp [peerArrives, held, qualifies]

theorem peerArrives_ignored {f : PeerFields} {p : Part} (held : findPeer f.station p.peers.entries = none)
    (qualifies : Part.qualifies p f = false) : peerArrives f p = p := by
  simp [peerArrives, held, qualifies]

/-- A new peer that finds the table full evicts the oldest GHOST, or is not stored where there is none (R38). -/
theorem peerArrives_evicts {f : PeerFields} {p : Part} {g : Peer} (held : findPeer f.station p.peers.entries = none)
    (qualifies : Part.qualifies p f = true) (full : ¬p.peers.entries.length < 31)
    (oldest : oldestGhost p.peers.entries = some g) :
    peerArrives f p = afterPeers (Part.laneView p)
      (setEntries (storePeer (PeerFields.entry f none p.osc) (deletePeer g.station p.peers.entries)) p) := by
  simp [peerArrives, held, qualifies, peerLimit, full, oldest]

theorem peerArrives_dropped {f : PeerFields} {p : Part} (held : findPeer f.station p.peers.entries = none)
    (qualifies : Part.qualifies p f = true) (full : ¬p.peers.entries.length < 31)
    (oldest : oldestGhost p.peers.entries = none) : peerArrives f p = overflowBegins p := by
  simp [peerArrives, held, qualifies, peerLimit, full, oldest]

theorem peerArrives_keeps_peerInvs {f : PeerFields} {p : Part} (valid : validStation f.station = true)
    (other : f.station ≠ p.latch.station) (h : PeerInvs p) : PeerInvs (peerArrives f p) := by
  have table := h.1
  obtain ⟨fits, -⟩ := (peerInv_iff p).mp table
  have ⟨places, rising, _⟩ := fits
  cases qualifies : Part.qualifies p f with
  | false =>
    cases held : findPeer f.station p.peers.entries with
    | some e =>
      rw [peerArrives_disqualified held qualifies]
      exact deletionOf_keeps_peerInvs f.station table
    | none => rwa [peerArrives_ignored held qualifies]
  | true =>
    have admitted := admits_entry valid other qualifies
    by_cases place : (findPeer f.station p.peers.entries).isSome ∨ p.peers.entries.length < 31
    · rw [peerArrives_stores qualifies place]
      exact writePeer_keeps_peerInvs table (admitted _ _) place
    · obtain ⟨new, full⟩ := not_or.mp place
      have new : findPeer f.station p.peers.entries = none := Option.not_isSome_iff_eq_none.mp new
      cases oldest : oldestGhost p.peers.entries with
      | none =>
        rw [peerArrives_dropped new qualifies full oldest]
        exact overflowBegins_keeps_peerInvs h
      | some g =>
        rw [peerArrives_evicts new qualifies full oldest]
        have freed := deletePeer_length rising (oldestGhost_some oldest).1
        exact afterPeers_keeps_peerInvs _ (setEntries_keeps_peerInv table
          ((fits.deletePeer g.station).storePeer (admitted _ _) (.inr (by omega))))

theorem loadFields_station {n : StationNo} {b : LoadPayload} {f : PeerFields} (h : loadFields n b = some f) :
    f.station = n.toNat := by
  unfold loadFields at h
  split at h
  · obtain rfl := Option.some.inj h
    rfl
  · cases h

theorem baystateFields_station {n : StationNo} {b : BaystatePayload} {f : PeerFields}
    (h : baystateFields n b = some f) : f.station = n.toNat := by
  unfold baystateFields at h
  split at h
  · obtain ⟨state, -, rfl⟩ := Option.map_eq_some_iff.mp h
    rfl
  · cases h

/-- A frame that is handed to the peer table keeps the invariants: it is a bay post's other than the own (R31). -/
theorem arrivesIfGood_keeps_peerInvs {n : StationNo} {f : Option PeerFields} {p : Part}
    (station : ∀ g, f = some g → g.station = n.toNat) (valid : validStation n.toNat = true)
    (other : n.toNat ≠ p.latch.station) (h : PeerInvs p) : PeerInvs (arrivesIfGood f p) := by
  cases f with
  | none => exact h
  | some g =>
    have same := station g rfl
    exact peerArrives_keeps_peerInvs (same ▸ valid) (same ▸ other) h

/-- A shed check writes nothing that the invariants read. -/
theorem shedCheck_keeps_peerRecord (p : Part) : Part.peerRecord (shedCheck p) = Part.peerRecord p :=
  peerRecord_of_yard

/-- A bay post's frame keeps the invariants where its block does, given that the sender is another (R30, R31). -/
theorem receive_keeps_peerInvs {n : StationNo} {bytes : Nat} {hand : Part → Part} {p : Part}
    (handed : ∀ q, validStation n.toNat = true → n.toNat ≠ q.latch.station → PeerInvs q →
      PeerInvs (hand q))
    (h : PeerInvs p) : PeerInvs (receive n bytes (fromBayPost n hand) p) := by
  have ended : PeerInvs (frameEnds (frameBitCount bytes) p) := h
  by_cases own : n.toNat = p.latch.station
  · rw [receive_own n bytes _ p own]
    split
    · exact h
    · exact peerInvs_congr (numberClash_keeps_peerRecord _) ended
  · rw [receive_other n bytes _ p own]
    unfold fromBayPost
    split
    · next valid => exact handed _ valid own ended
    · exact ended

/-! ## Ageing (R40, R41) -/

theorem peerAges_keeps_peerInvs (n : Nat) {p : Part} (h : PeerInvs p) : PeerInvs (peerAges n p) := by
  unfold peerAges
  split
  · next e held =>
    obtain ⟨mem, same⟩ := findPeer_some held
    obtain ⟨⟨-, -, admitted⟩, -⟩ := (peerInv_iff p).mp h.1
    split
    · dsimp only
      split
      · refine writePeer_keeps_peerInvs (p := advanceTo _ p) h.1 (admitted e mem) (.inl ?_)
        exact Option.isSome_of_eq_some (by rw [same]; exact held)
      · exact deletionOf_keeps_peerInvs (p := advanceTo _ p) n h.1
    · exact h
  · exact h

theorem ghostAges_keeps_peerInvs (n : Nat) {p : Part} (h : PeerInvs p) : PeerInvs (ghostAges n p) := by
  unfold ghostAges
  split
  · split
    · exact deletionOf_keeps_peerInvs (p := advanceTo _ p) n h.1
    · exact h
  · exact h

/-! ## Every step -/

/-- Every effect keeps the invariants of the peer table. -/
theorem effect_keeps_peerInvs (c : Instr) {p : Part} (h : PeerInvs p) : PeerInvs (effect c p) := by
  by_cases reaches : reachesPeers c = false
  · exact peerInvs_congr (effect_keeps_peerRecord c p reaches) h
  · cases c with
    | loadFrame n b =>
      exact receive_keeps_peerInvs (fun q valid other hq => peerInvs_congr (shedCheck_keeps_peerRecord _)
        (arrivesIfGood_keeps_peerInvs (fun _ => loadFields_station) valid other hq)) h
    | baystateFrame n b =>
      exact receive_keeps_peerInvs (fun q valid other hq =>
        arrivesIfGood_keeps_peerInvs (fun _ => baystateFields_station) valid other hq) h
    | peerAgeing60s n => exact peerAges_keeps_peerInvs n.toNat h
    | ghostAgeing180s n => exact ghostAges_keeps_peerInvs n.toNat h
    | _ => exact absurd rfl reaches

theorem started_peerInvs (straps : Straps) : PeerInvs (Part.started straps) := by
  have initial : ∀ l, AllInvariants l → PeerInvs l := fun _ ⟨_, _, table, remarks, _⟩ => ⟨table, remarks⟩
  unfold Part.started
  split
  · exact initial _ (allInvariants_initial _)
  · exact initial _ (allInvariants_strapFault _)

/-- Settles O55: START_UP empties the table, and of the effects the peer frames and the ageing times alone reach it. -/
theorem everyStepKeepsThePeerTable : Obligations.EveryStepKeepsThePeerTable := by
  intro s t hs h
  refine step_keeps (I := PeerInvs) (fun p hp => ?_) started_peerInvs (fun _ hp => hp)
    (fun c p _ hp => effect_keeps_peerInvs c hp) hs h
  unfold Part.tick
  split <;> exact hp

end Sys2Proof.Machine
end

section
/-! What a shed check reads of the share unit and the line (R62, R63), and that nothing but a shed check writes it as a peer's
frame arrives: what follows a change of the peer table raises no SHED. -/

namespace Sys2Proof.Machine

/-! ## Requests on the line -/

/-- What a request for SHED reads and writes of the line. -/
def Line.shedRequest (l : Line) : Option Transmission × Bool × Bool := (l.tx, l.flags.shed, l.marks.shed)

/-- A request of another kind leaves it. -/
theorem raised_keeps_shedRequest {k : SendKind} (due : Bool) (l : Line) (h : k ≠ .shed) :
    Line.shedRequest (Line.raised k due l) = Line.shedRequest l := by
  unfold Line.raised
  (repeat' split) <;> cases k <;> simp_all [Line.shedRequest, SendFlags.put]

/-- A request for SHED reads nothing else. -/
theorem raised_shed_congr (due : Bool) {l k : Line} (same : Line.shedRequest l = Line.shedRequest k) :
    Line.shedRequest (Line.raised .shed due l) = Line.shedRequest (Line.raised .shed due k) := by
  simp only [Line.shedRequest, Prod.mk.injEq] at same
  obtain ⟨tx, flag, mark⟩ := same
  unfold Line.raised
  rw [tx]
  (repeat' split) <;> simp [Line.shedRequest, SendFlags.put, tx, flag, mark]

@[simp] theorem setRemark_keeps_shedRequest (k : Remark) (v : Bool) (p : Part) :
    Line.shedRequest (setRemark k v p).line = Line.shedRequest p.line := by
  rw [setRemark_eq]
  exact raised_keeps_shedRequest _ _ (by decide)

@[simp] theorem recompute_keeps_shedRequest (t : Trigger) (p : Part) :
    Line.shedRequest (recompute t p).line = Line.shedRequest p.line := by
  rw [recompute_line]
  exact raised_keeps_shedRequest _ _ (by decide)

@[simp] theorem setBayState_keeps_shedRequest (new : BayState) (p : Part) :
    Line.shedRequest (setBayState new p).line = Line.shedRequest p.line := by
  by_cases same : p.bay.state = new
  · simp [setBayState, same]
  · rw [setBayState_line new p same]
    exact raised_keeps_shedRequest _ _ (by decide)

@[simp] theorem judge_keeps_shedRequest (p : Part) : Line.shedRequest (judge p).line = Line.shedRequest p.line := by
  rw [judge, setReasons_eq]
  exact raised_keeps_shedRequest _ _ (by decide)

@[simp] theorem evaluate_keeps_shedRequest (p : Part) :
    Line.shedRequest (evaluate p).line = Line.shedRequest p.line := by
  obtain ⟨due, line⟩ := evaluate_raises p
  rw [line]
  exact raised_keeps_shedRequest _ _ (by decide)

@[simp] theorem tryPrepare_keeps_shedRequest (p : Part) :
    Line.shedRequest (tryPrepare p).line = Line.shedRequest p.line := by
  unfold tryPrepare
  split <;> simp

@[simp] theorem rosterLookup_keeps_shedRequest (p : Part) :
    Line.shedRequest (rosterLookup p).line = Line.shedRequest p.line := by
  unfold rosterLookup
  split
  · split
    · simp [copyArrives, stopAsking]
    · rw [raise_eq_raised]
      exact raised_keeps_shedRequest _ _ (by decide)
  · rfl

@[simp] theorem returnToHeld_keeps_shedRequest (r : ReturnReasons) (p : Part) :
    Line.shedRequest (returnToHeld r p).line = Line.shedRequest p.line := by
  simp only [returnToHeld]
  split <;> simp [standBy]

@[simp] theorem laneViewChanged_keeps_shedRequest (p : Part) :
    Line.shedRequest (laneViewChanged p).line = Line.shedRequest p.line := by
  unfold laneViewChanged
  split <;> simp

/-! ## What a shed check reads -/

/-- What a shed check reads of the part before it, in the words of the statements (R62, R63). -/
def Part.shedRecord (p : Part) : Option Moment × Bool × Option Transmission × Bool × Bool :=
  (p.share.shedLock, p.share.halvingDue, Line.shedRequest p.line)

/-- A shed check of `w` is one of any part with the same lock, halving and request. -/
theorem shedChecked_congr {p w q : Part} (same : Part.shedRecord w = Part.shedRecord p)
    (h : ShedChecked w.share.halvingDue w q) : ShedChecked p.share.halvingDue p q := by
  simp only [Part.shedRecord, Prod.mk.injEq] at same
  obtain ⟨lock, halving, request⟩ := same
  obtain ⟨lockAfter, halvingAfter, flag, mark⟩ := h
  have raised := raised_shed_congr
    (decide (Part.feederLimitInUse q < q.share.draw + Part.peerDraws q) && w.share.shedLock.isNone) request
  simp only [Line.shedRequest, Prod.mk.injEq] at raised
  obtain ⟨-, flags, marks⟩ := raised
  exact ⟨lock ▸ lockAfter, lock ▸ halving ▸ halvingAfter, lock ▸ flag.trans flags, lock ▸ mark.trans marks⟩

theorem afterPeers_keeps_shedRecord (before : List Position) (p : Part) :
    Part.shedRecord (afterPeers before p) = Part.shedRecord p := by
  simp only [Part.shedRecord, afterPeers]
  split <;> simp

theorem writePeer_keeps_shedRecord (e : Peer) (p : Part) : Part.shedRecord (writePeer e p) = Part.shedRecord p :=
  afterPeers_keeps_shedRecord _ _

theorem overflowEnds_keeps_shedRecord (p : Part) : Part.shedRecord (overflowEnds p) = Part.shedRecord p := by
  unfold overflowEnds
  split <;> simp [Part.shedRecord]

theorem overflowBegins_keeps_shedRecord (p : Part) : Part.shedRecord (overflowBegins p) = Part.shedRecord p := by
  unfold overflowBegins
  split <;> simp [Part.shedRecord]

theorem deletionOf_keeps_shedRecord (n : Nat) (p : Part) : Part.shedRecord (deletionOf n p) = Part.shedRecord p :=
  (afterPeers_keeps_shedRecord _ _).trans (overflowEnds_keeps_shedRecord (setEntries _ p))

/-- The arrival of a peer's frame leaves to the shed check what it reads. -/
theorem peerArrives_keeps_shedRecord (f : PeerFields) (p : Part) :
    Part.shedRecord (peerArrives f p) = Part.shedRecord p := by
  unfold peerArrives
  split
  · exact writePeer_keeps_shedRecord _ p
  · exact deletionOf_keeps_shedRecord _ p
  · split
    · exact writePeer_keeps_shedRecord _ p
    · split
      · exact afterPeers_keeps_shedRecord _ _
      · exact overflowBegins_keeps_shedRecord p
  · rfl

theorem frameEnds_keeps_shedRecord (bits : Nat) (p : Part) :
    Part.shedRecord (frameEnds bits p) = Part.shedRecord p := by
  simp [Part.shedRecord, Line.shedRequest]

end Sys2Proof.Machine
end

section
/-! Chapter 3: the arrival of a peer's LOAD or BAYSTATE, the full table, the frames out of range, and the two ageing times. -/

namespace Sys2Proof.Machine

/-! ## What the operations leave of the table -/

@[simp] theorem writePeer_peers (e : Peer) (p : Part) :
    (writePeer e p).peers = { p.peers with entries := storePeer e p.peers.entries } := by
  simp [writePeer, setEntries]

@[simp] theorem overflowEnds_peers (p : Part) : (overflowEnds p).peers = { p.peers with overflow := false } := by
  rw [overflowEnds_eq]
  split
  · rfl
  · next held => simp [← Bool.eq_false_iff.mpr held]

/-- A deletion ends peer overflow (R39). -/
@[simp] theorem deletionOf_peers (n : Nat) (p : Part) :
    (deletionOf n p).peers = { entries := deletePeer n p.peers.entries, overflow := false } := by
  simp [deletionOf]

/-- Peer overflow holds, the remark is set and the share unit knows it, in a part where they agree (R39). -/
theorem overflowBegins_overflow {p : Part} (told : Part.overflowTold p) :
    (overflowBegins p).peers = { p.peers with overflow := true } ∧ (overflowBegins p).share.overflowHeld = true
      ∧ (overflowBegins p).remarks.peerOverflow = true := by
  obtain ⟨held, remark⟩ := told
  rw [overflowBegins_eq]
  split
  · next overflow => exact ⟨by rw [← overflow], held.trans overflow, remark.trans overflow⟩
  · exact ⟨rfl, rfl, rfl⟩

/-! ## The frame as the part takes it -/

/-- `w` is the part after the arrival of the fields `f` at the peer table of `p`, and `q` the part after the frame: that itself
for a BAYSTATE, and after the shed check for a LOAD (R42, R62). -/
structure FrameTaken (f : PeerFields) (p w q : Part) : Prop where
  osc : q.osc = w.osc
  peers : q.peers = w.peers
  remarks : q.remarks = w.remarks
  share : q.share = { w.share with shedLock := q.share.shedLock, halvingDue := q.share.halvingDue }
  bay : ∀ b, f.part = .bay b → q = w
  load : ∀ l, f.part = .load l → q = shedCheck w
  checked : ∀ l, f.part = .load l → ShedChecked p.share.halvingDue p q
  unchanged : unchangedExcept ([.osc, .peers, .share] ++ bayBlocks) p q

/-- What a shed check writes of the share unit (R63, R64). -/
theorem shedCheck_share (p : Part) : (shedCheck p).share = { p.share with
    shedLock := (shedCheck p).share.shedLock, halvingDue := (shedCheck p).share.halvingDue } := by
  unfold shedCheck lockShed
  split
  · split <;> simp
  · rfl

/-- What a shed check writes of the part. -/
theorem shedCheck_unchanged (p : Part) : unchangedExcept [.line, .share] p (shedCheck p) := by
  intro b hb
  cases b <;> simp_all [agreeOn]

theorem peerArrives_unchanged (f : PeerFields) (bits : Nat) (p : Part) :
    unchangedExcept ([.osc, .peers, .share] ++ bayBlocks) p (peerArrives f (frameEnds bits p)) := by
  intro b hb
  cases b <;> simp_all [agreeOn, bayBlocks]

/-- A shed check after the arrival is one of the part that the frame found. -/
theorem shedChecked_arrival (f : PeerFields) (bits : Nat) (p : Part) :
    ShedChecked p.share.halvingDue p (shedCheck (peerArrives f (frameEnds bits p))) :=
  shedChecked_congr ((peerArrives_keeps_shedRecord f _).trans (frameEnds_keeps_shedRecord bits p)) (shedCheck_checked _)

theorem loadFields_part {n : StationNo} {b : LoadPayload} {f : PeerFields} (h : loadFields n b = some f) :
    ∃ l, f.part = .load l := by
  unfold loadFields at h
  split at h
  · obtain rfl := Option.some.inj h
    exact ⟨_, rfl⟩
  · cases h

theorem baystateFields_part {n : StationNo} {b : BaystatePayload} {f : PeerFields}
    (h : baystateFields n b = some f) : ∃ s, f.part = .bay s := by
  unfold baystateFields at h
  split at h
  · obtain ⟨s, -, rfl⟩ := Option.map_eq_some_iff.mp h
    exact ⟨s, rfl⟩
  · cases h

/-- The fields of a row are those of its sender. -/
theorem PeerRow.station {n : StationNo} {c : Instr} {f : PeerFields} (row : PeerRow n c f) : f.station = n.toNat := by
  cases row with
  | load b _ good => exact loadFields_station good
  | bay b _ good => exact baystateFields_station good

/-- A bay post's frame is handed to the block that takes it when it has ended (R31). -/
theorem receive_fromBayPost {n : StationNo} {bytes : Nat} {hand : Part → Part} {p : Part} (first : 1 ≤ n.toNat)
    (last : n.toNat ≤ 59) (other : n.toNat ≠ p.latch.station) :
    receive n bytes (fromBayPost n hand) p = hand (frameEnds (frameBitCount bytes) p) := by
  rw [receive_other n bytes _ p other]
  exact if_pos ((validStation_iff _).mpr ⟨first, last⟩)

/-- A peer's row in range arrives at the peer table when its frame has ended. -/
theorem PeerRow.taken {n : StationNo} {c : Instr} {f : PeerFields} (row : PeerRow n c f) {p : Part}
    (first : 1 ≤ n.toNat) (last : n.toNat ≤ 59) (other : n.toNat ≠ p.latch.station) :
    ∃ bits, FrameTaken f p (peerArrives f (frameEnds bits p)) (effect c p) := by
  cases row with
  | load b _ good =>
    obtain ⟨l, part⟩ := loadFields_part good
    refine ⟨frameBitCount 5, ?_⟩
    have done : effect (.loadFrame n b) p = shedCheck (peerArrives f (frameEnds (frameBitCount 5) p)) := by
      rw [effect, receive_fromBayPost first last other, good]
      rfl
    have arrived := shedChecked_arrival f (frameBitCount 5) p
    rw [done]
    exact {
      osc := by simp
      peers := by simp
      remarks := by simp
      share := shedCheck_share _
      bay := by simp [part]
      load := fun _ _ => rfl
      checked := fun _ _ => arrived
      unchanged := (peerArrives_unchanged f _ p).trans (shedCheck_unchanged _) (List.Subset.refl _) (by decide) }
  | bay b _ good =>
    obtain ⟨state, part⟩ := baystateFields_part good
    refine ⟨frameBitCount 13, ?_⟩
    have done : effect (.baystateFrame n b) p = peerArrives f (frameEnds (frameBitCount 13) p) := by
      rw [effect, receive_fromBayPost first last other, good]
      rfl
    rw [done]
    exact {
      osc := rfl
      peers := rfl
      remarks := rfl
      share := rfl
      bay := fun _ _ => rfl
      load := by simp [part]
      checked := by simp [part]
      unchanged := peerArrives_unchanged f _ p }

/-- A row of a peer acts in normal operation. -/
theorem PeerRow.completes {n : StationNo} {c : Instr} {f : PeerFields} (row : PeerRow n c f) {s : State}
    {post : Part → Prop} (mode : s.part.mode = .normal) (h : post (effect c s.part)) : Completes c s post := by
  cases row <;> exact completes_normal mode (by simp) (by simp) h

/-! ## Stored (R34, R36, R37) -/

/-- Settles O16: the arrival is `writePeer` over what is held of the sender. -/
theorem qualifyingPeerFrameIsStored : Obligations.QualifyingPeerFrameIsStored := by
  intro s n c f mode first last other row qualifies place
  refine row.completes mode ?_
  obtain ⟨bits, taken⟩ := row.taken first last other
  have station := row.station
  rw [← station] at place ⊢
  rw [peerArrives_stores (p := frameEnds bits s.part) ((qualifies_iff _ f).mpr qualifies) place] at taken
  generalize effect c s.part = q at taken ⊢
  have entries : q.peers = { s.part.peers with
      entries := storePeer (PeerFields.entry f (findPeer f.station s.part.peers.entries) (frameEnds bits s.part).osc)
        s.part.peers.entries } := taken.peers.trans (by simp)
  have osc : q.osc = (frameEnds bits s.part).osc := taken.osc.trans (by simp)
  have share := taken.share
  rw [entries]
  refine ⟨?_, fun m others => findPeer_storePeer_other _ _ others, rfl, by simpa using share, taken.checked,
    fun b part => ?_, ?_, taken.unchanged⟩
  · refine (findPeer_storePeer_same (PeerFields.entry f _ _) _).trans ?_
    rw [osc]
    cases part : f.part <;> simp [PeerFields.entry, PeerFields.bayAfter, PeerFields.loadAfter, part]
  · rw [taken.bay b part]
    simp
  · rintro w rfl
    rw [osc]
    exact ⟨taken.bay, taken.load⟩

/-! ## Not stored (R36 to R39) -/

/-- A frame that does not qualify deletes its sender's entry, or is ignored where there is none (R36, R37). -/
theorem peerArrives_disqualified_peers {f : PeerFields} {p : Part} (qualifies : Part.qualifies p f = false) :
    (peerArrives f p).peers.entries = deletePeer f.station p.peers.entries
      ∧ (peerArrives f p).peers.overflow
        = if (findPeer f.station p.peers.entries).isSome then false else p.peers.overflow := by
  cases held : findPeer f.station p.peers.entries with
  | some e => simp [peerArrives_disqualified held qualifies]
  | none => simp [peerArrives_ignored held qualifies, deletePeer_absent held]

/-- The eviction of a GHOST from a full table of distinct stations (R38). -/
theorem evicted_table {es : List Peer} {e g : Peer} (rising : Rising es) (full : es.length = 31)
    (new : findPeer e.station es = none) (oldest : oldestGhost es = some g) :
    findPeer g.station (storePeer e (deletePeer g.station es)) = none
      ∧ (∀ x ∈ es, x.station ≠ g.station → x ∈ storePeer e (deletePeer g.station es))
      ∧ (storePeer e (deletePeer g.station es)).length = 31 := by
  have mem := (oldestGhost_some oldest).1
  have absent := findPeer_eq_none_iff.mp new
  have other : g.station ≠ e.station := absent g mem
  refine ⟨?_, fun x hx stays => mem_storePeer_of_other (mem_deletePeer.mpr ⟨hx, stays⟩) (absent x hx), ?_⟩
  · rw [findPeer_storePeer_other _ _ other, findPeer_deletePeer_same]
  · have freed := deletePeer_length rising mem
    rw [storePeer_length_new (by rwa [findPeer_deletePeer_other _ other.symm])]
    omega

/-! ## Out of range (R198) -/

theorem loadFields_outOfRange {n : StationNo} {b : LoadPayload}
    (h : 15 < b.lane.toNat ∨ 63 < b.demand.toNat ∨ 63 < b.draw.toNat) : loadFields n b = none :=
  if_neg (by omega)

/-- The codes of the bay states end at 7. -/
theorem bayStateOf_eq_none {code : Nat} (h : 7 < code) : bayStateOf code = none := by
  obtain ⟨k, rfl⟩ := Nat.exists_eq_add_of_le' h
  rfl

theorem baystateFields_outOfRange {n : StationNo} {b : BaystatePayload}
    (h : 15 < b.lane.toNat ∨ 7 < b.bayState.toNat) : baystateFields n b = none := by
  unfold baystateFields
  split
  · rw [bayStateOf_eq_none (by omega), Option.map_none]
  · rfl

/-! ## Ageing (R40, R41) -/

theorem draws_iff (e : Peer) : Peer.draws e = true ↔ ∃ l, e.load = some l ∧ 0 < l.draw := by
  cases h : e.load <;> simp [Peer.draws, h]

/-- A LIVE entry 60 s silent that reports a draw becomes a GHOST (R40). -/
theorem peerAges_ghost {n : Nat} {p : Part} {e : Peer} (held : findPeer n p.peers.entries = some e)
    (live : e.status = .live) (draws : Peer.draws e = true) :
    peerAges n p = writePeer { e with status := .ghost } (advanceTo (e.lastHeard + 60000000) p) := by
  simp [peerAges, held, live, draws, peerAgeingPeriod]

/-- One that reports none is deleted (R40). -/
theorem peerAges_deleted {n : Nat} {p : Part} {e : Peer} (held : findPeer n p.peers.entries = some e)
    (live : e.status = .live) (draws : Peer.draws e = false) :
    peerAges n p = deletionOf n (advanceTo (e.lastHeard + 60000000) p) := by
  simp [peerAges, held, live, draws, peerAgeingPeriod]

/-- A GHOST 180 s silent is deleted (R41). -/
theorem ghostAges_deleted {n : Nat} {p : Part} {e : Peer} (held : findPeer n p.peers.entries = some e)
    (ghost : e.status = .ghost) : ghostAges n p = deletionOf n (advanceTo (e.lastHeard + 180000000) p) := by
  simp [ghostAges, held, ghost, ghostAgeingPeriod]

theorem peerAges_unchanged (n : Nat) (p : Part) :
    unchangedExcept ([.osc, .peers, .share] ++ bayBlocks) p (peerAges n p) := by
  intro b hb
  cases b <;> simp_all [agreeOn, bayBlocks]

theorem ghostAges_unchanged (n : Nat) (p : Part) :
    unchangedExcept ([.osc, .peers, .share] ++ bayBlocks) p (ghostAges n p) := by
  intro b hb
  cases b <;> simp_all [agreeOn, bayBlocks]

/-- The ageing time of a LIVE entry (R40): with a draw above 0 it is written as a GHOST, else it is deleted. -/
theorem peerAges_table {n : Nat} {p : Part} {e : Peer} (held : findPeer n p.peers.entries = some e)
    (live : e.status = .live) :
    (peerAges n p).osc = max p.osc (e.lastHeard + 60000000)
      ∧ (Peer.draws e = true → findPeer n (peerAges n p).peers.entries = some { e with status := .ghost }
          ∧ (peerAges n p).peers.overflow = p.peers.overflow)
      ∧ (Peer.draws e = false → findPeer n (peerAges n p).peers.entries = none
          ∧ (peerAges n p).peers.overflow = false)
      ∧ ∀ m, m ≠ n → findPeer m (peerAges n p).peers.entries = findPeer m p.peers.entries := by
  obtain ⟨-, rfl⟩ := findPeer_some held
  cases draws : Peer.draws e with
  | true =>
    rw [peerAges_ghost held live draws]
    refine ⟨by simp, fun _ => ⟨?_, by simp⟩, by simp, fun m others => ?_⟩
    · simpa using findPeer_storePeer_same { e with status := .ghost } p.peers.entries
    · simpa using findPeer_storePeer_other { e with status := .ghost } p.peers.entries others
  | false =>
    rw [peerAges_deleted held live draws]
    refine ⟨by simp, by simp, fun _ => ⟨?_, by simp⟩, fun m others => ?_⟩
    · simpa using findPeer_deletePeer_same e.station p.peers.entries
    · simpa using findPeer_deletePeer_other p.peers.entries others

/-- The second ageing time of a GHOST (R41). -/
theorem ghostAges_table {n : Nat} {p : Part} {e : Peer} (held : findPeer n p.peers.entries = some e)
    (ghost : e.status = .ghost) :
    (ghostAges n p).osc = max p.osc (e.lastHeard + 180000000)
      ∧ findPeer n (ghostAges n p).peers.entries = none ∧ (ghostAges n p).peers.overflow = false
      ∧ ∀ m, m ≠ n → findPeer m (ghostAges n p).peers.entries = findPeer m p.peers.entries := by
  rw [ghostAges_deleted held ghost]
  refine ⟨by simp, ?_, by simp, fun m others => ?_⟩
  · simpa using findPeer_deletePeer_same n p.peers.entries
  · simpa using findPeer_deletePeer_other p.peers.entries others

/-- Settles O17: the arrival by the cases of `peerArrives`, the frames out of range, and each ageing time. -/
theorem peersFindNoPlaceAndAge : Obligations.PeersFindNoPlaceAndAge := by
  refine ⟨fun s n c f mode first last other row inv => ?arrival, fun s n mode first last other => ⟨?load, ?baystate⟩,
    fun s n e mode held => ⟨?live, ?ghost⟩⟩
  case arrival =>
    obtain ⟨bits, taken⟩ := row.taken first last other
    obtain ⟨⟨-, rising, -⟩, told⟩ := (peerInv_iff s.part).mp inv
    have qualified := qualifies_iff (frameEnds bits s.part) f
    rw [← row.station]
    refine ⟨fun disqualified => row.completes mode ?_, fun qualifies new full live => row.completes mode ?_,
      fun qualifies new full ⟨x, hx, ghost⟩ => row.completes mode ?_⟩
    · obtain ⟨entries, overflow⟩ := peerArrives_disqualified_peers (f := f) (p := frameEnds bits s.part)
        (Bool.eq_false_iff.mpr (mt qualified.mp disqualified))
      exact ⟨by rw [taken.peers, entries]; rfl, by rw [taken.peers, overflow]; rfl, taken.checked, taken.unchanged⟩
    · have noGhost : oldestGhost s.part.peers.entries = none :=
        (oldestGhost_eq_none_iff _).mpr fun e he => by simp [live e he]
      have dropped := peerArrives_dropped (p := frameEnds bits s.part) new (qualified.mpr qualifies)
        (by simp [full]) noGhost
      obtain ⟨peers, held, remark⟩ := overflowBegins_overflow (p := frameEnds bits s.part) told
      rw [dropped] at taken
      exact ⟨by rw [taken.peers, peers]; rfl, by rw [taken.peers, peers], by rw [taken.share, held],
        by rw [taken.remarks, remark], taken.checked, taken.unchanged⟩
    · obtain ⟨g, oldest⟩ : ∃ g, oldestGhost s.part.peers.entries = some g := by
        refine Option.ne_none_iff_exists'.mp fun none_ => ?_
        exact (oldestGhost_eq_none_iff _).mp none_ x hx ghost
      have evicts := peerArrives_evicts (p := frameEnds bits s.part) new (qualified.mpr qualifies)
        (by simp [full]) oldest
      obtain ⟨mem, isGhost, longest⟩ := oldestGhost_some oldest
      obtain ⟨gone, stay, places⟩ := evicted_table (e := PeerFields.entry f none (frameEnds bits s.part).osc) rising
        full new oldest
      rw [evicts] at taken
      generalize effect c s.part = q at taken ⊢
      have peers : q.peers = { s.part.peers with
          entries := storePeer (PeerFields.entry f none (frameEnds bits s.part).osc)
            (deletePeer g.station s.part.peers.entries) } := taken.peers.trans (by simp [setEntries])
      have osc : q.osc = (frameEnds bits s.part).osc := taken.osc.trans (by simp)
      rw [peers]
      refine ⟨⟨g, mem, isGhost, gone, longest, stay⟩, ?_, places, rfl, taken.checked, taken.unchanged⟩
      refine (findPeer_storePeer_same (PeerFields.entry f none _) _).trans ?_
      rw [osc]
      cases part : f.part <;> simp [PeerFields.entry, PeerFields.bayAfter, PeerFields.loadAfter, part]
  case load =>
    intro b range
    refine completes_normal mode (by simp) (by simp) ?_
    rw [effect, receive_fromBayPost first last other, loadFields_outOfRange range]
    exact ⟨by simp [arrivesIfGood], shedChecked_congr (frameEnds_keeps_shedRecord _ s.part) (shedCheck_checked _),
      (unchanged_of_osc_line s.part _ _).trans (shedCheck_unchanged _) (by simp) (by simp)⟩
  case baystate =>
    intro b range
    refine completes_normal mode (by simp) (by simp) ?_
    rw [effect, receive_fromBayPost first last other, baystateFields_outOfRange range]
    rfl
  case live =>
    intro live
    refine completes_normal mode (by simp) (by simp) ?_
    obtain ⟨osc, draws, silent, others⟩ := peerAges_table held live
    refine ⟨osc, fun h => draws ((draws_iff e).mpr h), fun h => silent ?_, others, peerAges_unchanged _ _⟩
    exact Bool.eq_false_iff.mpr (mt (draws_iff e).mp h)
  case ghost =>
    intro ghost
    refine completes_normal mode (by simp) (by simp) ?_
    obtain ⟨osc, gone, overflow, others⟩ := ghostAges_table held ghost
    exact ⟨osc, gone, overflow, others, ghostAges_unchanged _ _⟩

end Sys2Proof.Machine
end

section
/-! What every command but a boundary and a step start does to the heater: it heats no more than before. The relation, and what the
operations of the bay controller do (R56, R67, R75, R138, R176, R187). -/

namespace Sys2Proof.Machine

/-! ## The relation -/

/-- What grant, duty and heater pin stand at, with the available current, the zero held, and the step and ceiling that they are
judged by (R56, R67, R74 to R76). -/
def Part.heaterRecord (p : Part) : (Nat × Nat × Bool) × (Nat × Nat × Bool) × StepPhase × Nat × Nat :=
  ((p.share.ga, p.share.aInForce, p.share.zeroed), (p.heat.duty, p.heat.shadow, p.heat.pin), p.heat.phase, p.heat.step,
    p.heat.ceiling)

@[simp] theorem heaterRecord_eq_iff (p q : Part) : Part.heaterRecord q = Part.heaterRecord p ↔
    (q.share.ga = p.share.ga ∧ q.share.aInForce = p.share.aInForce ∧ q.share.zeroed = p.share.zeroed)
      ∧ (q.heat.duty = p.heat.duty ∧ q.heat.shadow = p.heat.shadow ∧ q.heat.pin = p.heat.pin)
      ∧ q.heat.phase = p.heat.phase ∧ q.heat.step = p.heat.step ∧ q.heat.ceiling = p.heat.ceiling := by
  simp [Part.heaterRecord]

/-- Grant, duty and pin are at 0 (R67, R77). -/
def Part.heaterOff (p : Part) : Prop := p.share.ga = 0 ∧ p.heat.duty = 0 ∧ p.heat.shadow = 0 ∧ p.heat.pin = false

/-- `q` heats no more than `p` does, within one step of the frame. Either grant, duty and pin are as they were, an identity held is
kept, and the bay has not come into a state without grant; or grant, duty and pin are at 0. No sweep has begun. -/
def NoHotter (p q : Part) : Prop :=
  (q.heat.sweepRunning = true → p.heat.sweepRunning = true)
    ∧ ((Part.heaterRecord q = Part.heaterRecord p ∧ (q.bay.identity = p.bay.identity ∨ p.bay.identity = none)
          ∧ (zeroGrantState q.bay.state = true → zeroGrantState p.bay.state = true))
        ∨ (Part.heaterOff q ∧ q.heat.step = p.heat.step ∧ q.heat.ceiling = p.heat.ceiling))

theorem NoHotter.trans {p w q : Part} (first : NoHotter p w) (second : NoHotter w q) : NoHotter p q := by
  obtain ⟨sweep, before⟩ := first
  obtain ⟨sweep', after⟩ := second
  refine ⟨sweep ∘ sweep', ?_⟩
  obtain ⟨record', identity', state'⟩ | ⟨off', step', ceiling'⟩ := after
  · obtain ⟨record, identity, state⟩ | ⟨off, step, ceiling⟩ := before
    · refine .inl ⟨record'.trans record, ?_, state ∘ state'⟩
      obtain same | none_ := identity
      · rwa [← same]
      · exact .inr none_
    · obtain ⟨⟨ga, -, -⟩, ⟨duty, shadow, pin⟩, -, stepKept, ceilingKept⟩ := (heaterRecord_eq_iff w q).mp record'
      exact .inr ⟨by simpa only [Part.heaterOff, ga, duty, shadow, pin] using off, stepKept.trans step,
        ceilingKept.trans ceiling⟩
  · refine .inr ⟨off', ?_⟩
    obtain ⟨record, -⟩ | ⟨-, step, ceiling⟩ := before
    · obtain ⟨-, -, -, step, ceiling⟩ := (heaterRecord_eq_iff p w).mp record
      exact ⟨step'.trans step, ceiling'.trans ceiling⟩
    · exact ⟨step'.trans step, ceiling'.trans ceiling⟩

/-- An operation that leaves all this as it was. -/
theorem NoHotter.of_kept {p q : Part} (kept : Part.heaterRecord q = Part.heaterRecord p
    ∧ q.heat.sweepRunning = p.heat.sweepRunning ∧ q.bay.identity = p.bay.identity ∧ q.bay.state = p.bay.state) :
    NoHotter p q := by
  obtain ⟨record, sweep, identity, state⟩ := kept
  exact ⟨by rw [sweep]; exact id, .inl ⟨record, .inl identity, by rw [state]; exact id⟩⟩

theorem NoHotter.of_unchanged {blocks : List Block} {p q : Part} (same : unchangedExcept blocks p q)
    (share : .share ∉ blocks) (heat : .heat ∉ blocks) (bay : .bay ∉ blocks) : NoHotter p q := by
  have shareKept : p.share = q.share := same .share share
  have heatKept : p.heat = q.heat := same .heat heat
  have bayKept : p.bay = q.bay := same .bay bay
  exact .of_kept (by simp [shareKept, heatKept, bayKept])

@[refl] theorem NoHotter.refl (p : Part) : NoHotter p p := .of_kept (by simp)

/-- The applied grant has not risen. -/
theorem NoHotter.ga_le {p q : Part} (h : NoHotter p q) : q.share.ga ≤ p.share.ga := by
  obtain ⟨-, ⟨record, -⟩ | ⟨⟨ga, -⟩, -⟩⟩ := h
  · exact ((heaterRecord_eq_iff p q).mp record).1.1.le
  · omega

/-! ## The sweep and the bay controller -/

theorem sweepAbort_noHotter (lightsOff : Bool) (p : Part) : NoHotter p (sweepAbort lightsOff p) := by
  have stopped : ∀ h : Heat, h = { p.heat with sweepRunning := false } → ∀ q : Part, q.heat = h → q.share = p.share →
      q.bay = p.bay → NoHotter p q := by
    rintro h rfl q heat share bay
    exact ⟨by simp [heat], .inl ⟨by simp [Part.heaterRecord, heat, share], .inl (by rw [bay]), by rw [bay]; exact id⟩⟩
  unfold sweepAbort
  split
  · split <;> exact stopped _ rfl _ (by simp) (by simp) (by simp)
  · rfl

/-- The bay changes to a state with a grant, or between states without. -/
theorem setBayState_noHotter (new : BayState) (p : Part)
    (state : zeroGrantState new = true → zeroGrantState p.bay.state = true) :
    NoHotter p (setBayState new p) :=
  ⟨by simp, .inl ⟨by simp [Part.heaterRecord], .inl (by simp), by simpa using state⟩⟩

theorem enterReleasing_noHotter (p : Part) : NoHotter p (enterReleasing p) :=
  (sweepAbort_noHotter true (place .bay .release { p with bay := { p.bay with lanePass := false } })).trans
    ((NoHotter.of_kept (q := operationEnds _) (by simp)).trans (setBayState_noHotter .releasing _ nofun))

theorem placeBay_noHotter (p : Part) : NoHotter p (placeBay p) := by
  unfold placeBay
  split
  · exact setBayState_noHotter .held p nofun
  · split
    · exact setBayState_noHotter .prepare p nofun
    · have ready := setBayState_noHotter .ready p nofun
      dsimp only
      split
      · exact ready.trans (enterReleasing_noHotter _)
      · exact ready

theorem judge_noHotter (p : Part) : NoHotter p (judge p) := .of_kept (by simp)

theorem evaluate_noHotter (p : Part) : NoHotter p (evaluate p) := by
  unfold evaluate
  split
  · exact judge_noHotter p
  · exact (judge_noHotter p).trans (placeBay_noHotter _)
  · exact (judge_noHotter p).trans (placeBay_noHotter _)
  · exact (judge_noHotter p).trans (placeBay_noHotter _)
  all_goals rfl

theorem recompute_noHotter (t : Trigger) (p : Part) : NoHotter p (recompute t p) := .of_kept (by simp)

theorem tryPrepare_noHotter (p : Part) : NoHotter p (tryPrepare p) := by
  unfold tryPrepare
  split
  · exact (setBayState_noHotter .prepare (setWatches .armed p) nofun).trans (evaluate_noHotter _)
  · rfl

theorem copyArrives_noHotter (c : RosterCopy) (p : Part) : NoHotter p (copyArrives c p) :=
  (tryPrepare_noHotter (stopAsking { p with bay := { p.bay with roster := some c } })).trans (recompute_noHotter _ _)

theorem rosterLookup_noHotter (p : Part) : NoHotter p (rosterLookup p) := by
  unfold rosterLookup
  split
  · split
    · exact copyArrives_noHotter _ p
    · exact .of_kept (by simp)
  · rfl

theorem standBy_noHotter (p : Part) : NoHotter p (standBy p) :=
  (setBayState_noHotter .standby { p with bay := { p.bay with window := false } } nofun).trans (judge_noHotter _)

theorem toStandby_noHotter (p : Part) : NoHotter p (toStandby p) := standBy_noHotter (setWatches .notBegun p)

/-- The watches write the watches and the window, and ask for checks (R180). -/
theorem runWatches_noHotter (p : Part) : NoHotter p (runWatches p) := by
  refine .of_kept ⟨by simp, by simp, ?_, ?_⟩ <;> rw [runWatches_bay] <;> split <;> rfl

theorem noteOpening_noHotter (before : Bool) (p : Part) : NoHotter p (noteOpening before p) := by
  refine .of_kept ⟨by simp, by simp, ?_, ?_⟩ <;> rw [noteOpening_bay]

theorem clearanceMinute_noHotter (p : Part) : NoHotter p (clearanceMinute p) := by
  refine .of_kept ⟨by simp, by simp, ?_, ?_⟩ <;> rw [clearanceMinute_bay]

theorem bayMinute_noHotter (p : Part) : NoHotter p (bayMinute p) := by
  have watched := (runWatches_noHotter p).trans (noteOpening_noHotter p.bay.window _)
  unfold bayMinute
  split
  · exact evaluate_noHotter p
  · exact watched.trans (evaluate_noHotter _)
  · exact watched.trans (evaluate_noHotter _)
  · exact watched.trans (evaluate_noHotter _)
  · exact clearanceMinute_noHotter p
  all_goals rfl

theorem minuteEvent_noHotter (p : Part) : NoHotter p (minuteEvent p) :=
  (recompute_noHotter .minute p).trans ((NoHotter.of_kept (q := cacheMinute _) (by simp)).trans (bayMinute_noHotter _))

theorem closeWindowIfEarly_noHotter (p : Part) : NoHotter p (closeWindowIfEarly p) := by
  unfold closeWindowIfEarly
  split
  · split
    · exact .of_kept (by simp)
    · rfl
  · rfl

theorem setCopy_noHotter (c : RosterCopy) (p : Part) : NoHotter p (setCopy c p) := by
  unfold setCopy
  split
  · split
    · exact copyArrives_noHotter c p
    · exact NoHotter.trans (w := { p with bay := _ }) (.of_kept (by simp)) (recompute_noHotter _ _)
  · split
    · rfl
    · dsimp only
      refine NoHotter.trans (w := if openState p.bay.state then _ else _) ?_ (recompute_noHotter _ _)
      split
      · exact (closeWindowIfEarly_noHotter { p with bay := { p.bay with roster := some c } }).trans
          ((runWatches_noHotter _).trans (evaluate_noHotter _))
      · exact evaluate_noHotter { p with bay := { p.bay with roster := some c } }

theorem removeCopy_noHotter (p : Part) : NoHotter p (removeCopy p) := by
  unfold removeCopy
  split
  · rfl
  · dsimp only
    refine NoHotter.trans (w := if openState p.bay.state then _ else _) ?_ (recompute_noHotter _ _)
    split
    · exact (toStandby_noHotter { p with bay := { p.bay with roster := none } }).trans (rosterLookup_noHotter _)
    · exact .of_kept (by simp)

theorem returnToHeld_noHotter (r : ReturnReasons) (p : Part) : NoHotter p (returnToHeld r p) := by
  unfold returnToHeld
  extract_lets _ w
  refine NoHotter.trans (w := w) (.of_kept ⟨rfl, rfl, rfl, rfl⟩) ?_
  split
  · exact (setBayState_noHotter .held w nofun).trans (evaluate_noHotter _)
  · exact (standBy_noHotter w).trans (rosterLookup_noHotter _)

theorem laneViewChanged_noHotter (p : Part) : NoHotter p (laneViewChanged p) := by
  unfold laneViewChanged
  split
  · exact returnToHeld_noHotter {} (setSlot .bay none p)
  · exact evaluate_noHotter p

/-- The end of a revocation writes the reply jobs alone (R193). -/
theorem revocationEnd_noHotter (final : JobOutcome) (limit : Nat) (p : Part) :
    NoHotter p (revocationEnd final limit p) := .of_kept (by simp)

theorem releaseEnds_noHotter (refused : Bool) (p : Part) : NoHotter p (releaseEnds refused p) := by
  have returned := fun r => returnToHeld_noHotter r p
  unfold releaseEnds
  dsimp only
  split
  · exact (returned _).trans (revocationEnd_noHotter _ _ _)
  · exact returned _

/-- After an immediate zero the heater is off, whatever the bay record becomes then (R67). -/
theorem noHotter_of_off {p q : Part} (off : Part.heaterOff q) (step : q.heat.step = p.heat.step)
    (ceiling : q.heat.ceiling = p.heat.ceiling)
    (sweep : q.heat.sweepRunning = true → p.heat.sweepRunning = true) : NoHotter p q :=
  ⟨sweep, .inr ⟨off, step, ceiling⟩⟩

theorem enterCleared_noHotter (p : Part) : NoHotter p (enterCleared p) := by
  simp only [enterCleared]
  split <;> exact noHotter_of_off (by simp [Part.heaterOff]) (by simp) (by simp) (by simp)

theorem holdOutcome_noHotter (o : BayOutcome) (p : Part) : NoHotter p (holdOutcome o p) := by
  unfold holdOutcome
  split
  iterate 8 exact NoHotter.trans (w := setReasons _ { p with bay := _ }) (.of_kept (by simp)) (evaluate_noHotter _)
  · split
    · exact (returnToHeld_noHotter _ p).trans (revocationEnd_noHotter _ _ _)
    · exact .of_kept (by simp)
  · split
    · exact revocationEnd_noHotter _ _ { p with bay := { p.bay with revocation := .none } }
    · rfl
  all_goals rfl

theorem releaseOutcome_noHotter (o : BayOutcome) (p : Part) : NoHotter p (releaseOutcome o p) := by
  unfold releaseOutcome
  split
  · exact enterCleared_noHotter p
  · exact releaseEnds_noHotter true p
  · have returned := fun r => returnToHeld_noHotter r p
    dsimp only
    split
    · exact (returned _).trans (revocationEnd_noHotter _ _ _)
    · exact returned _
  · rfl

theorem bayLinkLost_noHotter (p : Part) : NoHotter p (bayLinkLost p) := by
  unfold bayLinkLost
  split
  · exact releaseEnds_noHotter false (setSlot .bay none p)
  · exact evaluate_noHotter p

theorem departPress_noHotter (p : Part) : NoHotter p (departPress p) := by
  unfold departPress
  extract_lets late _ opened swept read _ cleared _ held
  split
  · rfl
  · split
    · have kept : NoHotter p cleared := .of_kept (by simp +zetaDelta)
      refine NoHotter.trans (w := held) ?_ (evaluate_noHotter _)
      unfold held
      split
      · exact kept.trans (.of_kept ⟨rfl, rfl, rfl, rfl⟩)
      · exact kept
    · exact .of_kept ⟨rfl, rfl, rfl, rfl⟩

/-! ## Identity, and the clearing of the bay -/

/-- A first identity finds none held (R138). -/
theorem firstIdentity_noHotter (d : Identity) {p : Part} (none_ : p.bay.identity = none) :
    NoHotter p (firstIdentity d p) := by
  unfold firstIdentity
  extract_lets _ _ w
  have held : NoHotter p w := ⟨id, .inl ⟨rfl, .inr none_, id⟩⟩
  exact held.trans ((toStandby_noHotter w).trans
    ((NoHotter.of_kept (q := faultRequest .read (place .bay .hold _)) (by simp)).trans (rosterLookup_noHotter _)))

/-- An abort ends the sweep in the heat frame's sight (R79). -/
@[simp] theorem sweepAbort_heat (lightsOff : Bool) (p : Part) : (sweepAbort lightsOff p).heat = { p.heat with
    sweepRunning := p.heat.sweepRunning && !SweepStatus.isRunning p.sweep.status } := by
  unfold sweepAbort
  cases h : SweepStatus.isRunning p.sweep.status with
  | false => simp
  | true => cases lightsOff <;> simp

@[simp] theorem clearSweep_heat (p : Part) : (clearSweep p).heat = { p.heat with
    sweepRunning := p.heat.sweepRunning && !SweepStatus.isRunning p.sweep.status } := by
  simp [clearSweep]

/-- Clearing the other blocks takes an immediate zero (R67). -/
@[simp] theorem clearBlocks_share (p : Part) :
    (clearBlocks p).share = { p.share with ga := 0, zeroed := true } := by
  simp [clearBlocks, immediateZero]

@[simp] theorem clearBlocks_heat (p : Part) : (clearBlocks p).heat = { p.heat with
    duty := 0, shadow := 0, pin := false
    sweepRunning := p.heat.sweepRunning && !SweepStatus.isRunning p.sweep.status } := by
  simp [clearBlocks, immediateZero]

theorem tearDown_noHotter (p : Part) : NoHotter p (tearDown p) := by
  refine noHotter_of_off ?_ ?_ ?_ ?_ <;> simp +contextual [tearDown, Part.heaterOff]

theorem decoupled_noHotter (p : Part) : NoHotter p (decoupled p) :=
  tearDown_noHotter (linkDown { p with bay := { p.bay with couple := false } })

/-- The bay record and the bay controller's state take their values of R175; three chirps tell of an UNPLANNED decouple (R189). -/
@[simp] theorem tearDown_record (p : Part) : (tearDown p).bay.couple = p.bay.couple ∧ (tearDown p).bay.state = .empty
    ∧ (tearDown p).bay.identity = none ∧ (tearDown p).bay.roster = none ∧ (tearDown p).bay.reasons = {}
    ∧ (tearDown p).bay.window = false ∧ (tearDown p).bay.readWatch = .notBegun
    ∧ (tearDown p).bay.sweepWatch = .notBegun ∧ (tearDown p).bay.windowWatch = .notBegun
    ∧ (tearDown p).bay.lanePass = false ∧ (tearDown p).bay.revocation = .none ∧ (tearDown p).bay.retry = none
    ∧ (tearDown p).bay.clearance = 0 ∧ (tearDown p).bay.decoupleFlag = decoupleFlagOf p.bay.state
    ∧ (p.bay.state ≠ .cleared → (tearDown p).bay.chirps = some { cause := .unplanned, start := p.osc }) := by
  have record : ∀ flag q, (unplannedChirps flag q).bay
      = { q.bay with chirps := if flag = .unplanned then some { cause := .unplanned, start := q.osc } else q.bay.chirps } := by
    intro flag q
    unfold unplannedChirps
    split <;> rfl
  have flag : p.bay.state ≠ .cleared → decoupleFlagOf p.bay.state = .unplanned := by
    cases p.bay.state <;> simp [decoupleFlagOf]
  simp +contextual [tearDown, record, flag]

theorem coachChange_noHotter (d : Identity) (p : Part) : NoHotter p (coachChange d p) := by
  have torn := (tearDown_noHotter (withdrawLamps (setSlot .faults none (setSlot .bay none p)))).trans
    (setBayState_noHotter .coupled _ (by simp [zeroGrantState]))
  exact NoHotter.trans (p := withdrawLamps _) torn (firstIdentity_noHotter d (by simp))

theorem bayReset_noHotter (p : Part) : NoHotter p (bayReset p) := by
  simp only [bayReset]
  (repeat' split) <;> refine noHotter_of_off ?_ ?_ ?_ ?_ <;> simp +contextual [Part.heaterOff]

end Sys2Proof.Machine
end

section
/-! What every command but a boundary and a step start does to the heater: the clock, the peers, the yard line, the sweep, the fault
list, the coach link, rosters and orders. -/

namespace Sys2Proof.Machine

/-! ## The clock -/

theorem secondEnds_noHotter (p : Part) : NoHotter p (secondEnds p) := by
  rw [secondEnds_eq]
  split
  · exact .of_kept (by simp)
  · exact NoHotter.trans (.of_kept (by simp)) (minuteEvent_noHotter _)

theorem statusChanged_noHotter (p : Part) : NoHotter p (statusChanged p) :=
  (recompute_noHotter .clockStatus p).trans (tryPrepare_noHotter _)

theorem timeSilenceExpires_noHotter (p : Part) : NoHotter p (timeSilenceExpires p) := by
  unfold timeSilenceExpires
  split
  · rfl
  · exact statusChanged_noHotter (advanceTo _ { p with clock := _ })

theorem adoptTime_noHotter (minute second : Nat) (p : Part) : NoHotter p (adoptTime minute second p) := by
  have told : NoHotter p (statusTold (p.clock.status != .valid) (timeSet minute second p)) := by
    have set : NoHotter p (timeSet minute second p) :=
      .of_unchanged (timeSet_unchanged minute second p) (by simp) (by simp) (by simp)
    unfold statusTold
    split
    · exact set.trans (statusChanged_noHotter _)
    · exact set
  rw [adoptTime_eq]
  split
  · exact told.trans (minuteEvent_noHotter _)
  · exact told

theorem takeTime_noHotter (t : TimePayload) (p : Part) : NoHotter p (takeTime t p) := by
  unfold takeTime
  split
  · exact adoptTime_noHotter _ _ p
  · rfl

/-! ## Peers -/

theorem afterPeers_noHotter (before : List Position) (p : Part) : NoHotter p (afterPeers before p) := by
  have judged : NoHotter p (judgePeers p) := .of_kept ⟨rfl, rfl, rfl, rfl⟩
  rw [afterPeers_eq]
  split
  · exact judged
  · exact judged.trans (laneViewChanged_noHotter _)

theorem overflowBegins_noHotter (p : Part) : NoHotter p (overflowBegins p) := by
  rw [overflowBegins_eq]
  split
  · rfl
  · exact .of_kept (by simp)

theorem overflowEnds_noHotter (p : Part) : NoHotter p (overflowEnds p) := by
  rw [overflowEnds_eq]
  split
  · exact .of_kept (by simp)
  · rfl

theorem deletionOf_noHotter (n : Nat) (p : Part) : NoHotter p (deletionOf n p) :=
  (overflowEnds_noHotter (setEntries (deletePeer n p.peers.entries) p)).trans (afterPeers_noHotter _ _)

theorem writePeer_noHotter (e : Peer) (p : Part) : NoHotter p (writePeer e p) :=
  afterPeers_noHotter _ (setEntries (storePeer e p.peers.entries) p)

theorem peerArrives_noHotter (f : PeerFields) (p : Part) : NoHotter p (peerArrives f p) := by
  unfold peerArrives
  split
  · exact writePeer_noHotter _ p
  · exact deletionOf_noHotter _ p
  · split
    · exact writePeer_noHotter _ p
    · split
      · exact afterPeers_noHotter _ (setEntries _ p)
      · exact overflowBegins_noHotter p
  · rfl

theorem arrivesIfGood_noHotter (f : Option PeerFields) (p : Part) : NoHotter p (arrivesIfGood f p) := by
  unfold arrivesIfGood
  split
  · exact peerArrives_noHotter _ p
  · rfl

theorem peerAges_noHotter (n : Nat) (p : Part) : NoHotter p (peerAges n p) := by
  unfold peerAges
  split
  · split
    · dsimp only
      split
      · exact writePeer_noHotter _ (advanceTo _ p)
      · exact deletionOf_noHotter n (advanceTo _ p)
    · rfl
  · rfl

theorem ghostAges_noHotter (n : Nat) (p : Part) : NoHotter p (ghostAges n p) := by
  unfold ghostAges
  split
  · split
    · exact deletionOf_noHotter n (advanceTo _ p)
    · rfl
  · rfl

/-! ## The shed lock and the yard line -/

/-- A shed check writes the lock and the halving due, not the grant (R63). -/
theorem shedCheck_noHotter (p : Part) : NoHotter p (shedCheck p) := by
  unfold shedCheck
  split
  · split <;> exact .of_kept (by simp)
  · rfl

theorem takeShed_noHotter (b : ShedPayload) (p : Part) : NoHotter p (takeShed b p) := by
  unfold takeShed
  split
  · exact .of_kept (by simp)
  · rfl

theorem shedLockEnds_noHotter (p : Part) : NoHotter p (shedLockEnds p) := by
  unfold shedLockEnds
  split
  · exact .of_kept (by simp)
  · rfl

theorem numberClash_noHotter (p : Part) : NoHotter p (numberClash p) := by
  unfold numberClash
  split
  · rfl
  · exact .of_kept (by simp)

theorem transmitFaults_noHotter (bit : Nat) (p : Part) : NoHotter p (transmitFaults bit p) := by
  unfold transmitFaults countFault
  (repeat' split) <;> exact .of_kept (by simp)

theorem mutedEnds_noHotter (p : Part) : NoHotter p (mutedEnds p) := by
  unfold mutedEnds
  split
  · exact .of_kept (by simp)
  · rfl

theorem completion_noHotter (k : SendKind) (p : Part) : NoHotter p (completion k (completionNotice k) p) := by
  obtain same | ⟨t, -, done⟩ := completion_cases k (completionNotice k) p
  · rw [same]
  · rw [done]
    cases k <;> exact .of_kept (by simp [completionNotice, loadNotice])

/-! ## The sweep and the chain -/

theorem completeSweep_noHotter (p : Part) : NoHotter p (completeSweep p) := by
  refine NoHotter.trans ?_ (evaluate_noHotter _)
  exact ⟨by simp, .inl ⟨rfl, .inl rfl, id⟩⟩

theorem lampsOutcome_noHotter (o : LampsOutcome) (p : Part) : NoHotter p (lampsOutcome o p) := by
  unfold lampsOutcome
  split
  · exact .of_kept (by simp)
  · split
    · exact .of_kept (by simp)
    · exact completeSweep_noHotter p
    · exact sweepAbort_noHotter true p
    · exact sweepAbort_noHotter false p
    · rfl

theorem setChain_noHotter (c : ChainStatus) (p : Part) : NoHotter p (setChain c p) := by
  unfold setChain
  dsimp only
  split
  · exact NoHotter.trans (NoHotter.trans (.of_kept (by simp)) (sweepAbort_noHotter true _)) (evaluate_noHotter _)
  · exact NoHotter.trans (.of_kept (by simp)) (evaluate_noHotter _)
  · exact NoHotter.trans (.of_kept (by simp)) (evaluate_noHotter _)
  · exact .of_kept (by simp)

theorem refhiEnds_noHotter (c : Code) (p : Part) : NoHotter p (refhiEnds c p) := by
  unfold refhiEnds
  split
  case h_1 h =>
    have kept := takeConversion_keeps h
    refine NoHotter.trans ?_ (setChain_noHotter _ _)
    split <;> exact .of_kept (by simp [kept])
  all_goals rfl

/-! ## The fault list -/

theorem completeRead_noHotter (p : Part) : NoHotter p (completeRead p) :=
  NoHotter.trans (.of_kept (by simp)) (evaluate_noHotter _)

theorem nextRecord_noHotter (p : Part) : NoHotter p (nextRecord p) := by
  unfold nextRecord
  dsimp only
  split
  · exact completeRead_noHotter p
  · exact .of_kept (by simp)

theorem takeRecord_noHotter (words : List Word16) (p : Part) : NoHotter p (takeRecord words p) := by
  refine NoHotter.trans ?_ (nextRecord_noHotter _)
  split <;> exact .of_kept (by simp)

theorem faultOutcome_noHotter (c : CommandCode) (o : FaultOutcome) (p : Part) : NoHotter p (faultOutcome c o p) := by
  unfold faultOutcome
  split
  · split
    · exact .of_kept (by simp)
    · dsimp only
      split
      · exact NoHotter.trans (.of_kept (by simp)) (completeRead_noHotter _)
      · exact .of_kept (by simp)
    · exact takeRecord_noHotter _ p
    · exact completeRead_noHotter p
    · exact .of_kept (by simp)
  · rfl

/-! ## The coach link -/

theorem operationWaits_noHotter (p : Part) : NoHotter p (operationWaits p) := .of_kept (by simp)

theorem enterLost_noHotter (p : Part) : NoHotter p (enterLost p) :=
  NoHotter.trans (.of_kept (by simp)) ((sweepAbort_noHotter false (setSlot .keeper none _)).trans
    ((operationWaits_noHotter _).trans (bayLinkLost_noHotter _)))

theorem operationResumes_noHotter (p : Part) : NoHotter p (operationResumes p) := .of_kept (by simp)

/-- An identity of the same coach is not written; another's finds none held, or the heater off (R138 to R140). -/
theorem acceptIdentity_noHotter (d : Identity) (p : Part) : NoHotter p (acceptIdentity d p) := by
  unfold acceptIdentity
  extract_lets _ w
  have confirmed : NoHotter p w := .of_kept ⟨rfl, rfl, rfl, rfl⟩
  split
  case h_1 none_ => exact confirmed.trans (firstIdentity_noHotter d none_)
  · split
    · exact confirmed.trans (NoHotter.trans (.of_kept (by simp))
        ((evaluate_noHotter (place .bay .hold w)).trans (operationResumes_noHotter _)))
    · exact confirmed.trans (coachChange_noHotter d w)

theorem ackOutcome_noHotter (c : Command) (p : Part) : NoHotter p (ackOutcome c p) := by
  unfold ackOutcome
  split
  · split
    · rfl
    · exact .of_kept (by simp)
  · exact NoHotter.trans (.of_kept (by simp)) (holdOutcome_noHotter _ _)
  · exact NoHotter.trans (.of_kept (by simp)) (releaseOutcome_noHotter _ _)
  · exact lampsOutcome_noHotter _ p
  · exact faultOutcome_noHotter _ _ p
  all_goals rfl

theorem lastOutcome_noHotter (c : Command) (words : List Word16) (p : Part) : NoHotter p (lastOutcome c words p) := by
  unfold lastOutcome
  split
  · exact faultOutcome_noHotter _ _ p
  · exact faultOutcome_noHotter _ _ p
  · rfl

theorem bayNotHeld_noHotter (p : Part) : NoHotter p (bayNotHeld p) := by
  unfold bayNotHeld
  split
  · exact .of_kept (by simp)
  · rfl

theorem refuseOutcome_noHotter (c : Command) (p : Part) : NoHotter p (refuseOutcome c p) := by
  unfold refuseOutcome
  split
  · exact NoHotter.trans (.of_kept (by simp)) (holdOutcome_noHotter _ _)
  · exact releaseOutcome_noHotter _ p
  · exact NoHotter.trans (.of_kept (by simp)) ((lampsOutcome_noHotter .notHeld (setHold false p)).trans (bayNotHeld_noHotter _))
  · exact faultOutcome_noHotter _ _ p
  · rfl

theorem failedOutcome_noHotter (c : Command) (p : Part) : NoHotter p (failedOutcome c p) := by
  unfold failedOutcome
  split
  · exact lampsOutcome_noHotter _ p
  iterate 3 exact faultOutcome_noHotter _ _ p
  · rfl

theorem leaveFlight_noHotter (p : Part) : NoHotter p (leaveFlight p) := .of_kept (by simp)

theorem failCommand_noHotter (f : InFlight) (p : Part) : NoHotter p (failCommand f p) := by
  unfold failCommand
  split
  · exact .of_kept (by simp)
  · exact (leaveFlight_noHotter p).trans ((failedOutcome_noHotter _ _).trans (enterLost_noHotter _))
  all_goals exact .of_kept (by simp)

theorem takeWait_noHotter (f : InFlight) (p : Part) : NoHotter p (takeWait f p) := by
  unfold takeWait
  dsimp only
  split
  · exact .of_kept (by simp)
  · exact failCommand_noHotter f p

theorem takeData_noHotter (f : InFlight) (w : Word16) (p : Part) : NoHotter p (takeData f w p) := by
  unfold takeData
  split
  · exact .of_kept (by simp)
  · exact failCommand_noHotter f p

theorem answerEnds_noHotter (p : Part) : NoHotter p (answerEnds p) := .of_kept (by simp)

theorem takeLast_noHotter (f : InFlight) (w : Word16) (p : Part) : NoHotter p (takeLast f w p) := by
  have left := (answerEnds_noHotter p).trans (leaveFlight_noHotter _)
  have failed := (answerEnds_noHotter p).trans (failCommand_noHotter f _)
  unfold takeLast
  dsimp only
  split
  · split
    · split
      · exact left.trans (acceptIdentity_noHotter _ _)
      · exact failed
    · exact left.trans (lastOutcome_noHotter _ _ _)
  · exact failed

theorem takeAck_noHotter (f : InFlight) (p : Part) : NoHotter p (takeAck f p) := by
  unfold takeAck
  dsimp only
  split
  · exact (answerEnds_noHotter p).trans ((leaveFlight_noHotter _).trans (ackOutcome_noHotter _ _))
  · exact (answerEnds_noHotter p).trans (failCommand_noHotter f _)

theorem takeRefuse_noHotter (f : InFlight) (reason : Word16) (p : Part) : NoHotter p (takeRefuse f reason p) := by
  unfold takeRefuse
  dsimp only
  split
  · exact (answerEnds_noHotter p).trans ((leaveFlight_noHotter _).trans (refuseOutcome_noHotter _ _))
  · exact (answerEnds_noHotter p).trans (failCommand_noHotter f _)

theorem takeWord_noHotter (f : InFlight) (w : CoachWord) (p : Part) : NoHotter p (takeWord f w p) := by
  cases w with
  | idle | wait => exact takeWait_noHotter f p
  | data x => exact takeData_noHotter f x p
  | last x => exact takeLast_noHotter f x p
  | ack => exact takeAck_noHotter f p
  | refuse r => exact takeRefuse_noHotter f r p
  | garbled => exact failCommand_noHotter f p

theorem coachWord_noHotter (w : CoachWord) (p : Part) : NoHotter p (coachWord w p) := by
  have opened : NoHotter p (beatOpens p) := .of_kept (by simp)
  unfold coachWord
  split
  · rfl
  · dsimp only
    split
    · split
      · exact opened.trans (takeWord_noHotter _ _ _)
      · exact opened
    · exact opened

theorem waitCountEnds_noHotter (p : Part) : NoHotter p (waitCountEnds p) := by
  unfold waitCountEnds
  split
  · split
    · exact NoHotter.trans (.of_kept (by simp)) (takeWait_noHotter _ _)
    · rfl
  · rfl

theorem startTimerExpires_noHotter (p : Part) : NoHotter p (startTimerExpires p) := by
  unfold startTimerExpires
  split
  · exact NoHotter.trans (.of_kept (by simp)) (enterLost_noHotter _)
  · rfl

/-! ## Rosters, couple sense and the bay controller's timers -/

theorem takeCancel_noHotter (coach : Nat) (p : Part) : NoHotter p (takeCancel coach p) := by
  unfold takeCancel
  dsimp only
  split
  · exact NoHotter.trans (.of_kept (by simp)) (removeCopy_noHotter _)
  · exact .of_kept (by simp)

theorem takeEntry_noHotter (e : RosterEntry) (p : Part) : NoHotter p (takeEntry e p) := by
  unfold takeEntry
  extract_lets _ _ w looked
  have stored : NoHotter p w := .of_kept ⟨rfl, rfl, rfl, rfl⟩
  have lookedUp : NoHotter p looked := by
    unfold looked
    split
    · exact stored.trans (rosterLookup_noHotter w)
    · exact stored
  split
  · exact lookedUp.trans (setCopy_noHotter _ _)
  · exact lookedUp

theorem takeRosterFrame_noHotter (b : RosterPayload) (p : Part) : NoHotter p (takeRosterFrame b p) := by
  unfold takeRosterFrame
  split
  · rfl
  · split
    · exact takeCancel_noHotter _ p
    · split
      · exact takeEntry_noHotter _ p
      · rfl

/-- Couple sense rises in EMPTY, from one state without a grant to another (R176). -/
theorem coupleRises_noHotter (p : Part) : NoHotter p (coupleRises p) := by
  unfold coupleRises
  split
  case isTrue rises =>
    refine NoHotter.trans ?_ (setBayState_noHotter .coupled _ ?_)
    · exact .of_kept (by simp)
    · simp [rises.2, zeroGrantState]
  · rfl

theorem coupleFalls_noHotter (p : Part) : NoHotter p (coupleFalls p) := by
  unfold coupleFalls
  split
  · exact decoupled_noHotter p
  · rfl

theorem holdRetryExpires_noHotter (p : Part) : NoHotter p (holdRetryExpires p) := by
  unfold holdRetryExpires
  split
  · dsimp only
    split <;> exact .of_kept (by simp)
  · rfl

theorem clearanceCountEnds_noHotter (p : Part) : NoHotter p (clearanceCountEnds p) := by
  unfold clearanceCountEnds clearanceCheck
  (repeat' split) <;> exact .of_kept (by simp)

theorem tooEarlyEnds_noHotter (p : Part) : NoHotter p (tooEarlyEnds p) := by
  unfold tooEarlyEnds
  split <;> exact .of_kept (by simp)

theorem chirpsEnd_noHotter (p : Part) : NoHotter p (chirpsEnd p) := by
  unfold chirpsEnd
  split <;> exact .of_kept (by simp)

/-! ## Orders -/

theorem holdEffect_noHotter (o : Order) (p : Part) : NoHotter p (holdEffect o p) := by
  unfold holdEffect
  dsimp only
  split
  · exact .of_kept (by simp)
  · exact .of_kept (by simp)
  · exact NoHotter.trans (.of_kept (by simp)) (evaluate_noHotter _)

theorem unholdEffect_noHotter (p : Part) : NoHotter p (unholdEffect p) := by
  unfold unholdEffect withdrawRevocation
  split
  · split
    · rfl
    · exact NoHotter.trans (.of_kept (by simp)) (revocationEnd_noHotter _ _ _)
  · exact NoHotter.trans (.of_kept (by simp)) (evaluate_noHotter _)

theorem lanepassEffect_noHotter (p : Part) : NoHotter p (lanepassEffect p) :=
  NoHotter.trans (.of_kept (by simp)) (evaluate_noHotter _)

/-- An order heats no more where its effect does not. -/
theorem takeOrder_noHotter (o : Order) (r : OrderRule) (p : Part) (effect : NoHotter p (r.effect p)) :
    NoHotter p (takeOrder o r p) := by
  unfold takeOrder
  split
  · split
    · unfold judgeOrder
      split
      · exact .of_kept (by simp)
      · exact effect.trans (.of_kept (by simp))
    · exact .of_kept (by simp)
  · rfl

/-! ## The commands -/

/-- A frame received heats no more where the block that takes it does not. -/
theorem receive_noHotter (sender : StationNo) (n : Nat) (hand : Part → Part) (p : Part)
    (handed : ∀ q, NoHotter q (hand q)) : NoHotter p (receive sender n hand p) :=
  receive_induct (I := NoHotter p) sender n hand (fun _ _ h => h.trans (.of_kept (by simp)))
    (fun q h => h.trans (numberClash_noHotter q)) (fun q h => h.trans (handed q)) (NoHotter.refl p)

theorem fromBayPost_noHotter (sender : StationNo) (hand : Part → Part) (p : Part) (handed : NoHotter p (hand p)) :
    NoHotter p (fromBayPost sender hand p) := by
  unfold fromBayPost
  split
  · exact handed
  · rfl

/-- The commands that begin a step of the heat frame, or a frame of it (R72, R73). -/
def beginsStep : Instr → Bool
  | .heatFrameBoundary | .stepStart => true
  | _ => false

/-- No frame received heats more. -/
theorem effect_frame_noHotter {c : Instr} {n : StationNo} (sender : senderOf c = some n) (p : Part) :
    NoHotter p (effect c p) := by
  cases c <;> simp only [senderOf, reduceCtorEq] at sender
  case timeFrame => exact receive_noHotter _ _ _ p (takeTime_noHotter _)
  case shedFrame => exact receive_noHotter _ _ _ p fun q => fromBayPost_noHotter _ _ q (takeShed_noHotter _ q)
  case loadFrame =>
    exact receive_noHotter _ _ _ p fun q =>
      fromBayPost_noHotter _ _ q ((arrivesIfGood_noHotter _ q).trans (shedCheck_noHotter _))
  case baystateFrame => exact receive_noHotter _ _ _ p fun q => fromBayPost_noHotter _ _ q (arrivesIfGood_noHotter _ q)
  case askFrame | reportFrame => exact receive_noHotter _ _ _ p NoHotter.refl
  case rosterFrame | rosterCancel => exact receive_noHotter _ _ _ p (takeRosterFrame_noHotter _)
  case orderHold o => exact receive_noHotter _ _ _ p fun q => takeOrder_noHotter _ _ q (holdEffect_noHotter o q)
  case orderUnhold => exact receive_noHotter _ _ _ p fun q => takeOrder_noHotter _ _ q (unholdEffect_noHotter q)
  case orderLanepass => exact receive_noHotter _ _ _ p fun q => takeOrder_noHotter _ _ q (lanepassEffect_noHotter q)
  case orderBayreset => exact receive_noHotter _ _ _ p fun q => takeOrder_noHotter _ _ q (bayReset_noHotter q)
  all_goals exact receive_noHotter _ _ _ p fun q => takeOrder_noHotter _ _ q (.of_kept (by simp))

/-- No command heats more but a boundary and a step start. -/
theorem effect_noHotter (c : Instr) (p : Part) (h : beginsStep c = false) : NoHotter p (effect c p) := by
  cases sender : senderOf c with
  | some n => exact effect_frame_noHotter sender p
  | none =>
    cases c <;> simp only [senderOf, reduceCtorEq] at sender
    case heatFrameBoundary | stepStart => cases h
    case startUp | resetAsserted => rfl
    case secondEnd => exact secondEnds_noHotter p
    case timeSilenceExpiry => exact timeSilenceExpires_noHotter p
    case transmitFault bit => exact transmitFaults_noHotter bit p
    case mutedEnd => exact mutedEnds_noHotter p
    case shedComplete => exact completion_noHotter .shed p
    case loadComplete => exact completion_noHotter .load p
    case baystateComplete => exact completion_noHotter .baystate p
    case askComplete => exact completion_noHotter .ask p
    case reportComplete => exact completion_noHotter .report p
    case peerAgeing60s n => exact peerAges_noHotter n.toNat p
    case ghostAgeing180s n => exact ghostAges_noHotter n.toNat p
    case shedLockEnd => exact shedLockEnds_noHotter p
    case refhiConversionEnd code => exact refhiEnds_noHotter code p
    case idle | wait | data | last | ack | refuse | garbledWord => exact coachWord_noHotter _ p
    case waitCountExpiry => exact waitCountEnds_noHotter p
    case startTimerExpiry => exact startTimerExpires_noHotter p
    case coupleSenseRise => exact coupleRises_noHotter p
    case decouple => exact coupleFalls_noHotter p
    case departButtonPress => exact departPress_noHotter p
    case holdRetryExpiry => exact holdRetryExpires_noHotter p
    case clearanceCountExpiry => exact clearanceCountEnds_noHotter p
    case tooEarlyOverlayEnd => exact tooEarlyEnds_noHotter p
    case sounderRunEnd => exact chirpsEnd_noHotter p
    all_goals rw [effect]; exact .of_kept (by simp)

end Sys2Proof.Machine
end

section
/-! The grant step (R49 to R60): its arithmetic, the grant step as one update of the part, and what a boundary leaves of the share unit
and the heat frame (R72 to R76). -/

namespace Sys2Proof.Machine

/-! ## The arithmetic of the grant -/

/-- Steps 3 to 5 only lower the grant, to Ih and A at most (R57, R58). -/
theorem grantLimited_le (allowance : Bool) (q : Nat) (ih : Option Nat) (a : Nat) (halving : Bool) (ga : Nat) :
    grantLimited allowance q ih a halving ga ≤ ga ∧ grantLimited allowance q ih a halving ga ≤ ih.getD 0
      ∧ grantLimited allowance q ih a halving ga ≤ a := by
  unfold grantLimited
  dsimp only
  split <;> split <;> omega

/-- The duty in one formula (R59). -/
theorem dutyOf_eq (ih : Option Nat) (ga ceiling : Nat) :
    dutyOf ih ga ceiling = if ih.getD 0 = 0 then 0 else min ceiling (ga * 64 / ih.getD 0) := by
  match ih with
  | none => rfl
  | some 0 => rfl
  | some (i + 1) => rfl

/-- The duty stays within the ceiling, and the heater's mean current within the grant (R59, R76). -/
theorem dutyOf_le (ih : Option Nat) (ga ceiling : Nat) :
    dutyOf ih ga ceiling ≤ ceiling ∧ dutyOf ih ga ceiling * ih.getD 0 ≤ 64 * ga := by
  rw [dutyOf_eq]
  split
  · simp
  · refine ⟨Nat.min_le_left _ _, ?_⟩
    calc min ceiling (ga * 64 / ih.getD 0) * ih.getD 0
        ≤ ga * 64 / ih.getD 0 * ih.getD 0 := Nat.mul_le_mul_right _ (Nat.min_le_right _ _)
      _ ≤ ga * 64 := Nat.div_mul_le_self _ _
      _ = 64 * ga := Nat.mul_comm _ _

/-- A step 2 that raises the grant is that of a bay with a grant, without a lock and under a settled claim (R56). -/
theorem grantAfterTarget_rises {zeroState locked settled : Bool} {ga gt : Nat} {room : Int}
    (rises : ga < grantAfterTarget zeroState locked settled ga gt room) :
    zeroState = false ∧ locked = false ∧ settled = true := by
  unfold grantAfterTarget at rises
  split at rises
  · omega
  · split at rises
    · omega
    · split at rises
      · omega
      · split at rises
        · omega
        · simp_all

/-! ## The grant step -/

/-- A in force from this boundary on (R49). -/
def Part.availableNow (p : Part) : Nat := available (Part.feederLimitInUse p)

/-- The claim time after step 1 (R53). -/
def Part.claimNow (p : Part) : Option Moment := claimAfterLatch p.share.claim p.share.demand p.plan.demand

/-- The target grant (R51). -/
def Part.targetNow (p : Part) : Nat :=
  waterFill p.latch.station (Part.availableNow p) (Part.contenderList p p.plan.demand p.plan.urgency)

/-- The grant after step 2 (R56). -/
def Part.steppedNow (p : Part) : Nat :=
  grantAfterTarget (Part.grantsZero p) p.share.shedLock.isSome (claimSettled (Part.claimNow p) p.heat.frameStart)
    p.share.ga (Part.targetNow p) (Part.freeRoom p (Part.availableNow p))

/-- The grant after step 5 (R57, R58). -/
def Part.grantNow (p : Part) : Nat :=
  grantLimited (p.share.mutedHeld || p.share.overflowHeld) (quietAllowance (Part.availableNow p)) (Part.heaterCurrent p)
    (Part.availableNow p) p.share.halvingDue (Part.steppedNow p)

/-- The duty of the coming frame (R59). -/
def Part.dutyNow (p : Part) : Nat := dutyOf (Part.heaterCurrent p) (Part.grantNow p) p.heat.ceiling

/-- The reported draw (R59). -/
def Part.drawNow (p : Part) : Nat := reportedDraw (Part.heaterCurrent p) (Part.dutyNow p)

/-- What of the LOAD content a grant step changes (R60). -/
abbrev Part.loadChanges (p : Part) : Prop :=
  p.plan.demand ≠ p.share.demand ∨ p.plan.urgency ≠ p.share.urgency ∨ p.plan.mode ≠ p.share.mode
    ∨ Part.drawNow p ≠ p.share.draw

/-- The grant step as one update of the part (R55 to R60). -/
theorem grantStep_eq (p : Part) : grantStep p = { p with
    share := { p.share with
      aInForce := Part.availableNow p, qInForce := quietAllowance (Part.availableNow p), demand := p.plan.demand
      urgency := p.plan.urgency, mode := p.plan.mode, gt := Part.targetNow p, ga := Part.grantNow p
      draw := Part.drawNow p, claim := Part.claimNow p, halvingDue := false, zeroed := false }
    heat := { p.heat with shadow := Part.dutyNow p }
    line := Line.raised .load (decide (Part.loadChanges p)) p.line } := by
  have changed : (p.plan.demand != p.share.demand || p.plan.urgency != p.share.urgency || p.plan.mode != p.share.mode
      || Part.drawNow p != p.share.draw) = true ↔ Part.loadChanges p := by
    simp [Part.loadChanges, or_assoc]
  by_cases h : Part.loadChanges p
  · simp only [h, decide_true]
    exact (if_pos (changed.mpr h)).trans (raise_eq_raised _ _)
  · simp only [h, decide_false]
    exact if_neg (mt changed.mp h)

/-! ## The boundary -/

/-- The start of a sweep writes heat frame, link and sweep alone (R145). -/
theorem judgeSweepStart_unchanged (p : Part) : unchangedExcept [.heat, .link, .sweep] p (judgeSweepStart p).1 := by
  intro b hb
  unfold judgeSweepStart
  (repeat' split) <;> cases b <;> simp_all [agreeOn]

/-- Of the heat frame it writes that a sweep runs (R79). -/
theorem judgeSweepStart_heat (p : Part) : (judgeSweepStart p).1.heat
    = { p.heat with sweepRunning := p.heat.sweepRunning || (judgeSweepStart p).2 } := by
  unfold judgeSweepStart startSweep
  (repeat' split) <;> simp

/-- The part whose new frame has begun (R72). -/
def frameBegun (p : Part) : Part :=
  { advanceTo (p.heat.frameStart + heatFramePeriod) p with
    heat := { p.heat with frameStart := p.heat.frameStart + heatFramePeriod } }

/-- The part at a boundary when its grant step is taken: the new frame has begun, the start of a sweep is judged, the ceiling fixed
and the measurement unit's accounting done (R73). -/
def frameOpened (p : Part) : Part :=
  let judged := judgeSweepStart (frameBegun p)
  { judged.1 with
    heat := { judged.1.heat with ceiling := if judged.1.heat.sweepRunning then 56 else 62 }
    measure := accounting judged.1.bay.couple judged.2 (Measure.carryOver judged.1.measure) }

/-- The duty shadow moves into force (R74). -/
def dutyInForce (p : Part) : Part := { p with heat := { p.heat with duty := p.heat.shadow } }

theorem boundary_eq (p : Part) :
    boundary p = beginStep 0 (dutyInForce (shedCheck (grantStep (frameOpened p)))) := rfl

theorem frameOpened_unchanged (p : Part) :
    unchangedExcept [.osc, .heat, .measure, .link, .sweep] p (frameOpened p) := by
  have begun : unchangedExcept [.osc, .heat] p (frameBegun p) := fun b hb => by
    cases b <;> simp_all [agreeOn, frameBegun]
  have opened : unchangedExcept [.heat, .measure] (judgeSweepStart (frameBegun p)).1 (frameOpened p) := fun b hb => by
    cases b <;> simp_all [agreeOn, frameOpened]
  exact (begun.trans (judgeSweepStart_unchanged _) (blocks := [.osc, .heat, .link, .sweep]) (by decide) (by decide)).trans
    opened (by decide) (by decide)

/-- The new frame begins 8 s after the one before, under the ceiling of its sweep (R72, R79). -/
theorem frameOpened_heat (p : Part) : (frameOpened p).heat.frameStart = p.heat.frameStart + 8000000
    ∧ (frameOpened p).heat.ceiling = (if (frameOpened p).heat.sweepRunning then 56 else 62) := by
  refine ⟨?_, rfl⟩
  show (judgeSweepStart (frameBegun p)).1.heat.frameStart = _
  rw [judgeSweepStart_heat]
  rfl

/-- Step `k` writes of the heat frame the step, its phase and the pin (R75). -/
theorem beginStep_heat (k : Nat) (p : Part) : (beginStep k p).heat = { p.heat with
    step := k, phase := if k < p.heat.duty then .on else .off, pin := decide (k < p.heat.duty) } := by
  unfold beginStep
  split <;> simp [*]

/-- A shed check writes nothing of the share unit but lock and halving (R63). -/
theorem shedCheck_keeps_share (p : Part) :
    (shedCheck p).share.aInForce = p.share.aInForce ∧ (shedCheck p).share.qInForce = p.share.qInForce
      ∧ (shedCheck p).share.demand = p.share.demand ∧ (shedCheck p).share.urgency = p.share.urgency
      ∧ (shedCheck p).share.mode = p.share.mode ∧ (shedCheck p).share.gt = p.share.gt
      ∧ (shedCheck p).share.ga = p.share.ga ∧ (shedCheck p).share.draw = p.share.draw
      ∧ (shedCheck p).share.claim = p.share.claim ∧ (shedCheck p).share.mutedHeld = p.share.mutedHeld
      ∧ (shedCheck p).share.overflowHeld = p.share.overflowHeld ∧ (shedCheck p).share.zeroed = p.share.zeroed := by
  unfold shedCheck
  split
  · split <;> simp
  · simp

/-- After a boundary the share unit holds what the grant step gave, but for lock and halving (R55 to R59). -/
theorem boundary_share (p : Part) :
    (boundary p).share.aInForce = Part.availableNow (frameOpened p)
      ∧ (boundary p).share.qInForce = quietAllowance (Part.availableNow (frameOpened p))
      ∧ (boundary p).share.demand = (frameOpened p).plan.demand ∧ (boundary p).share.urgency = (frameOpened p).plan.urgency
      ∧ (boundary p).share.mode = (frameOpened p).plan.mode ∧ (boundary p).share.gt = Part.targetNow (frameOpened p)
      ∧ (boundary p).share.ga = Part.grantNow (frameOpened p) ∧ (boundary p).share.draw = Part.drawNow (frameOpened p)
      ∧ (boundary p).share.claim = Part.claimNow (frameOpened p)
      ∧ (boundary p).share.mutedHeld = (frameOpened p).share.mutedHeld
      ∧ (boundary p).share.overflowHeld = (frameOpened p).share.overflowHeld ∧ (boundary p).share.zeroed = false := by
  have checked : (boundary p).share = (shedCheck (grantStep (frameOpened p))).share := by
    simp [boundary_eq, dutyInForce]
  simp only [checked, shedCheck_keeps_share, grantStep_eq, and_self]

/-- The heat frame after a boundary: the duty of the grant step in force, at step 0 (R73 to R75). -/
theorem boundary_heat (p : Part) : (boundary p).heat = { (frameOpened p).heat with
    duty := Part.dutyNow (frameOpened p), shadow := Part.dutyNow (frameOpened p), step := 0
    phase := if 0 < Part.dutyNow (frameOpened p) then .on else .off
    pin := decide (0 < Part.dutyNow (frameOpened p)) } := by
  rw [boundary_eq, beginStep_heat]
  simp [dutyInForce, grantStep_eq]

end Sys2Proof.Machine
end

section
/-! Chapter 4: every step keeps the heater within its grant (R57, R67, R75 to R78), and the grant rises at a boundary alone, under a
settled claim (R54, R56). -/

namespace Sys2Proof.Machine

/-! ## The invariants -/

/-- The three invariants of the heater (the conjunction that O56 names). -/
abbrev HeaterInvs (p : Part) : Prop := GrantInv p ∧ DutyInv p ∧ ZeroInv p

/-- Without an identity the heater is off (R57, R83). -/
theorem HeaterInvs.off_of_noIdentity {p : Part} (h : HeaterInvs p) (none_ : p.bay.identity = none) :
    Part.heaterOff p := by
  obtain ⟨⟨-, within, -⟩, ⟨-, -, -, shadow, -, unheld, -, pin⟩, -⟩ := h
  have noCurrent : Part.heaterCurrent p = none := by simp [Part.heaterCurrent, none_]
  have duty := unheld noCurrent
  refine ⟨by simpa [noCurrent] using within, duty, shadow.trans duty, ?_⟩
  cases on : p.heat.pin with
  | false => rfl
  | true => exact absurd (pin on).2 (by omega)

/-- A part whose heater is off meets them, whatever its bay record. -/
theorem heaterInvs_of_off {p : Part} (off : Part.heaterOff p) (ceiling : p.heat.ceiling = 62 ∨ p.heat.ceiling = 56)
    (sweep : p.heat.sweepRunning = true → p.heat.ceiling = 56) (step : p.heat.step ≤ 63) : HeaterInvs p := by
  obtain ⟨ga, duty, shadow, pin⟩ := off
  exact ⟨⟨by omega, by omega, fun _ => ga⟩,
    ⟨ceiling, sweep, by omega, by omega, by simp [duty], fun _ => duty, step, by simp [pin]⟩,
    fun _ => ⟨ga, duty, shadow, pin⟩⟩

/-- What heats no more keeps them. -/
theorem HeaterInvs.of_noHotter {p q : Part} (h : HeaterInvs p) (cooler : NoHotter p q) : HeaterInvs q := by
  obtain ⟨sweepKept, cases_⟩ := cooler
  have ⟨grant, duty, zero⟩ := h
  obtain ⟨ceiling, sweep, most, shadow, current, unheld, step, pin⟩ := duty
  obtain ⟨record, identity, state⟩ | ⟨off, stepKept, ceilingKept⟩ := cases_
  · obtain ⟨⟨ga, a, zeroed⟩, ⟨dutyKept, shadowKept, pinKept⟩, phase, stepKept, ceilingKept⟩ :=
      (heaterRecord_eq_iff p q).mp record
    obtain same | none_ := identity
    · obtain ⟨within, held, grants⟩ := grant
      have sameCurrent : Part.heaterCurrent q = Part.heaterCurrent p := by simp only [Part.heaterCurrent, same]
      refine ⟨⟨by rwa [ga, a], by rwa [ga, sameCurrent], fun none_ => ga.trans (grants (state none_))⟩, ?_, ?_⟩
      · simp only [DutyInv, ga, dutyKept, shadowKept, pinKept, phase, stepKept, ceilingKept, sameCurrent]
        exact ⟨ceiling, fun runs => sweep (sweepKept runs), most, shadow, current, unheld, step, pin⟩
      · simpa only [ZeroInv, ga, zeroed, dutyKept, shadowKept, pinKept] using zero
    · refine heaterInvs_of_off ?_ (ceilingKept ▸ ceiling) (fun runs => ceilingKept ▸ sweep (sweepKept runs))
        (stepKept ▸ step)
      simpa only [Part.heaterOff, ga, dutyKept, shadowKept, pinKept] using h.off_of_noIdentity none_
  · exact heaterInvs_of_off off (ceilingKept ▸ ceiling) (fun runs => ceilingKept ▸ sweep (sweepKept runs))
      (stepKept ▸ step)

/-- A step start drives the pin by the duty in force (R75). -/
theorem stepStarts_keeps_heaterInvs {p : Part} (h : HeaterInvs p) : HeaterInvs (stepStarts p) := by
  unfold stepStarts
  split
  case isFalse => exact h
  case isTrue inFrame =>
    obtain ⟨⟨within, held, grants⟩, ⟨ceiling, sweep, most, shadow, current, unheld, -, -⟩, zero⟩ := h
    have sameCurrent : ∀ k q, Part.heaterCurrent (beginStep k q) = Part.heaterCurrent q := by
      simp [Part.heaterCurrent]
    refine ⟨?_, ?_, ?_⟩
    · simpa [GrantInv, sameCurrent] using ⟨within, held, grants⟩
    · simp only [DutyInv, beginStep_heat, sameCurrent, beginStep_keeps, advanceTo_keeps]
      refine ⟨ceiling, sweep, most, shadow, current, unheld, by omega, fun on => ?_⟩
      have on := of_decide_eq_true on
      exact ⟨if_pos on, on⟩
    · intro zeroed
      simp only [beginStep_heat, beginStep_keeps, advanceTo_keeps] at zeroed ⊢
      obtain ⟨ga, duty, shadow, -⟩ := zero zeroed
      exact ⟨ga, duty, shadow, by simp [duty]⟩

/-- The grant that a boundary takes is within A and Ih, and 0 in a state without grant (R56, R57). -/
theorem grantNow_within (p : Part) : Part.grantNow p ≤ Part.availableNow p
    ∧ Part.grantNow p ≤ (Part.heaterCurrent p).getD 0 ∧ (zeroGrantState p.bay.state = true → Part.grantNow p = 0) := by
  obtain ⟨stepped, current, a⟩ := grantLimited_le (p.share.mutedHeld || p.share.overflowHeld)
    (quietAllowance (Part.availableNow p)) (Part.heaterCurrent p) (Part.availableNow p) p.share.halvingDue
    (Part.steppedNow p)
  refine ⟨a, current, fun none_ => Nat.le_zero.mp (stepped.trans_eq ?_)⟩
  exact if_pos (by simp [Part.grantsZero, none_])

/-- A boundary takes grant and duty anew (R56 to R59, R75, R76). -/
theorem boundary_heaterInvs (p : Part) : HeaterInvs (boundary p) := by
  have bay : (frameOpened p).bay = p.bay := (frameOpened_unchanged p .bay (by simp)).symm
  have current : Part.heaterCurrent (boundary p) = Part.heaterCurrent (frameOpened p) := by
    simp [Part.heaterCurrent, bay]
  obtain ⟨-, ceiling⟩ := frameOpened_heat p
  obtain ⟨within, held, grants⟩ := grantNow_within (frameOpened p)
  obtain ⟨most, mean⟩ := dutyOf_le (Part.heaterCurrent (frameOpened p)) (Part.grantNow (frameOpened p))
    (frameOpened p).heat.ceiling
  refine ⟨?_, ?_, fun zeroed => ?_⟩
  · simp only [GrantInv, current, boundary_share, boundary_keeps]
    exact ⟨within, held, by rwa [bay] at grants⟩
  · simp only [DutyInv, current, boundary_share, boundary_heat]
    refine ⟨?_, fun runs => ?_, most, trivial, mean, fun none_ => ?_, by omega, fun on => ?_⟩
    · rw [ceiling]
      split <;> simp
    · rw [ceiling, if_pos runs]
    · simp [Part.dutyNow, none_, dutyOf]
    · have on := of_decide_eq_true on
      exact ⟨if_pos on, on⟩
  · simp [boundary_share] at zeroed

/-- Every effect keeps the invariants of the heater. -/
theorem effect_keeps_heaterInvs (c : Instr) {p : Part} (h : HeaterInvs p) : HeaterInvs (effect c p) := by
  cases begins : beginsStep c with
  | false => exact h.of_noHotter (effect_noHotter c p begins)
  | true =>
    cases c with
    | heatFrameBoundary => exact boundary_heaterInvs p
    | stepStart => exact stepStarts_keeps_heaterInvs h
    | _ => cases begins

theorem started_heaterInvs (straps : Straps) : HeaterInvs (Part.started straps) := by
  have initial : ∀ p, AllInvariants p → HeaterInvs p := fun _ ⟨_, _, _, _, grant, duty, zero, _⟩ => ⟨grant, duty, zero⟩
  unfold Part.started
  split
  · exact initial _ (allInvariants_initial _)
  · exact initial _ (allInvariants_strapFault _)

/-- An inactive part drives no heater (R1). -/
theorem inactive_keeps_heaterInvs {p : Part} (h : HeaterInvs p) : HeaterInvs (Part.inactive p) := by
  obtain ⟨grant, ⟨ceiling, sweep, most, shadow, current, unheld, step, -⟩, zero⟩ := h
  refine ⟨grant, ⟨ceiling, sweep, most, shadow, current, unheld, step, fun on => by cases on⟩, fun zeroed => ?_⟩
  obtain ⟨ga, duty, shadow, -⟩ := zero zeroed
  exact ⟨ga, duty, shadow, rfl⟩

/-- Settles O56. -/
theorem everyStepKeepsTheHeaterWithinItsGrant : Obligations.EveryStepKeepsTheHeaterWithinItsGrant := by
  intro s t hs h
  refine step_keeps (I := HeaterInvs) (fun p hp => ?_) started_heaterInvs (fun _ hp => inactive_keeps_heaterInvs hp)
    (fun c p _ hp => effect_keeps_heaterInvs c hp) hs h
  unfold Part.tick
  split <;> exact hp

/-! ## The rise of the grant -/

/-- No command but a boundary raises the grant. -/
theorem after_ga_le (c : Instr) (p : Part) (h : c ≠ .heatFrameBoundary) : (Part.after c p).share.ga ≤ p.share.ga := by
  have acts : (effect c p).share.ga ≤ p.share.ga := by
    cases begins : beginsStep c with
    | false => exact (effect_noHotter c p begins).ga_le
    | true =>
      cases c with
      | heatFrameBoundary => exact absurd rfl h
      | stepStart => simp [effect]
      | _ => cases begins
  unfold Part.after
  split
  · have started : ∀ straps, (Part.started straps).share.ga = 0 := by
      intro straps
      unfold Part.started
      split <;> rfl
    exact (started _).trans_le (Nat.zero_le _)
  · exact le_rfl
  · split
    · exact acts
    · exact le_rfl

theorem claimSettled_iff (claim : Option Moment) (t : Moment) :
    claimSettled claim t = true ↔ ∃ c, claim = some c ∧ c + 20000000 ≤ t := by
  cases claim with
  | none => simp [claimSettled]
  | some c => exact decide_eq_true_iff.trans (by simp [claimPeriod])

theorem claimAfterLatch_some {claim : Option Moment} {before now : Nat} {t : Moment}
    (h : claimAfterLatch claim before now = some t) : now = before ∧ claim = some t := by
  unfold claimAfterLatch at h
  split at h
  · next same => exact ⟨same, h⟩
  · cases h

/-- A boundary that raises the grant finds no lock, no zero held and a settled claim on the demand as latched (R56, R67). -/
theorem boundary_rises {p : Part} (rises : p.share.ga < (boundary p).share.ga) :
    p.share.shedLock = none ∧ p.share.zeroed = false ∧ p.plan.demand = p.share.demand
      ∧ ∃ t, p.share.claim = some t ∧ t + 20000000 ≤ p.heat.frameStart + 8000000 := by
  have share : (frameOpened p).share = p.share := (frameOpened_unchanged p .share (by simp)).symm
  have plan : (frameOpened p).plan = p.plan := (frameOpened_unchanged p .plan (by simp)).symm
  have stepped : (frameOpened p).share.ga < Part.steppedNow (frameOpened p) := by
    rw [share]
    have taken : (boundary p).share.ga = Part.grantNow (frameOpened p) := by simp [boundary_share]
    exact lt_of_lt_of_le (rises.trans_eq taken) (grantLimited_le ..).1
  obtain ⟨grants, unlocked, settled⟩ := grantAfterTarget_rises stepped
  obtain ⟨t, claim, old⟩ := (claimSettled_iff _ _).mp settled
  obtain ⟨demand, claim⟩ := claimAfterLatch_some claim
  rw [share] at unlocked demand claim
  rw [plan] at demand
  rw [(frameOpened_heat p).1] at old
  simp only [Part.grantsZero, share, Bool.or_eq_false_iff] at grants
  exact ⟨by simpa using unlocked, grants.2, demand, t, claim, old⟩

/-- Settles O21: no effect but a boundary's heats more, and a boundary raises the grant by the last case of R56 alone. -/
theorem grantRisesOnlyUnderASettledClaim : Obligations.GrantRisesOnlyUnderASettledClaim := by
  intro s c q done rises
  rw [exec_eq] at done
  obtain rfl : Part.after c s.part = q := congrArg State.part (Host.Outcome.next.inj done)
  by_cases at_ : c = .heatFrameBoundary
  · subst at_
    refine ⟨rfl, boundary_rises ?_⟩
    by_cases mode : s.part.mode = .normal
    · simpa only [Part.after, if_pos mode, effect] using rises
    · simp [Part.after, mode] at rises
  · exact absurd rises (Nat.not_lt.mpr (after_ga_le c s.part at_))

end Sys2Proof.Machine
end

section
/-! Chapter 4: SHED_FRAME (R64). -/

namespace Sys2Proof.Machine

/-- What a SHED of the own group does to the share unit (R64). -/
theorem takeShed_own {b : ShedPayload} {p : Part} (own : b.group.toNat % 4 = p.latch.group) : takeShed b p = lockShed p :=
  if_pos own

theorem takeShed_other {b : ShedPayload} {p : Part} (other : b.group.toNat % 4 ≠ p.latch.group) : takeShed b p = p :=
  if_neg other

/-- Settles O22. -/
theorem shedFrameStartsOrRestartsTheLock : Obligations.ShedFrameStartsOrRestartsTheLock := by
  intro s n b mode first last other
  refine completes_normal mode (by simp) (by simp) ?_
  rw [effect, receive_fromBayPost first last other]
  by_cases own : b.group.toNat % 4 = s.part.latch.group
  · rw [takeShed_own (p := frameEnds _ s.part) own]
    refine ⟨by simp, by simp, fun _ => rfl, fun not => absurd own not, fun blk hb => ?_⟩
    cases blk <;> simp_all [agreeOn]
  · rw [takeShed_other (p := frameEnds _ s.part) own]
    refine ⟨by simp, by simp, fun yes => absurd yes own, fun _ => rfl, fun blk hb => ?_⟩
    cases blk <;> simp_all [agreeOn]

end Sys2Proof.Machine
end

section
/-! Chapter 4: the contender list and the division of the available current (R50, R51). -/

namespace Sys2Proof.Machine

/-! ## The order of the contenders (R50) -/

theorem contender_before_iff (a b : Contender) : Contender.before a b = true
    ↔ b.urgency < a.urgency ∨ (a.urgency = b.urgency ∧ a.station < b.station) := by
  simp [Contender.before]

theorem contender_before_trans {a b c : Contender} (hab : Contender.before a b = true)
    (hbc : Contender.before b c = true) : Contender.before a c = true := by
  rw [contender_before_iff] at *
  omega

/-- Of two contenders of different stations one stands before the other. -/
theorem contender_before_of_not {a b : Contender} (other : a.station ≠ b.station) (h : ¬Contender.before a b = true) :
    Contender.before b a = true := by
  rw [contender_before_iff] at *
  omega

theorem mem_insertContender (c x : Contender) (cs : List Contender) : x ∈ insertContender c cs ↔ x = c ∨ x ∈ cs := by
  induction cs with
  | nil => simp [insertContender]
  | cons d ds ih =>
    unfold insertContender
    split
    · simp
    · simp [ih, or_left_comm]

theorem mem_orderContenders (x : Contender) (cs : List Contender) : x ∈ orderContenders cs ↔ x ∈ cs := by
  induction cs with
  | nil => rfl
  | cons c cs ih => simp [orderContenders, mem_insertContender, ih]

/-- A contender of a station that the list does not hold finds its place in the order. -/
theorem insertContender_pairwise {c : Contender} {cs : List Contender} (new : ∀ x ∈ cs, c.station ≠ x.station)
    (ordered : cs.Pairwise fun a b => Contender.before a b = true) :
    (insertContender c cs).Pairwise fun a b => Contender.before a b = true := by
  induction cs with
  | nil => simp [insertContender]
  | cons d ds ih =>
    obtain ⟨first, rest⟩ := List.pairwise_cons.mp ordered
    unfold insertContender
    split
    case isTrue before =>
      refine List.pairwise_cons.mpr ⟨fun x hx => ?_, ordered⟩
      obtain rfl | hx := List.mem_cons.mp hx
      · exact before
      · exact contender_before_trans before (first x hx)
    case isFalse after =>
      refine List.pairwise_cons.mpr ⟨fun x hx => ?_, ih (fun x hx => new x (List.mem_cons_of_mem _ hx)) rest⟩
      obtain rfl | hx := (mem_insertContender c x ds).mp hx
      · exact contender_before_of_not (new d List.mem_cons_self) after
      · exact first x hx

theorem orderContenders_pairwise {cs : List Contender} (stations : cs.Pairwise fun a b => a.station ≠ b.station) :
    (orderContenders cs).Pairwise fun a b => Contender.before a b = true := by
  induction cs with
  | nil => exact List.Pairwise.nil
  | cons c cs ih =>
    obtain ⟨new, rest⟩ := List.pairwise_cons.mp stations
    exact insertContender_pairwise (fun x hx => new x ((mem_orderContenders x cs).mp hx)) (ih rest)

/-- The contender that an entry stands for, where its load is present with a demand above 0 (R42). -/
def Peer.contender (e : Peer) : Option Contender :=
  e.load.bind fun l =>
    if 0 < l.demand then some { station := e.station, demand := l.demand, urgency := l.urgency } else none

theorem contender_eq_some_iff (e : Peer) (c : Contender) : Peer.contender e = some c ↔
    ∃ l, e.load = some l ∧ 0 < l.demand ∧ c = { station := e.station, demand := l.demand, urgency := l.urgency } := by
  simp only [Peer.contender, Option.bind_eq_some_iff, Option.ite_none_right_eq_some, Option.some.injEq, eq_comm (b := c)]

theorem peerContenders_eq (p : Part) : Part.peerContenders p = (Part.groupPeers p).filterMap Peer.contender := by
  refine congrArg (List.filterMap · _) (funext fun e => ?_)
  unfold Peer.contender
  cases e.load <;> rfl

/-- The peer contenders are the LIVE entries of the own group with a demand above 0 (R42). -/
theorem mem_peerContenders (p : Part) (c : Contender) : c ∈ Part.peerContenders p ↔
    ∃ e ∈ p.peers.entries, ∃ l, e.status = .live ∧ e.group = p.latch.group ∧ e.load = some l ∧ 0 < l.demand
      ∧ c = { station := e.station, demand := l.demand, urgency := l.urgency } := by
  simp only [peerContenders_eq, List.mem_filterMap, mem_groupPeers, contender_eq_some_iff]
  constructor
  · rintro ⟨e, ⟨he, live, group⟩, l, load, demand, same⟩
    exact ⟨e, he, l, live, group, load, demand, same⟩
  · rintro ⟨e, he, l, live, group, load, demand, same⟩
    exact ⟨e, ⟨he, live, group⟩, l, load, demand, same⟩

/-- Peer contenders stand in the order of the table, by station number. -/
theorem peerContenders_rising {p : Part} (h : Rising p.peers.entries) :
    (Part.peerContenders p).Pairwise fun a b => a.station < b.station := by
  rw [peerContenders_eq, List.pairwise_filterMap]
  refine (h.filter _).imp fun {e f} below c hc d hd => ?_
  obtain ⟨-, -, -, rfl⟩ := (contender_eq_some_iff e c).mp hc
  obtain ⟨-, -, -, rfl⟩ := (contender_eq_some_iff f d).mp hd
  exact below

/-- No two contenders share a station number (R50). -/
theorem contenders_distinct {p : Part} (h : PeerInv p) {own : List Contender}
    (owned : own = [] ∨ ∃ c : Contender, own = [c] ∧ c.station = p.latch.station) :
    (own ++ Part.peerContenders p).Pairwise fun a b => a.station ≠ b.station := by
  obtain ⟨-, rising, admitted, -⟩ := h
  have peers : (Part.peerContenders p).Pairwise fun a b => a.station ≠ b.station :=
    (peerContenders_rising ((rising_iff _).mp rising)).imp Nat.ne_of_lt
  obtain rfl | ⟨c, rfl, station⟩ := owned
  · exact peers
  · refine List.pairwise_cons.mpr ⟨fun d hd => ?_, peers⟩
    obtain ⟨e, he, -, -, -, -, -, rfl⟩ := (mem_peerContenders p d).mp hd
    rw [station]
    exact (admitted e he).2.1.symm

/-! ## The division (R51) -/

theorem waterFill_here (a : Nat) (c : Contender) (cs : List Contender) :
    waterFill c.station a (c :: cs) = min c.demand a := by
  simp [waterFill]

theorem waterFill_further {n : Nat} {c : Contender} (a : Nat) (cs : List Contender) (other : c.station ≠ n) :
    waterFill n a (c :: cs) = waterFill n (a - c.demand) cs := by
  have left : a - min c.demand a = a - c.demand := by omega
  simp [waterFill, other, left]

theorem waterFill_share {a : Nat} {before after : List Contender} {c : Contender}
    (other : ∀ d ∈ before, d.station ≠ c.station) :
    waterFill c.station a (before ++ c :: after) = min c.demand (a - (before.map (·.demand)).sum) := by
  induction before generalizing a with
  | nil => exact waterFill_here a c after
  | cons d ds ih =>
    rw [List.cons_append, waterFill_further _ _ (other d List.mem_cons_self),
      ih fun x hx => other x (List.mem_cons_of_mem _ hx), List.map_cons, List.sum_cons, Nat.sub_sub]

theorem waterFill_noContender {n : Nat} (a : Nat) {cs : List Contender} (h : n ∉ cs.map (·.station)) :
    waterFill n a cs = 0 := by
  induction cs generalizing a with
  | nil => rfl
  | cons c cs ih =>
    simp only [List.map_cons, List.mem_cons, not_or] at h
    rw [waterFill_further _ _ (Ne.symm h.1), ih _ h.2]

theorem waterFill_sum (a : Nat) {cs : List Contender} (stations : (cs.map (·.station)).Nodup) :
    (cs.map fun c => waterFill c.station a cs).sum = min a (cs.map (·.demand)).sum := by
  induction cs generalizing a with
  | nil => simp
  | cons c cs ih =>
    obtain ⟨new, rest⟩ := List.nodup_cons.mp stations
    have further : cs.map (fun x => waterFill x.station a (c :: cs))
        = cs.map fun x => waterFill x.station (a - c.demand) cs := by
      refine List.map_congr_left fun x hx => waterFill_further a cs fun same => new ?_
      show c.station ∈ cs.map (·.station)
      rw [same]
      exact List.mem_map_of_mem hx
    rw [List.map_cons, List.sum_cons, waterFill_here, further, ih _ rest, List.map_cons, List.sum_cons]
    omega

/-- Settles O19. -/
theorem contendersShareTheCurrent : Obligations.ContendersShareTheCurrent := by
  refine ⟨fun p demand urgency h => ⟨fun c => ?_, ?_⟩, fun a cs stations => ⟨?_, ?_, waterFill_sum a stations⟩⟩
  · rw [Part.contenderList, mem_orderContenders, List.mem_append, mem_peerContenders]
    split <;> simp [*]
  · refine (orderContenders_pairwise (contenders_distinct h ?_)).imp fun {a b} => (contender_before_iff a b).mp
    split
    · exact .inr ⟨_, rfl, rfl⟩
    · exact .inl rfl
  · rintro before c after rfl
    rw [List.map_append, List.map_cons, List.nodup_append] at stations
    obtain ⟨-, -, apart⟩ := stations
    exact waterFill_share fun d hd => apart _ (List.mem_map_of_mem hd) _ List.mem_cons_self
  · exact fun n => waterFill_noContender a

end Sys2Proof.Machine
end

section
/-! Chapter 4: the grant step at the boundary (R49 to R63). -/

namespace Sys2Proof.Machine

/-! ## The shed check of a boundary -/

/-- A detection starts or restarts the lock, and a start makes a halving due and raises SHED (R63). -/
theorem shedCheck_detection {p : Part} (exceeds : Part.feederLimitInUse p < Part.observedSum p) :
    (shedCheck p).share.shedLock = some (p.osc + 60000000)
      ∧ (shedCheck p).share.halvingDue = (p.share.halvingDue || p.share.shedLock.isNone)
      ∧ (shedCheck p).line = Line.raised .shed p.share.shedLock.isNone p.line := by
  unfold shedCheck lockShed
  rw [if_pos exceeds]
  cases lock : p.share.shedLock with
  | none => simp [lock, raise_eq_raised, shedLockPeriod]
  | some t => simp [lock, Line.raised, shedLockPeriod]

theorem shedCheck_within {p : Part} (within : Part.observedSum p ≤ Part.feederLimitInUse p) : shedCheck p = p :=
  if_neg (Nat.not_lt.mpr within)

/-- The observed sum reads the latch, the peer table and the own draw (R62). -/
theorem observedSum_congr {p q : Part} (latch : q.latch = p.latch) (peers : q.peers = p.peers)
    (draw : q.share.draw = p.share.draw) : Part.observedSum q = Part.observedSum p := by
  simp only [Part.observedSum, Part.peerDraws, latch, peers, draw]

/-- The shed check of a boundary finds the lock of `p` and no halving due (R58, R63): a sum within the limit in use keeps the lock,
one above it starts or restarts it; a start makes a halving due and raises SHED. -/
theorem boundary_shed (p : Part) :
    (Part.observedSum (boundary p) ≤ Part.feederLimitInUse p →
        (boundary p).share.shedLock = p.share.shedLock ∧ (boundary p).share.halvingDue = false)
      ∧ (Part.feederLimitInUse p < Part.observedSum (boundary p) →
        (boundary p).share.shedLock = some ((boundary p).osc + 60000000)
          ∧ (boundary p).share.halvingDue = p.share.shedLock.isNone)
      ∧ (boundary p).line = Line.raised .shed
          (decide (Part.feederLimitInUse p < Part.observedSum (boundary p)) && p.share.shedLock.isNone)
          (Line.raised .load (decide (Part.loadChanges (frameOpened p))) p.line) := by
  obtain ⟨latch, peers, share, line⟩ : (frameOpened p).latch = p.latch ∧ (frameOpened p).peers = p.peers
      ∧ (frameOpened p).share = p.share ∧ (frameOpened p).line = p.line :=
    ⟨(frameOpened_unchanged p .latch (by simp)).symm, (frameOpened_unchanged p .peers (by simp)).symm,
      (frameOpened_unchanged p .share (by simp)).symm, (frameOpened_unchanged p .line (by simp)).symm⟩
  have limit : Part.feederLimitInUse (grantStep (frameOpened p)) = Part.feederLimitInUse p :=
    feederLimitInUse_congr (by simp [grantStep_eq, latch]) (by simp [grantStep_eq, peers])
  have sum : Part.observedSum (grantStep (frameOpened p)) = Part.observedSum (boundary p) :=
    (observedSum_congr (by simp [grantStep_eq, latch]) (by simp [grantStep_eq, peers])
      (by simp [boundary_share, grantStep_eq]))
  obtain ⟨lock, halving, sent, osc⟩ :
      (boundary p).share.shedLock = (shedCheck (grantStep (frameOpened p))).share.shedLock
        ∧ (boundary p).share.halvingDue = (shedCheck (grantStep (frameOpened p))).share.halvingDue
        ∧ (boundary p).line = (shedCheck (grantStep (frameOpened p))).line
        ∧ (boundary p).osc = (grantStep (frameOpened p)).osc := by
    simp [boundary_eq, dutyInForce]
  rw [lock, halving, sent, osc, ← sum, ← limit]
  rcases Nat.lt_or_ge (Part.feederLimitInUse (grantStep (frameOpened p)))
    (Part.observedSum (grantStep (frameOpened p))) with exceeds | within
  · obtain ⟨lock, halving, sent⟩ := shedCheck_detection exceeds
    refine ⟨fun within => absurd exceeds (Nat.not_lt.mpr within), fun _ => ⟨lock, halving.trans ?_⟩, sent.trans ?_⟩
    · simp [grantStep_eq, share]
    · rw [decide_eq_true exceeds]
      simp [grantStep_eq, share, line]
  · rw [shedCheck_within within]
    refine ⟨fun _ => ?_, fun exceeds => absurd exceeds (Nat.not_lt.mpr within), ?_⟩
    · simp [grantStep_eq, share]
    · rw [decide_eq_false (Nat.not_lt.mpr within)]
      simp [grantStep_eq, line, Line.raised]

/-! ## What the grant step of a boundary reads -/

/-- The opening of a frame leaves what the grant step reads, but for the frame's start and ceiling. -/
theorem frameOpened_reads (p : Part) :
    Part.availableNow (frameOpened p) = available (Part.feederLimitInUse p)
      ∧ Part.heaterCurrent (frameOpened p) = Part.heaterCurrent p
      ∧ Part.claimNow (frameOpened p) = Part.claimNow p ∧ Part.targetNow (frameOpened p) = Part.targetNow p
      ∧ Part.grantsZero (frameOpened p) = Part.grantsZero p
      ∧ Part.freeRoom (frameOpened p) = Part.freeRoom p
      ∧ (frameOpened p).share = p.share ∧ (frameOpened p).plan = p.plan := by
  obtain ⟨latch, peers, share, plan, bay⟩ : (frameOpened p).latch = p.latch ∧ (frameOpened p).peers = p.peers
      ∧ (frameOpened p).share = p.share ∧ (frameOpened p).plan = p.plan ∧ (frameOpened p).bay = p.bay :=
    ⟨(frameOpened_unchanged p .latch (by simp)).symm, (frameOpened_unchanged p .peers (by simp)).symm,
      (frameOpened_unchanged p .share (by simp)).symm, (frameOpened_unchanged p .plan (by simp)).symm,
      (frameOpened_unchanged p .bay (by simp)).symm⟩
  have limit : Part.feederLimitInUse (frameOpened p) = Part.feederLimitInUse p :=
    feederLimitInUse_congr latch (congrArg _ peers)
  refine ⟨congrArg available limit, ?_, ?_, ?_, ?_, ?_, share, plan⟩
  · simp only [Part.heaterCurrent, bay]
  · simp only [Part.claimNow, share, plan]
  · simp only [Part.targetNow, Part.availableNow, Part.contenderList, Part.peerContenders, Part.groupPeers, limit, latch,
      peers, plan]
  · simp only [Part.grantsZero, share, bay]
  · funext a
    simp only [Part.freeRoom, Part.peerDraws, share, latch, peers]

/-! ## The arithmetic of the grant, in the words of the statement -/

theorem grantsZero_iff (p : Part) : Part.grantsZero p = true ↔ p.bay.state = .empty ∨ p.bay.state = .coupled
    ∨ p.bay.state = .cleared ∨ p.share.zeroed = true := by
  unfold Part.grantsZero
  cases p.bay.state <;> simp [zeroGrantState]

/-- The four cases of step 2 (R56). -/
theorem grantAfterTarget_cases {zero locked settled : Bool} {g ga gt : Nat} {room : Int}
    (stepped : g = grantAfterTarget zero locked settled ga gt room) :
    (zero = true → g = 0)
      ∧ (¬zero = true → gt ≤ ga → g = gt)
      ∧ (¬zero = true → ga < gt → locked = true ∨ ¬settled = true → g = ga)
      ∧ (¬zero = true → ga < gt → locked = false → settled = true → g = ga + min (gt - ga) (max room 0).toNat) := by
  have floor : (max room 0).toNat = room.toNat := by omega
  unfold grantAfterTarget at stepped
  rw [floor]
  refine ⟨fun z => stepped.trans (if_pos z), fun z below => ?_, fun z above held => ?_,
    fun z above unlocked settles => ?_⟩
  · rw [stepped, if_neg z, if_pos below]
  · rw [stepped, if_neg z, if_neg (Nat.not_le.mpr above)]
    rcases held with locks | unsettled
    · rw [if_pos locks]
    · simp [unsettled]
  · rw [stepped, if_neg z, if_neg (Nat.not_le.mpr above), unlocked, settles]
    rfl

/-- The four cases of steps 3 to 5 (R57, R58). -/
theorem grantLimited_cases {muted overflow halving : Bool} {q a g ga : Nat} {ih : Option Nat}
    (limited : ga = grantLimited (muted || overflow) q ih a halving g) :
    (muted = false → overflow = false → halving = false → ga = min g (min (ih.getD 0) a))
      ∧ (muted = true ∨ overflow = true → halving = false → ga = min (min g q) (min (ih.getD 0) a))
      ∧ (muted = false → overflow = false → halving = true → ga = min g (min (ih.getD 0) a) / 2)
      ∧ (muted = true ∨ overflow = true → halving = true → ga = min (min g q) (min (ih.getD 0) a) / 2) := by
  rw [← Bool.or_eq_true, limited]
  refine ⟨fun m o h => ?_, fun held h => ?_, fun m o h => ?_, fun held h => ?_⟩
  · rw [m, o, h]; rfl
  · rw [held, h]; rfl
  · rw [m, o, h]; rfl
  · rw [held, h]; rfl

/-- The reported draw in one formula (R59). -/
theorem reportedDraw_eq (ih : Option Nat) (duty : Nat) : reportedDraw ih duty = (ih.getD 0 * duty + 63) / 64 := by
  cases ih with
  | none => simp [reportedDraw]
  | some i => rfl

/-- The reported draw of a frame is within its grant (R59). -/
theorem drawNow_le (p : Part) : Part.drawNow p ≤ Part.grantNow p := by
  have mean := (dutyOf_le (Part.heaterCurrent p) (Part.grantNow p) p.heat.ceiling).2
  rw [Nat.mul_comm] at mean
  rw [Part.drawNow, reportedDraw_eq, Part.dutyNow]
  omega

/-! ## The grant step of a boundary -/

/-- What step 2 of a boundary reads of the part before it (R56). -/
theorem boundary_stepped (p : Part) : Part.steppedNow (frameOpened p)
    = grantAfterTarget (Part.grantsZero p) p.share.shedLock.isSome
        (claimSettled (Part.claimNow p) (p.heat.frameStart + 8000000)) p.share.ga (boundary p).share.gt
        (Part.freeRoom p (available (Part.feederLimitInUse p))) := by
  obtain ⟨a, -, claim, -, zero, room, share, -⟩ := frameOpened_reads p
  simp only [boundary_share, Part.steppedNow, a, claim, zero, room, share, frameOpened_heat]

/-- What steps 3 to 5 of a boundary read of the part before it (R57, R58). -/
theorem boundary_limited (p : Part) : (boundary p).share.ga
    = grantLimited (p.share.mutedHeld || p.share.overflowHeld) (available (Part.feederLimitInUse p) / 16)
        (Part.heaterCurrent p) (available (Part.feederLimitInUse p)) p.share.halvingDue
        (Part.steppedNow (frameOpened p)) := by
  obtain ⟨a, ih, -, -, -, -, share, -⟩ := frameOpened_reads p
  simp only [boundary_share, Part.grantNow, a, ih, share]
  rfl

/-- Settles O20. -/
theorem grantStepAtTheBoundary : Obligations.GrantStepAtTheBoundary := by
  rintro s _ _ _ _ _ zero settled mode rfl rfl rfl rfl rfl settles zeros
  refine completes_normal mode (by simp) (by simp) ?_
  rw [effect]
  obtain ⟨a, ih, claim, target, -, -, share, plan⟩ := frameOpened_reads s.part
  obtain ⟨within, detected, sent⟩ := boundary_shed s.part
  have zeros : zero ↔ Part.grantsZero s.part = true := zeros.trans (grantsZero_iff s.part).symm
  have settles : settled ↔ claimSettled (Part.claimNow s.part) (s.part.heat.frameStart + 8000000) = true :=
    settles.trans (claimSettled_iff _ _).symm
  obtain ⟨none_, falls, kept, rises⟩ := grantAfterTarget_cases (boundary_stepped s.part)
  rw [← zeros] at none_ falls kept rises
  rw [← settles] at kept rises
  have limits := grantLimited_cases (boundary_limited s.part)
  have drawn : (boundary s.part).share.draw = Part.drawNow (frameOpened s.part) := by simp only [boundary_share]
  have granted : (boundary s.part).share.ga = Part.grantNow (frameOpened s.part) := by simp only [boundary_share]
  refine ⟨?inForce, ?allowance, ?demand, ?urgency, ?mode, ?claim, ?target,
    ⟨Part.steppedNow (frameOpened s.part), none_, falls, kept,
      fun z above unlocked => rises z above (by rw [unlocked]; rfl), limits⟩,
    ?duty, ?draw, ?most, ?zeroed, ?muted, ?overflow, within, detected, ?line⟩
  case inForce => simp only [boundary_share, a]; rfl
  case allowance => simp only [boundary_share, a]; rfl
  case demand => simp only [boundary_share, plan]
  case urgency => simp only [boundary_share, plan]
  case mode => simp only [boundary_share, plan]
  case claim => simp only [boundary_share, claim]; rfl
  case target => simp only [boundary_share, target]; rfl
  case duty => rw [granted, ← ih, ← dutyOf_eq, boundary_heat]; rfl
  case draw => rw [drawn, ← ih, Part.drawNow, reportedDraw_eq, boundary_heat]
  case most => exact drawn.trans_le ((drawNow_le _).trans_eq granted.symm)
  case zeroed => simp only [boundary_share]
  case muted => simp only [boundary_share, share]
  case overflow => simp only [boundary_share, share]
  case line => rw [sent, drawn, ← share, ← plan]

end Sys2Proof.Machine
end

section
/-! COUPLE_SENSE_RISE and DECOUPLE (R131, R132, R176): the clearing of the other blocks and the tearing down of the bay. -/

namespace Sys2Proof.Machine

/-! ## The clearing of the other blocks -/

/-- Lamp table and sweep take their start-up values (R142, R143), and the fault list and its remark (R167). -/
theorem clearBlocks_emptied (p : Part) :
    (clearBlocks p).sweep = {} ∧ (clearBlocks p).lamps = clearedLamps ∧ (clearBlocks p).faults = {}
      ∧ (clearBlocks p).remarks.faultsTruncated = false := by
  refine ⟨by simp [clearBlocks, clearFaults, clearSweep], by simp [clearBlocks, clearSweep],
    by simp [clearBlocks, clearFaults], ?_⟩
  exact setRemark_get .faultsTruncated false _

/-- The CABIN channel is reset and every mark removed; chain and OUTSIDE channel stay (R96, R98). -/
theorem clearBlocks_measure (p : Part) :
    (clearBlocks p).measure.cabin = {} ∧ (clearBlocks p).measure.marks = []
      ∧ (clearBlocks p).measure.outside = p.measure.outside ∧ (clearBlocks p).measure.chain = p.measure.chain := by
  have aborted : ∀ q : Part, (sweepAbort false q).measure.outside = q.measure.outside
      ∧ (sweepAbort false q).measure.chain = q.measure.chain := by
    intro q
    unfold sweepAbort
    split <;> simp
  simp [clearBlocks, clearSweep, aborted]

/-- Emptying a slot of a link whose slots are empty is no change. -/
theorem put_none_of_empty {l : Link} (who : Requester) (slots : l.slots = {}) :
    { l with slots := Slots.put l.slots who none } = l := by
  have same : Slots.put l.slots who none = l.slots := by rw [slots]; cases who <;> rfl
  rw [same]

/-- With its slots empty the link is left as it is. -/
theorem clearBlocks_link {p : Part} (slots : p.link.slots = {}) : (clearBlocks p).link = p.link := by
  have aborted : (sweepAbort false (immediateZero p)).link = p.link := by
    unfold sweepAbort
    split
    · exact put_none_of_empty .sweep slots
    · simp
  have swept : (clearSweep (immediateZero p)).link = p.link := aborted
  have ended : (operationEnds (clearSweep (immediateZero p))).link = p.link :=
    (put_none_of_empty .faults (by rw [swept, slots])).trans swept
  simpa only [clearBlocks, clearFaults, resetCabin_keeps, setRemark_keeps] using ended

/-! ## The tearing down of the bay -/

/-- What a tearing down leaves of the other blocks (R67, R96, R142, R167). -/
theorem tearDown_blocks (p : Part) : (tearDown p).share = { p.share with ga := 0, zeroed := true }
    ∧ (tearDown p).heat.duty = 0 ∧ (tearDown p).heat.shadow = 0 ∧ (tearDown p).heat.pin = false
    ∧ (tearDown p).heat.step = p.heat.step ∧ (tearDown p).heat.phase = p.heat.phase
    ∧ (tearDown p).heat.ceiling = p.heat.ceiling
    ∧ (tearDown p).sweep = {} ∧ (tearDown p).lamps = clearedLamps ∧ (tearDown p).faults = {}
    ∧ (tearDown p).measure.cabin = {} ∧ (tearDown p).measure.outside = p.measure.outside
    ∧ (tearDown p).measure.owedCabin = false ∧ (tearDown p).measure.marks = []
    ∧ (tearDown p).measure.chain = p.measure.chain := by
  simp [tearDown, clearBlocks_emptied, clearBlocks_measure]

theorem tearDown_link {p : Part} (slots : p.link.slots = {}) : (tearDown p).link = p.link := by
  have forgotten : (forgetDeparted p).link.slots = {} := by simpa using slots
  simp [tearDown, clearBlocks_link forgotten]

theorem tearDown_remark (p : Part) : (tearDown p).remarks.faultsTruncated = false := by
  have kept := fun q => setBayState_remark .empty q .faultsTruncated (by simp) (by simp)
  simp only [tearDown, unplannedChirps_keeps]
  refine (kept _).trans ?_
  simp [Remarks.get, clearBlocks_emptied]

/-- The cache removes the coach that departed from CLEARED (R176). -/
theorem tearDown_entries_departed {p : Part} {d : Identity} (state : p.bay.state = .cleared)
    (identity : p.bay.identity = some d) :
    (tearDown p).cache.entries = p.cache.entries.filter fun x => x.coach != d.coach := by
  simp [tearDown, setBayState_entries, clearRecord, forgetDeparted, state, identity, removeRoster]

/-- From any other state it keeps its entries. -/
theorem tearDown_entries_kept {p : Part}
    (other : ∀ d, p.bay.state = .cleared → p.bay.identity = some d → False) :
    (tearDown p).cache.entries = p.cache.entries := by
  have forgotten : forgetDeparted p = p := by
    unfold forgetDeparted
    split
    · next d state identity => exact (other d state identity).elim
    · rfl
  simp [tearDown, setBayState_entries, clearRecord, forgotten]

/-- The end of a revocation reads the order handler alone (R193). -/
theorem revocationEnded_congr {final : JobOutcome} {own : List Job} {p w q : Part} (same : w.orders = p.orders)
    (ended : RevocationEnded final own w q) : RevocationEnded final own p q := by
  unfold RevocationEnded at ended ⊢
  rwa [same] at ended

theorem revocationEnd_dropped (final : JobOutcome) (limit : Nat) (p : Part) :
    (revocationEnd final limit p).orders.dropped = p.orders.dropped := by
  unfold revocationEnd queueJob
  split
  · rfl
  · dsimp only
    split
    · split <;> rfl
    · rfl

theorem tearDown_orders (p : Part) : RevocationEnded (.refused .wrongState) [] p (tearDown p)
    ∧ (tearDown p).orders.dropped = p.orders.dropped := by
  have kept : (cabinNotOwed (clearBlocks (forgetDeparted p))).orders = p.orders := by simp
  have ended : (tearDown p).orders
      = (revocationEnd (.refused .wrongState) jobLimit (cabinNotOwed (clearBlocks (forgetDeparted p)))).orders := by
    simp [tearDown, clearRecord]
  refine ⟨revocationEnded_congr kept (revocationEnd_ended _ [] _ _ ?_), ?_⟩
  · rw [ended, List.append_nil]
    rfl
  · rw [ended, revocationEnd_dropped, kept]

theorem tearDown_unchanged (p : Part) : unchangedExcept ([.share, .lamps, .orders] ++ bayBlocks) p (tearDown p) := by
  intro b hb
  cases b <;> simp_all [agreeOn, bayBlocks, tearDown]

/-! ## Couple sense -/

/-- What a couple sense that rises in EMPTY leaves of the part (R131, R132, R176). -/
theorem coupleRises_eq {p : Part} (low : p.bay.couple = false) (empty : p.bay.state = .empty) :
    coupleRises p = setBayState .coupled (linkStart { advanceTo firstCouple p with
      bay := { p.bay with couple := true, decoupleFlag := .none } }) :=
  if_pos ⟨low, empty⟩

/-- The part with couple sense absent and the link DOWN, its bay not yet torn down (R131). -/
def uncoupled (p : Part) : Part := linkDown { p with bay := { p.bay with couple := false } }

theorem uncoupled_unchanged (p : Part) : unchangedExcept [.bay, .link] p (uncoupled p) := by
  intro b hb
  cases b <;> simp_all [agreeOn, uncoupled]

theorem coupleFalls_eq {p : Part} (high : p.bay.couple = true) : coupleFalls p = tearDown (uncoupled p) := if_pos high

theorem decoupleFlagOf_eq (state : BayState) :
    decoupleFlagOf state = if state = .cleared then .departed else .unplanned := by
  cases state <;> rfl

/-- Settles O43. -/
theorem coupleSenseIsFollowed : Obligations.CoupleSenseIsFollowed := by
  constructor
  · intro s mode low empty
    refine completes_normal mode (by simp) (by simp) ?_
    rw [effect, coupleRises_eq low empty]
    refine ⟨by simp [firstCouple], by simp, by simp, by simp, by simp [linkStart], ?_, by simp [linkStart],
      by simp [linkStart], by simp [linkStart], fun down => ?_, fun b hb => ?_⟩
    · simp [linkStart, startTimerPeriod]
    · simp [linkStart, down]
    · cases b <;> simp_all [agreeOn, bayBlocks]
  · intro s mode high
    refine completes_normal mode (by simp) (by simp) ?_
    rw [effect, coupleFalls_eq high]
    obtain ⟨couple, state, identity, roster, reasons, window, readWatch, sweepWatch, windowWatch, lanePass, revocation,
      retry, clearance, flag, chirps⟩ := tearDown_record (uncoupled s.part)
    obtain ⟨share, duty, shadow, pin, step, phase, ceiling, sweep, lamps, faults, cabin, outside, owed, marks, chain⟩ :=
      tearDown_blocks (uncoupled s.part)
    obtain ⟨ended, dropped⟩ := tearDown_orders (uncoupled s.part)
    have link : (tearDown (uncoupled s.part)).link = { beat := s.part.link.beat } := tearDown_link rfl
    refine ⟨couple, state, identity, roster, reasons, window, readWatch, sweepWatch, windowWatch, lanePass, revocation,
      retry, clearance, flag.trans (decoupleFlagOf_eq _), chirps, share, duty, shadow, pin, step, phase, ceiling,
      by rw [link], by rw [link], by rw [link], by rw [link], by rw [link], by rw [link], by rw [link], by rw [link],
      sweep, lamps, faults, tearDown_remark _, cabin, outside, owed, marks, chain, ?_, ended, dropped,
      (uncoupled_unchanged s.part).trans (tearDown_unchanged _) (by decide) (List.Subset.refl _)⟩
    split
    · next state identity => exact tearDown_entries_departed state identity
    · next other => exact tearDown_entries_kept other

end Sys2Proof.Machine
end

section
/-! Chapters 5 and 6: STEP_START and the slot arbiter (R72, R75, R82, R87). -/

namespace Sys2Proof.Machine

/-! ## The slot arbiter -/

/-- A conversion that begins is the one in progress, and a temperature is no longer owed (R87). -/
theorem measure_begin_eq (m : Measure) (c : Conversion) : Measure.begin m c = { m with
    converting := some c
    owedCabin := m.owedCabin && some c != some .cabin
    owedOutside := m.owedOutside && some c != some .outside } := by
  cases c <;> simp [Measure.begin]

/-- A slot offered while a conversion is in progress passes idle (notes/assumptions/15). -/
theorem offerSlot_measure_idle {p : Part} (busy : p.measure.converting.isSome = true) :
    (offerSlot p).measure = p.measure := congrArg Part.measure (if_pos busy)

/-- A slot offered while none is in progress goes to the arbiter's choice (R82, R87). -/
theorem offerSlot_measure {p : Part} (free : p.measure.converting = none) : (offerSlot p).measure = { p.measure with
    converting := Part.slotFor p
    owedCabin := p.measure.owedCabin && Part.slotFor p != some .cabin
    owedOutside := p.measure.owedOutside && Part.slotFor p != some .outside } := by
  unfold offerSlot
  rw [free]
  cases Part.slotFor p with
  | none =>
    have kept : p.measure = { p.measure with converting := none } := by rw [← free]
    simpa [bne] using kept
  | some c => simp [measure_begin_eq]

/-- With no conversion under way the arbiter goes by what is due, owed and marked (R87). -/
theorem slotFor_eq {p : Part} (free : p.measure.converting = none) (ended : p.measure.ending = none) :
    Part.slotFor p = (if p.measure.selfTest = .refloPending then some .reflo
      else if p.measure.selfTest = .refhiPending then some (.refhi (p.measure.reflo.getD 0))
      else if p.measure.owedCabin ∧ p.bay.couple then some .cabin
      else if p.measure.owedOutside then some .outside
      else p.measure.marks.head?.map .lamp) := by
  have lamp : Measure.nextLamp p.measure = p.measure.marks.head? := by
    cases marks : p.measure.marks <;> simp [Measure.nextLamp, free, ended, marks]
  cases due : p.measure.selfTest with
  | refloPending => simp [Part.slotFor, Measure.selfTestSlot, due, ended]
  | refhiPending => simp [Part.slotFor, Measure.selfTestSlot, due, ended]
  | notDue => simp [Part.slotFor, Measure.selfTestSlot, due, lamp]

/-! ## The start of a step -/

/-- A step that is on offers no slot, and the slot of one that begins during a conversion passes idle (R75, R82). -/
theorem beginStep_measure_kept {k : Nat} {p : Part} (h : k < p.heat.duty ∨ p.measure.converting.isSome = true) :
    (beginStep k p).measure = p.measure := by
  unfold beginStep
  split
  case isTrue => rfl
  case isFalse off => exact offerSlot_measure_idle (h.resolve_left off)

/-- The slot of an off step goes to the arbiter's choice (R82, R87). -/
theorem beginStep_measure_offered {k : Nat} {p : Part} (off : p.heat.duty ≤ k) (free : p.measure.converting = none) :
    (beginStep k p).measure = { p.measure with
      converting := Part.slotFor p
      owedCabin := p.measure.owedCabin && Part.slotFor p != some .cabin
      owedOutside := p.measure.owedOutside && Part.slotFor p != some .outside } := by
  rw [beginStep, if_neg (Nat.not_lt.mpr off)]
  exact offerSlot_measure free

/-- The start of a step writes of the measurement unit the conversion in progress and what is owed (R87). -/
theorem beginStep_keeps_measure (k : Nat) (p : Part) : (beginStep k p).measure.chain = p.measure.chain
    ∧ (beginStep k p).measure.selfTest = p.measure.selfTest ∧ (beginStep k p).measure.reflo = p.measure.reflo
    ∧ (beginStep k p).measure.frames = p.measure.frames ∧ (beginStep k p).measure.cabin = p.measure.cabin
    ∧ (beginStep k p).measure.outside = p.measure.outside ∧ (beginStep k p).measure.ending = p.measure.ending
    ∧ (beginStep k p).measure.marks = p.measure.marks := by
  by_cases kept : k < p.heat.duty ∨ p.measure.converting.isSome = true
  · simp [beginStep_measure_kept kept]
  · obtain ⟨off, free⟩ := not_or.mp kept
    simp [beginStep_measure_offered (Nat.not_lt.mp off) (Option.not_isSome_iff_eq_none.mp free)]

theorem stepStarts_eq {p : Part} (inFrame : p.heat.step < 63) : stepStarts p
    = beginStep (p.heat.step + 1) (advanceTo (p.heat.frameStart + 125000 * (p.heat.step + 1)) p) := if_pos inFrame

/-- Settles O24: the step's phase by `beginStep_heat`, its slot by whether it is offered and what the arbiter gives it. -/
theorem stepStartIsOnBelowTheDuty : Obligations.StepStartIsOnBelowTheDuty := by
  rintro s _ mode inFrame rfl
  refine completes_normal mode (by simp) (by simp) ?_
  rw [effect, stepStarts_eq inFrame]
  refine ⟨by simp, beginStep_heat _ _, fun kept => beginStep_measure_kept kept, fun off free => ?_, fun b hb => ?_⟩
  · rw [beginStep_measure_offered (p := advanceTo _ s.part) off free]
    exact ⟨slotFor_eq free, rfl⟩
  · cases b <;> simp_all [agreeOn]

end Sys2Proof.Machine
end

section
/-! Chapters 5, 6 and 9: HEAT_FRAME_BOUNDARY, the accounting of the new frame (R73, R86 to R88, R94) and the start of a REQUESTED
sweep (R145, R146, R149). -/

namespace Sys2Proof.Machine

/-! ## The accounting of a frame -/

/-- Whether the accounting of a frame makes a self-test due (R86, R88). -/
abbrev Measure.becomesDue (m : Measure) (sweepStarts : Bool) : Prop :=
  m.chain ≠ .good ∨ 15 ≤ m.frames ∨ sweepStarts = true

/-- The accounting of a frame as one update of the measurement unit (R86, R88, R94). -/
theorem accounting_eq (couple sweepStarts : Bool) (m : Measure) : accounting couple sweepStarts m = { m with
    owedOutside := true, owedCabin := couple, cabin := Channel.age m.cabin, outside := Channel.age m.outside
    selfTest := if Measure.becomesDue m sweepStarts then .refloPending else m.selfTest
    reflo := if Measure.becomesDue m sweepStarts then none else m.reflo
    frames := if Measure.becomesDue m sweepStarts then 0 else m.frames + 1 } := by
  by_cases full : 15 ≤ m.frames
  · have due : Measure.becomesDue m sweepStarts := .inr (.inl full)
    simp [accounting, selfTestCheck, dueSelfTest, full, due]
  · by_cases forced : (sweepStarts || m.chain != .good) = true
    · have due : Measure.becomesDue m sweepStarts := by simpa [Measure.becomesDue, or_comm, full] using forced
      simp [accounting, selfTestCheck, full, forced, due, dueSelfTest]
    · have not_ : ¬Measure.becomesDue m sweepStarts := by simpa [Measure.becomesDue, and_comm, full] using forced
      simp [accounting, selfTestCheck, full, forced, not_]

/-- A conversion carried over leaves the place of the one in progress free (R99). -/
theorem carryOver_converting {m : Measure} (h : m.ending = none ∨ m.converting = none) :
    (Measure.carryOver m).converting = none := by
  unfold Measure.carryOver
  split
  case isTrue => rfl
  case isFalse carried => exact h.resolve_left fun none_ => carried (by simp [none_])

@[simp] theorem carryOver_keeps_measure (m : Measure) :
    (Measure.carryOver m).chain = m.chain ∧ (Measure.carryOver m).selfTest = m.selfTest
      ∧ (Measure.carryOver m).reflo = m.reflo ∧ (Measure.carryOver m).frames = m.frames
      ∧ (Measure.carryOver m).cabin = m.cabin ∧ (Measure.carryOver m).outside = m.outside := by
  unfold Measure.carryOver
  split <;> simp

/-! ## The start of a sweep -/

theorem lampsInFlight_iff (p : Part) :
    Part.lampsInFlight p = true ↔ ∃ f, p.link.inFlight = some f ∧ f.requester = .sweep := by
  unfold Part.lampsInFlight
  cases p.link.inFlight <;> simp

/-- The conditions of a start, the first that fails telling (R145). -/
theorem sweepBar_eq (p : Part) : Part.sweepBar p
    = (if p.bay.state = .releasing ∨ p.bay.state = .cleared then some .wrongState
      else if p.link.state ≠ .up then some .linkDown
      else if p.link.holdConfirmed = false then some .notHeld
      else if p.measure.chain ≠ .good then some .chainFault
      else none) := by
  have closed : closedToChecks p.bay.state = true ↔ p.bay.state = .releasing ∨ p.bay.state = .cleared := by
    cases p.bay.state <;> simp [closedToChecks]
  simp [Part.sweepBar, closed]

/-- A sweep that moves on runs. -/
theorem moveOn_running (pass : Pass) (from_ : Nat) (p : Part) :
    SweepStatus.isRunning (moveOn pass from_ p).sweep.status = true := by
  unfold moveOn
  split
  · rfl
  · cases pass with
    | first => dsimp only; split <;> rfl
    | second => rfl

/-- A sweep that is not REQUESTED, or whose lamps may still be lit, is not judged (R145). -/
theorem judgeSweepStart_waits {p : Part} (h : p.sweep.status ≠ .requested ∨ Part.lampsInFlight p = true) :
    judgeSweepStart p = (p, false) := by
  refine if_neg fun judged => ?_
  simp only [Bool.and_eq_true, decide_eq_true_eq, Bool.not_eq_true'] at judged
  obtain ⟨requested, dark⟩ := judged
  exact h.elim (fun other => other requested) fun lit => by simp [lit] at dark

/-- One that is judged is dropped by the first condition that fails (R145). -/
theorem judgeSweepStart_drops {p : Part} {reason : DropReason} (requested : p.sweep.status = .requested)
    (dark : Part.lampsInFlight p = false) (bar : Part.sweepBar p = some reason) :
    judgeSweepStart p = ({ p with sweep := { p.sweep with status := .dropped reason } }, false) := by
  rw [judgeSweepStart, if_pos (by simp [requested, dark]), bar]

/-- Where none fails it starts (R145). -/
theorem judgeSweepStart_starts {p : Part} (requested : p.sweep.status = .requested)
    (dark : Part.lampsInFlight p = false) (bar : Part.sweepBar p = none) :
    judgeSweepStart p = (startSweep p, true) := by
  rw [judgeSweepStart, if_pos (by simp [requested, dark]), bar]

/-- A start is told from the status: REQUESTED before the judgement and RUNNING after it. -/
theorem judgeSweepStart_starts_iff (p : Part) : (judgeSweepStart p).2 = true
    ↔ p.sweep.status = .requested ∧ SweepStatus.isRunning (judgeSweepStart p).1.sweep.status = true := by
  by_cases waits : p.sweep.status ≠ .requested ∨ Part.lampsInFlight p = true
  · rw [judgeSweepStart_waits waits]
    refine ⟨fun no => (Bool.false_ne_true no).elim, fun ⟨requested, running⟩ => ?_⟩
    simp [requested, SweepStatus.isRunning] at running
  · simp only [not_or, not_not, Bool.not_eq_true] at waits
    obtain ⟨requested, dark⟩ := waits
    cases bar : Part.sweepBar p with
    | some reason => simp [judgeSweepStart_drops requested dark bar, SweepStatus.isRunning]
    | none => simp [judgeSweepStart_starts requested dark bar, requested, startSweep, moveOn_running]

/-- How a sweep moves on is read from lamp table, sweep and the sweep's slot. -/
theorem movedOn_congr {pass : Pass} {from_ : Nat} {p q : Part} (lamps : q.lamps = p.lamps) (sweep : q.sweep = p.sweep)
    (link : q.link = p.link) (moved : MovedOn pass from_ p) : MovedOn pass from_ q := by
  have failed : Part.failed q = Part.failed p := by simp only [Part.failed, sweep]
  have positions : Part.passPositions q = Part.passPositions p := by
    funext k
    cases k <;> simp only [Part.passPositions, Part.fitted, lamps, failed]
  unfold MovedOn Energised at moved ⊢
  rwa [positions, failed, sweep, link]

@[simp] theorem moveOn_keeps_work (pass : Pass) (from_ : Nat) (p : Part) :
    (moveOn pass from_ p).sweep.work = p.sweep.work := by
  unfold moveOn
  split
  · rfl
  · cases pass with
    | first => dsimp only; split <;> rfl
    | second => rfl

/-- A sweep starts with empty working verdicts (R146). -/
theorem startSweep_work (p : Part) : (startSweep p).sweep.work = [] := by simp [startSweep]

/-- With no position fitted and no working verdicts a sweep in pass 1 moves on to its ending (R149). -/
theorem ending_of_nothingFitted {q : Part} (moved : MovedOn .first 0 q) (work : q.sweep.work = [])
    (bare : ∀ l ∈ q.lamps, l.fit = none) : q.sweep.status = .running .first .ending := by
  obtain ⟨-, -, ends⟩ := moved
  have fitted : Part.passPositions q .first = [] := by
    simp only [Part.passPositions, Part.fitted, List.map_eq_nil_iff, List.filter_eq_nil_iff]
    intro l hl
    simp [bare l hl]
  have failed : Part.failed q = [] := by simp [Part.failed, work]
  exact (ends (by rw [fitted]; rfl) (.inr (by rw [failed]; rfl))).1

/-! ## What a boundary leaves -/

/-- The judgement of the sweep at a boundary. -/
abbrev Part.sweepJudged (p : Part) : Part × Bool := judgeSweepStart (frameBegun p)

theorem boundary_osc (p : Part) : (boundary p).osc = max p.osc (p.heat.frameStart + 8000000) := by
  have judged : (Part.sweepJudged p).1.osc = (frameBegun p).osc := (judgeSweepStart_unchanged _ .osc (by simp)).symm
  have kept : (boundary p).osc = (Part.sweepJudged p).1.osc := by simp [boundary_eq, dutyInForce, frameOpened]
  exact kept.trans judged

/-- Sweep and link are those that the judgement leaves (R145). -/
theorem boundary_sweep (p : Part) : (boundary p).sweep = (Part.sweepJudged p).1.sweep
    ∧ (boundary p).link = (Part.sweepJudged p).1.link
    ∧ (boundary p).heat.sweepRunning = (Part.sweepJudged p).1.heat.sweepRunning := by
  simp [boundary_eq, beginStep_heat, dutyInForce, grantStep_eq, frameOpened]

/-- The ceiling is that of the sweep (R79). -/
theorem boundary_ceiling (p : Part) :
    (boundary p).heat.ceiling = (if (boundary p).heat.sweepRunning then 56 else 62) := by
  rw [boundary_heat]
  exact (frameOpened_heat p).2

/-- The measurement unit that the frame opens with (R86). -/
theorem frameOpened_measure (p : Part) : (frameOpened p).measure
    = accounting p.bay.couple (Part.sweepJudged p).2 (Measure.carryOver p.measure) := by
  have kept := judgeSweepStart_unchanged (frameBegun p)
  have bay : p.bay = (Part.sweepJudged p).1.bay := kept .bay (by simp)
  have measure : p.measure = (Part.sweepJudged p).1.measure := kept .measure (by simp)
  rw [bay, measure]
  rfl

/-- Self-test, frame count and ages stand as the accounting leaves them; step 0 writes none of them (R86, R88, R94). -/
theorem boundary_accounting (p : Part) : (boundary p).measure.chain = p.measure.chain
    ∧ (boundary p).measure.cabin = Channel.age p.measure.cabin
    ∧ (boundary p).measure.outside = Channel.age p.measure.outside
    ∧ (boundary p).measure.selfTest
      = (if Measure.becomesDue p.measure (Part.sweepJudged p).2 then .refloPending else p.measure.selfTest)
    ∧ (boundary p).measure.reflo
      = (if Measure.becomesDue p.measure (Part.sweepJudged p).2 then none else p.measure.reflo)
    ∧ (boundary p).measure.frames
      = (if Measure.becomesDue p.measure (Part.sweepJudged p).2 then 0 else p.measure.frames + 1) := by
  simp [boundary_eq, beginStep_keeps_measure, dutyInForce, frameOpened_measure, accounting_eq, Measure.becomesDue]

/-- The self-test that becomes due, told from the sweep before and after the boundary (R88). -/
theorem becomesDue_iff (p : Part) : Measure.becomesDue p.measure (Part.sweepJudged p).2
    ↔ p.measure.chain ≠ .good ∨ 15 ≤ p.measure.frames
      ∨ (p.sweep.status = .requested ∧ SweepStatus.isRunning (boundary p).sweep.status = true) := by
  have starts := judgeSweepStart_starts_iff (frameBegun p)
  rw [← (boundary_sweep p).1] at starts
  exact or_congr_right (or_congr_right starts)

/-- Where step 0 is on, what the accounting made owed stays owed (R75, R86). -/
theorem boundary_owed_on {p : Part} (on : 0 < (boundary p).heat.duty) :
    (boundary p).measure.owedOutside = true ∧ (boundary p).measure.owedCabin = p.bay.couple := by
  rw [boundary_eq, beginStep_heat] at on
  rw [boundary_eq, beginStep_measure_kept (.inl on)]
  simp [dutyInForce, frameOpened_measure, accounting_eq]

/-- Where it is off and no conversion is in progress, the one it begins is owed no more (R87). -/
theorem boundary_owed_off {p : Part} (off : (boundary p).heat.duty = 0)
    (free : p.measure.ending = none ∨ p.measure.converting = none) :
    (boundary p).measure.owedOutside = ((boundary p).measure.converting != some .outside)
      ∧ (boundary p).measure.owedCabin = (p.bay.couple && (boundary p).measure.converting != some .cabin) := by
  rw [boundary_eq, beginStep_heat] at off
  rw [boundary_eq, beginStep_measure_offered off.le]
  · simp [dutyInForce, frameOpened_measure, accounting_eq]
  · simpa [dutyInForce, frameOpened_measure, accounting_eq] using carryOver_converting free

theorem boundary_unchanged (p : Part) :
    unchangedExcept [.osc, .heat, .measure, .share, .line, .link, .sweep] p (boundary p) := by
  intro b hb
  cases b <;> simp_all [agreeOn]

/-! ## The sweep at a boundary, in the words of the statement -/

/-- Without a start to judge, sweep and link stay (R145). -/
theorem boundary_waits {p : Part}
    (h : p.sweep.status ≠ .requested ∨ ∃ f, p.link.inFlight = some f ∧ f.requester = .sweep) :
    (boundary p).sweep = p.sweep ∧ (boundary p).link = p.link
      ∧ (boundary p).heat.sweepRunning = p.heat.sweepRunning := by
  have waits : Part.sweepJudged p = (frameBegun p, false) :=
    judgeSweepStart_waits (h.imp_right (lampsInFlight_iff p).mpr)
  obtain ⟨sweep, link, running⟩ := boundary_sweep p
  rw [waits] at sweep link running
  exact ⟨sweep, link, running⟩

/-- A condition that fails drops the sweep and writes nothing else of it (R145). -/
theorem boundary_drops {p : Part} {reason : DropReason} (requested : p.sweep.status = .requested)
    (dark : Part.lampsInFlight p = false) (bar : Part.sweepBar p = some reason) :
    (boundary p).sweep = { p.sweep with status := .dropped reason } ∧ (boundary p).link = p.link
      ∧ (boundary p).heat.sweepRunning = p.heat.sweepRunning := by
  have drops := judgeSweepStart_drops (p := frameBegun p) requested dark bar
  obtain ⟨sweep, link, running⟩ := boundary_sweep p
  rw [Part.sweepJudged, drops] at sweep link running
  exact ⟨sweep, link, running⟩

/-- Where every condition holds the sweep runs in pass 1, under its ceiling (R79, R145, R146). -/
theorem boundary_starts {p : Part} (requested : p.sweep.status = .requested)
    (dark : Part.lampsInFlight p = false) (bar : Part.sweepBar p = none) :
    (boundary p).sweep.work = [] ∧ (boundary p).heat.sweepRunning = true ∧ (boundary p).heat.ceiling = 56
      ∧ MovedOn .first 0 (boundary p) := by
  have starts := judgeSweepStart_starts (p := frameBegun p) requested dark bar
  obtain ⟨sweep, link, running⟩ := boundary_sweep p
  rw [Part.sweepJudged, starts] at sweep link running
  have runs : (boundary p).heat.sweepRunning = true := by rw [running]; simp [startSweep]
  have lamps : (boundary p).lamps = (startSweep (frameBegun p)).lamps := by simp [frameBegun]
  refine ⟨by rw [sweep, startSweep_work], runs, ?_, movedOn_congr lamps sweep link (moveOn_movedOn ..)⟩
  rw [boundary_ceiling, if_pos runs]

/-- Settles O23: the accounting and step 0 for the new frame, and the judgement of the sweep by its three outcomes. -/
theorem boundaryOpensTheFrameAndJudgesTheSweep : Obligations.BoundaryOpensTheFrameAndJudgesTheSweep := by
  constructor
  · intro s mode
    refine completes_normal mode (by simp) (by simp) ?_
    rw [effect]
    obtain ⟨chain, cabin, outside, selfTest, reflo, frames⟩ := boundary_accounting s.part
    simp only [becomesDue_iff] at selfTest reflo frames
    refine ⟨boundary_osc _, ?frameStart, ?step, boundary_ceiling _, ?duty, ?phase, ?pin, cabin, outside,
      boundary_owed_on, boundary_owed_off, fun due => ?due, fun good below same => ?count, boundary_waits, chain,
      boundary_unchanged _⟩
    case frameStart => rw [boundary_heat]; exact (frameOpened_heat _).1
    case step => rw [boundary_heat]
    case duty => rw [boundary_heat]
    case phase => simp [boundary_heat]
    case pin => simp [boundary_heat]
    case due => exact ⟨selfTest.trans (if_pos due), frames.trans (if_pos due)⟩
    case count =>
      have notDue := not_or.mpr ⟨not_not.mpr good, not_or.mpr ⟨Nat.not_le.mpr below, same⟩⟩
      exact ⟨frames.trans (if_neg notDue), selfTest.trans (if_neg notDue), reflo.trans (if_neg notDue)⟩
  · rintro s _ mode requested noLamps rfl
    refine completes_normal mode (by simp) (by simp) ?_
    rw [effect, ← sweepBar_eq]
    have dark : Part.lampsInFlight s.part = false := by
      rw [← Bool.not_eq_true, lampsInFlight_iff]
      exact fun ⟨f, inFlight, sweeps⟩ => noLamps f inFlight sweeps
    refine ⟨fun reason => boundary_drops requested dark, fun bar => ?_⟩
    obtain ⟨work, runs, ceiling, moved⟩ := boundary_starts requested dark bar
    exact ⟨work, runs, ceiling, moved, fun bare => ending_of_nothingFitted moved work (by simpa using bare)⟩

end Sys2Proof.Machine
end

section
/-! Chapter 6: the ends of the two reference conversions, the judgement of the self-test and what a change of the chain status
sets off (R89, R90, R99, R153, R154, R179). -/

namespace Sys2Proof.Machine

/-! ## The conversion that ends (R85, R99) -/

/-- A conversion carried over the boundary ends first, and takes no time. -/
theorem takeConversion_carried {kind : Conversion → Bool} {c : Conversion} {p : Part}
    (carried : p.measure.ending = some c) (ofKind : kind c = true) :
    takeConversion kind p = some (c, { p with measure := { p.measure with ending := none } }, true) := by
  simp [takeConversion, carried, Option.filter_some_pos ofKind]

/-- Where none of the kind is carried, the conversion of the step in progress ends, and with it the step. -/
theorem takeConversion_inStep {kind : Conversion → Bool} {c : Conversion} {p : Part}
    (notCarried : ∀ d, p.measure.ending = some d → kind d = false) (running : p.measure.converting = some c)
    (ofKind : kind c = true) :
    takeConversion kind p = some (c, { p with
      osc := max p.osc (Heat.stepMoment p.heat (p.heat.step + 1))
      measure := { p.measure with converting := none } }, false) := by
  have none_ : p.measure.ending.filter kind = none := by
    rw [Option.filter_eq_none_iff]
    exact fun d carried => by simp [notCarried d carried]
  simp [takeConversion, none_, running, Option.filter_some_pos ofKind, advanceTo]

/-- A part that differs in time and in the measurement unit alone is unchanged elsewhere. -/
theorem unchanged_of_osc_measure (p : Part) (t : Moment) (m : Measure) :
    unchangedExcept [.osc, .measure] p { p with osc := t, measure := m } := by
  intro b hb
  cases b <;> simp_all [agreeOn]

theorem unchanged_of_measure (p : Part) (m : Measure) : unchangedExcept [.measure] p { p with measure := m } := by
  intro b hb
  cases b <;> simp_all [agreeOn]

/-! ## REFLO_CONVERSION_END (R89) -/

theorem refloEnds_carried {p : Part} (code : Code) (carried : p.measure.ending = some .reflo) :
    refloEnds code p = { p with
      measure := { p.measure with ending := none, reflo := some code.toNat, selfTest := .refhiPending } } := by
  simp [refloEnds, takeConversion_carried (kind := Conversion.isReflo) carried rfl]

theorem refloEnds_inStep {p : Part} (code : Code) (notCarried : p.measure.ending ≠ some .reflo)
    (running : p.measure.converting = some .reflo) : refloEnds code p = { p with
      osc := max p.osc (Heat.stepMoment p.heat (p.heat.step + 1))
      measure := { p.measure with converting := none, reflo := some code.toNat, selfTest := .refhiPending } } := by
  have other : ∀ d, p.measure.ending = some d → Conversion.isReflo d = false := by
    intro d carried
    cases d <;> simp_all [Conversion.isReflo]
  simp [refloEnds, takeConversion_inStep other running rfl]

/-! ## What the clearance evaluation leaves of the measurement unit -/

/-- The chain status and the self-test are as they were, and no conversion has begun. -/
def Measure.SelfTestKept (m after : Measure) : Prop :=
  after.chain = m.chain ∧ after.selfTest = m.selfTest ∧ after.reflo = m.reflo
    ∧ (m.converting = none → after.converting = none) ∧ (m.ending = none → after.ending = none)

theorem selfTestKept_refl (m : Measure) : Measure.SelfTestKept m m := ⟨rfl, rfl, rfl, id, id⟩

theorem selfTestKept_trans {a b c : Measure} (h : Measure.SelfTestKept a b) (h' : Measure.SelfTestKept b c) :
    Measure.SelfTestKept a c := by
  obtain ⟨chain, selfTest, reflo, converting, ending⟩ := h
  obtain ⟨chain', selfTest', reflo', converting', ending'⟩ := h'
  exact ⟨chain'.trans chain, selfTest'.trans selfTest, reflo'.trans reflo, converting' ∘ converting, ending' ∘ ending⟩

theorem sweepAbort_keeps_selfTest (lightsOff : Bool) (p : Part) :
    Measure.SelfTestKept p.measure (sweepAbort lightsOff p).measure := by
  unfold sweepAbort Measure.SelfTestKept
  split
  · split <;> simp +contextual [discardIf]
  · simp

theorem evaluate_keeps_selfTest (p : Part) : Measure.SelfTestKept p.measure (evaluate p).measure := by
  have entered : ∀ q : Part, Measure.SelfTestKept q.measure (enterReleasing q).measure := by
    intro q
    simpa [enterReleasing] using
      sweepAbort_keeps_selfTest true (place .bay .release { q with bay := { q.bay with lanePass := false } })
  obtain same | same | ⟨-, new, -, same⟩ | ⟨-, same⟩ := evaluate_cases p
  · simp [same, selfTestKept_refl]
  · simp [same, selfTestKept_refl]
  · simp [same, selfTestKept_refl]
  · simpa [same] using entered (setBayState .ready (judge p))

/-- While the chain is not GOOD an evaluation releases no bay: it leaves the sweep, the link and the measurement unit (R178). -/
theorem evaluate_keeps_checks_of_chainFault {p : Part} (fault : p.measure.chain ≠ .good) :
    (evaluate p).measure = p.measure ∧ (evaluate p).heat = p.heat ∧ (evaluate p).link = p.link
      ∧ (evaluate p).sweep = p.sweep := by
  obtain same | same | ⟨-, new, -, same⟩ | ⟨opens, same⟩ := evaluate_cases p
  · simp [same]
  · simp [same]
  · simp [same]
  · have reason : (Part.judgedReasons p).chainFault = true := by simp [Part.judgedReasons, fault]
    have noReason := noReason_of_releases opens (by simp [same])
    simp [Reasons.any, reason] at noReason

/-! ## A change of the chain status (R90) -/

/-- The chain status alone is written anew. -/
def Part.withChain (new : ChainStatus) (p : Part) : Part := { p with measure := { p.measure with chain := new } }

/-- The verdict of a self-test is told from GOOD to FAULTY, and to GOOD from any other status, and to no one in any other case. -/
theorem setChain_cases {new : ChainStatus} (judged : new ≠ .untested) (p : Part) :
    (p.measure.chain = .good ∧ new = .faulty ∧ setChain new p = evaluate (sweepAbort true (Part.withChain .faulty p)))
      ∨ (p.measure.chain ≠ .good ∧ new = .good ∧ setChain new p = evaluate (Part.withChain .good p))
      ∨ ((p.measure.chain = new ∨ (p.measure.chain = .untested ∧ new = .faulty))
        ∧ setChain new p = Part.withChain new p) := by
  cases old : p.measure.chain <;> cases new <;> simp_all [setChain, Part.withChain]

/-- A change of the chain status writes nothing else of the self-test. -/
theorem setChain_keeps_selfTest {new : ChainStatus} (judged : new ≠ .untested) (p : Part) :
    Measure.SelfTestKept (Part.withChain new p).measure (setChain new p).measure := by
  obtain ⟨-, rfl, told⟩ | ⟨-, rfl, told⟩ | ⟨-, untold⟩ := setChain_cases judged p
  · rw [told]
    exact selfTestKept_trans (sweepAbort_keeps_selfTest ..) (evaluate_keeps_selfTest _)
  · rw [told]
    exact evaluate_keeps_selfTest _
  · rw [untold]
    exact selfTestKept_refl _

theorem setChain_chain {new : ChainStatus} (judged : new ≠ .untested) (p : Part) :
    (setChain new p).measure.chain = new := (setChain_keeps_selfTest judged p).1

theorem setChain_unchanged (new : ChainStatus) (p : Part) : unchangedExcept bayBlocks p (setChain new p) := by
  intro b hb
  cases b <;> simp_all [bayBlocks, agreeOn]

section
variable {p w : Part} (ended : unchangedExcept [.osc, .measure] p w) (chain : w.measure.chain = p.measure.chain)
  (marks : w.measure.marks = p.measure.marks)
include ended marks

/-- What the abort by a chain fault does is told of the part as it was before the conversion ended. -/
theorem sweepAborted_before {new : ChainStatus} {q : Part} (h : SweepAborted true (Part.withChain new w) q) :
    SweepAborted true p q := by
  have sweep : p.sweep = w.sweep := ended .sweep (by decide)
  have link : p.link = w.link := ended .link (by decide)
  simpa only [SweepAborted, Part.withChain, sweep, link, marks] using h

include chain

/-- A chain fault aborts a running sweep, with the lights-off request placed (R90, R153, R154); the evaluation after it finds the
chain fault and leaves the sweep as it is. -/
theorem setChain_aborts {new : ChainStatus} (judged : new ≠ .untested) (good : p.measure.chain = .good)
    (faulty : (setChain new w).measure.chain = .faulty) : SweepAborted true p (setChain new w) := by
  rw [setChain_chain judged] at faulty
  subst faulty
  obtain ⟨x, hx⟩ : ∃ x, x = sweepAbort true (Part.withChain .faulty w) := ⟨_, rfl⟩
  have told : setChain .faulty w = evaluate x := by simp [setChain, chain, good, hx, Part.withChain]
  have fault : x.measure.chain ≠ .good := by simp [hx, sweepAbort_keeps_judged, Part.withChain]
  obtain ⟨measure, heat, link, sweep⟩ := evaluate_keeps_checks_of_chainFault fault
  have aborted := sweepAborted_before ended marks (hx ▸ sweepAbort_aborted true (Part.withChain .faulty w))
  rw [told]
  simpa only [SweepAborted, measure, heat, link, sweep] using aborted

/-- What a verdict on the chain tells, in the words of the statements (R90, R179). -/
theorem setChain_told {new : ChainStatus} (judged : new ≠ .untested) : ChainTold p (setChain new w) := by
  have written : ∀ c, unchangedExcept [.osc, .measure] p (Part.withChain c w) := fun c =>
    ended.trans (unchanged_of_osc_measure w w.osc { w.measure with chain := c }) (by simp) (by simp)
  unfold ChainTold
  rw [setChain_chain judged, ← chain]
  obtain ⟨good, rfl, told⟩ | ⟨notGood, rfl, told⟩ | ⟨kept, untold⟩ := setChain_cases judged w
  · refine ⟨fun _ => ⟨_, told, ?_, fun _ => ?_, nofun, ?_⟩, by simp [good]⟩
    · simp [sweepAbort_keeps_judged, Part.withChain]
    · exact sweepAborted_before ended marks (sweepAbort_aborted true _)
    · refine (written .faulty).trans (second := [.heat, .measure, .link, .sweep]) (fun b hb => ?_) (by simp) (by simp)
      cases b <;> simp_all [agreeOn]
  · refine ⟨fun _ => ⟨_, told, rfl, nofun, fun _ => written .good, ?_⟩, by simp [notGood]⟩
    exact fun b hb => written .good b (by simp_all)
  · refine ⟨fun change => ?_, fun _ => untold ▸ written new⟩
    obtain same | ⟨untested, faulty⟩ := kept
    · rw [same] at change
      cases new <;> simp at change
    · simp [untested, faulty] at change

end

/-! ## REFHI_CONVERSION_END (R89, R99) -/

/-- The verdict of a self-test on the chain (R89). -/
def selfTestVerdict (low high : Nat) : ChainStatus := if low ≤ 8 ∧ 1015 ≤ high then .good else .faulty

theorem selfTestVerdict_judged (low high : Nat) : selfTestVerdict low high ≠ .untested := by
  unfold selfTestVerdict
  split <;> simp

/-- A REFHI conversion of the step in progress ends its self-test. -/
theorem refhiEnds_inStep {p : Part} {low : Nat} (code : Code) (notCarried : ∀ k, p.measure.ending ≠ some (.refhi k))
    (running : p.measure.converting = some (.refhi low)) :
    refhiEnds code p = setChain (selfTestVerdict low code.toNat) { p with
      osc := max p.osc (Heat.stepMoment p.heat (p.heat.step + 1))
      measure := { p.measure with converting := none, selfTest := .notDue, reflo := none } } := by
  have other : ∀ d, p.measure.ending = some d → Conversion.isRefhi d = false := by
    intro d carried
    cases d <;> simp_all [Conversion.isRefhi]
  simp [refhiEnds, takeConversion_inStep other running rfl, selfTestVerdict, selfTestPasses]

/-- The measurement unit past a carried REFHI conversion, which ends its own self-test alone: one that became due at the boundary
stays due (R99). -/
def Measure.refhiCarried (m : Measure) : Measure := { m with
  ending := none
  selfTest := if m.selfTest = .refhiPending then .notDue else m.selfTest
  reflo := if m.selfTest = .refhiPending then none else m.reflo }

theorem refhiEnds_carried {p : Part} {low : Nat} (code : Code) (carried : p.measure.ending = some (.refhi low)) :
    refhiEnds code p
      = setChain (selfTestVerdict low code.toNat) { p with measure := Measure.refhiCarried p.measure } := by
  by_cases pending : p.measure.selfTest = .refhiPending <;>
    simp [refhiEnds, takeConversion_carried (kind := Conversion.isRefhi) carried rfl, selfTestVerdict, selfTestPasses,
      Measure.refhiCarried, pending]

/-- Settles O25: the end of a REFLO conversion as one update, that of a REFHI conversion as a change of the chain status. -/
theorem selfTestIsJudgedByItsTwoCodes : Obligations.SelfTestIsJudgedByItsTwoCodes := by
  intro s code low mode
  have judged := selfTestVerdict_judged low code.toNat
  refine ⟨fun runs => ?reflo, fun running notCarried => ?inStep, fun carried => ?carried⟩ <;>
    refine completes_normal mode (by simp) (by simp) ?_ <;> rw [effect]
  case reflo =>
    by_cases carried : s.part.measure.ending = some .reflo
    · rw [refloEnds_carried code carried]
      exact ⟨by simp [carried], unchanged_of_osc_measure s.part s.part.osc _⟩
    · rw [refloEnds_inStep code carried (runs.resolve_left carried)]
      exact ⟨by simp [carried], unchanged_of_osc_measure s.part _ _⟩
  case inStep =>
    rw [refhiEnds_inStep code notCarried running]
    have ended := unchanged_of_osc_measure s.part (max s.part.osc (Heat.stepMoment s.part.heat (s.part.heat.step + 1)))
      { s.part.measure with converting := none, selfTest := .notDue, reflo := none }
    obtain ⟨chain, selfTest, reflo, converting, -⟩ := setChain_keeps_selfTest judged _
    exact ⟨chain, selfTest, reflo, converting rfl, setChain_aborts ended rfl rfl judged, setChain_told ended rfl rfl judged,
      ended.trans (setChain_unchanged _ _) (by decide) (by decide)⟩
  case carried =>
    rw [refhiEnds_carried code carried]
    have ended := unchanged_of_osc_measure s.part s.part.osc (Measure.refhiCarried s.part.measure)
    obtain ⟨chain, selfTest, reflo, -, ending⟩ := setChain_keeps_selfTest judged _
    exact ⟨chain, fun pending => ⟨selfTest.trans (if_pos pending), reflo.trans (if_pos pending)⟩,
      fun notPending => ⟨selfTest.trans (if_neg notPending), reflo.trans (if_neg notPending)⟩, ending rfl,
      setChain_aborts ended rfl rfl judged, setChain_told ended rfl rfl judged,
      (unchanged_of_measure s.part _).trans (setChain_unchanged _ _) (by decide) (by decide)⟩

end Sys2Proof.Machine
end

section
/-! Chapter 6: TEMPERATURE_CONVERSION_END and the reading of a channel (R91 to R95). -/

namespace Sys2Proof.Machine

/-! ## The classes of a code (R91) -/

theorem classify_valid {code : Nat} (above : 16 ≤ code) (below : code ≤ 1007) :
    classify code = .valid (min code 1000) := by
  have notShort : ¬code ≤ 15 := by omega
  rw [classify, if_neg notShort]
  by_cases asItStands : code ≤ 1000
  · rw [if_pos asItStands, Nat.min_eq_left asItStands]
  · rw [if_neg asItStands, if_pos below, Nat.min_eq_right (by omega)]

theorem classify_short {code : Nat} (short : code ≤ 15) : classify code = .short := if_pos short

theorem classify_open {code : Nat} (above : 1008 ≤ code) : classify code = .open := by
  have notShort : ¬code ≤ 15 := by omega
  have notAsItStands : ¬code ≤ 1000 := by omega
  have notOver : ¬code ≤ 1007 := by omega
  simp [classify, notShort, notAsItStands, notOver]

/-! ## The ring and the run (R92, R93) -/

theorem pushRing_room {ring : List Nat} (room : ring.length < 4) (code : Nat) : pushRing ring code = ring ++ [code] :=
  if_pos room

theorem pushRing_full {ring : List Nat} (full : 4 ≤ ring.length) (code : Nat) :
    pushRing ring code = ring.tail ++ [code] := by
  rw [pushRing, if_neg (by omega), List.drop_one]

theorem extendRun_same (k : RunKind) (n : Nat) : extendRun k (some (k, n)) = (k, min 4 (n + 1)) := if_pos rfl

theorem extendRun_other {k : RunKind} {run : Option (RunKind × Nat)} (other : ∀ n, run ≠ some (k, n)) :
    extendRun k run = (k, 1) := by
  match run, other with
  | none, _ => rfl
  | some (j, n), other => exact if_neg fun same => other n (by rw [same])

/-- A run is of the class of the code that lengthens it. -/
theorem extendRun_kind (k : RunKind) (run : Option (RunKind × Nat)) : (extendRun k run).1 = k := by
  unfold extendRun
  split
  · split <;> rfl
  · rfl

/-! ## A code that is kept -/

/-- A valid code joins the ring, ends the run and returns the staleness count to 0 (R91). -/
theorem channel_take_valid {code : Nat} (above : 16 ≤ code) (below : code ≤ 1007) (c : Channel) :
    Channel.take c code = { ring := pushRing c.ring (min code 1000), run := none, status := .ok, stale := 0 } := by
  rw [Channel.take, classify_valid above below]

/-- A short or open code lengthens its run (R93). -/
theorem channel_take_invalid {code : Nat} (invalid : code ≤ 15 ∨ 1008 ≤ code) (c : Channel) : Channel.take c code
    = Channel.fail c (if code ≤ 15 then .short else .open) (if code ≤ 15 then .short else .open) := by
  by_cases short : code ≤ 15
  · rw [Channel.take, classify_short short, if_pos short, if_pos short]
  · rw [Channel.take, classify_open (invalid.resolve_left short), if_neg short, if_neg short]

theorem channel_fail_run_same {c : Channel} {k : RunKind} {n : Nat} (status : SensorStatus) (run : c.run = some (k, n)) :
    (Channel.fail c k status).run = some (k, min 4 (n + 1)) := by
  simp only [Channel.fail, run, extendRun_same]

theorem channel_fail_run_other {c : Channel} {k : RunKind} (status : SensorStatus) (other : ∀ n, c.run ≠ some (k, n)) :
    (Channel.fail c k status).run = some (k, 1) := by
  simp only [Channel.fail, extendRun_other other]

/-- The fourth code of a class sets the sensor status (R93). -/
theorem channel_fail_status (c : Channel) (k : RunKind) (status : SensorStatus) :
    (Channel.fail c k status).status = if (Channel.fail c k status).run = some (k, 4) then status else c.status := by
  have fourth : some (extendRun k c.run) = some (k, 4) ↔ (extendRun k c.run).2 = 4 := by
    rw [Option.some_inj, Prod.ext_iff, extendRun_kind]
    simp
  simp only [Channel.fail, fourth]

/-! ## TEMPERATURE_CONVERSION_END (R91) -/

/-- A channel past a code: kept while the chain is GOOD, and else discarded. -/
def Channel.past (chain : ChainStatus) (code : Nat) (c : Channel) : Channel :=
  if chain = .good then Channel.take c code else c

/-- The measurement unit past a code of a temperature channel. -/
def Measure.tempered (channel : Conversion) (code : Nat) (m : Measure) : Measure := { m with
  cabin := if channel = .cabin then Channel.past m.chain code m.cabin else m.cabin
  outside := if channel = .cabin then m.outside else Channel.past m.chain code m.outside }

theorem temperatureEnds_taken {p q : Part} {channel : Conversion} {before : Bool} (code : Code)
    (temperature : channel = .cabin ∨ channel = .outside)
    (taken : takeConversion Conversion.isTemperature p = some (channel, q, before)) :
    temperatureEnds code p = { q with measure := Measure.tempered channel code.toNat q.measure } := by
  rw [temperatureEnds, taken]
  by_cases good : q.measure.chain = .good <;> obtain rfl | rfl := temperature <;>
    simp [Measure.tempered, Channel.past, good]

/-- The code of the conversion carried over the boundary, or else of the one of the step in progress, comes to its channel. -/
theorem temperatureEnds_eq {p : Part} {channel : Conversion} {carried : Bool} (code : Code)
    (temperature : channel = .cabin ∨ channel = .outside)
    (ends : carried = true ∧ p.measure.ending = some channel
      ∨ carried = false ∧ p.measure.converting = some channel ∧ p.measure.ending ≠ some .cabin
        ∧ p.measure.ending ≠ some .outside) :
    ∃ t, temperatureEnds code p = { p with
      osc := t
      measure := Measure.tempered channel code.toNat { p.measure with
        ending := if carried then none else p.measure.ending
        converting := if carried then p.measure.converting else none } } := by
  have ofKind : Conversion.isTemperature channel = true := by obtain rfl | rfl := temperature <;> rfl
  obtain ⟨rfl, carried⟩ | ⟨rfl, running, notCabin, notOutside⟩ := ends
  · exact ⟨p.osc, temperatureEnds_taken code temperature (takeConversion_carried carried ofKind)⟩
  · have other : ∀ d, p.measure.ending = some d → Conversion.isTemperature d = false := by
      intro d carried
      cases d <;> simp_all [Conversion.isTemperature]
    exact ⟨_, temperatureEnds_taken code temperature (takeConversion_inStep other running ofKind)⟩

/-! ## The reading of a channel (R95) -/

theorem channel_cause_usable_iff (c : Channel) :
    Channel.cause c = .usable ↔ c.status = .ok ∧ c.ring ≠ [] ∧ c.stale ≠ 16 := by
  unfold Channel.cause
  cases c.status
  case ok => by_cases empty : c.ring = [] <;> by_cases stale : c.stale = 16 <;> simp [empty, stale]
  all_goals simp

/-- An empty ring gives no reading, whatever its cause. -/
theorem channel_usable_eq (c : Channel) :
    Channel.usable c = if c.status = .ok ∧ c.stale ≠ 16 then Channel.reading c else none := by
  by_cases empty : c.ring = []
  · simp [Channel.usable, Channel.reading, empty]
  · simp [Channel.usable, channel_cause_usable_iff, empty]

/-- Settles O26: the code as one update of the measurement unit, the channel by the class of the code. -/
theorem temperatureCodesAreClassed : Obligations.TemperatureCodesAreClassed := by
  refine ⟨?codes, ?readings⟩
  case codes =>
    rintro s code channel before _ carried mode temperature ends hbefore rfl
    refine completes_normal mode (by simp) (by simp) ?_
    obtain ⟨t, ended⟩ := temperatureEnds_eq code temperature ends
    rw [effect, ended]
    refine ⟨Channel.past s.part.measure.chain code.toNat before, ?update, fun notGood => if_neg notGood,
      fun good above below => ?valid, fun good invalid => ?invalid, unchanged_of_osc_measure s.part _ _⟩
    case update =>
      obtain rfl | rfl := temperature <;> simp [Measure.tempered, hbefore]
    case valid =>
      rw [Channel.past, if_pos good, channel_take_valid above below]
      exact ⟨rfl, rfl, rfl, fun room => pushRing_room room _, fun full => pushRing_full full _⟩
    case invalid =>
      rw [Channel.past, if_pos good, channel_take_invalid invalid]
      exact ⟨rfl, rfl, fun n run => channel_fail_run_same _ run, fun other => channel_fail_run_other _ other,
        channel_fail_status ..⟩
  case readings =>
    rintro c n rfl
    exact ⟨fun empty => if_pos empty, fun held => if_neg held, rfl, channel_usable_eq c⟩

end Sys2Proof.Machine
end

section
/-! The plan record of a recomputation (R102): what its parts write, and the lead with its start minute (R104 to R111). -/

namespace Sys2Proof.Machine

/-! ## The parts of a recomputation -/

/-- The plan record with the target and the lead of this recomputation (part 2 of R102). -/
def Plan.computed (i : PlanInputs) (o : Plan) : Plan := { o with
  target := i.roster.map fun r => targetOf r.target
  lead := (leadOf i).lead, basis := (leadOf i).basis, start := (leadOf i).start, planCold := (leadOf i).cold }

theorem replan_eq (t : Trigger) (i : PlanInputs) (o : Plan) :
    replan t i o = judgeClearance t i (setDemand i (decideMode t i (Plan.computed i o))) := rfl

/-- The lead computation stands in the plan that a recomputation leaves: no later part writes it. -/
theorem replan_lead (t : Trigger) (i : PlanInputs) (o : Plan) :
    (replan t i o).target = i.roster.map (fun r => targetOf r.target) ∧ (replan t i o).lead = (leadOf i).lead
      ∧ (replan t i o).basis = (leadOf i).basis ∧ (replan t i o).start = (leadOf i).start
      ∧ (replan t i o).planCold = (leadOf i).cold := by
  simp [replan_eq, judgeClearance, setDemand, Plan.computed]

/-! ## The lead (R107 to R111) -/

theorem plannedState_iff (b : BayState) :
    plannedState b = true ↔ b = .prepare ∨ b = .ready ∨ b = .held ∨ b = .releasing := by
  cases b <;> simp [plannedState]

/-- The target of a roster target (R105): 18 degrees for none, else between 10 and 24 degrees. -/
theorem targetOf_eq (n : Nat) : targetOf n
    = if n = 0 then 180 else if n < 100 then 100 else if 240 < n then 240 else n := by
  unfold targetOf
  (repeat' split) <;> omega

/-- No lead outside the states of a planned departure, nor without an identity or a roster copy (R107). -/
theorem leadOf_absent {i : PlanInputs} (h : plannedState i.state = false ∨ i.identity = none ∨ i.roster = none) :
    leadOf i = ⟨none, .computed, none, false⟩ := by
  unfold leadOf
  split
  · next planned identity roster => simp [planned, identity, roster] at h
  · rfl

section
variable {i : PlanInputs} {d : Identity} {r : RosterCopy} (planned : plannedState i.state = true)
  (identity : i.identity = some d) (roster : i.roster = some r)
include planned identity roster

/-- Without a usable cabin reading the lead is 120 minutes (R111). -/
theorem leadOf_fixed (cabin : i.cabin = none) : leadOf i = ⟨some 120, .fixed, some (startMinute r.departure 120),
    netRate (targetOf r.target) (i.outside.getD (-200)) d.h d.c < 4⟩ := by
  simp [leadOf, planned, identity, roster, cabin]

/-- With one it is computed from gain and net rate (R108 to R110). -/
theorem leadOf_computed {tc : Int} (cabin : i.cabin = some tc) : leadOf i =
    let l := computedLead (targetOf r.target) tc (netRate (targetOf r.target) (i.outside.getD (-200)) d.h d.c)
    ⟨some l.1, .computed, some (startMinute r.departure l.1), l.2⟩ := by
  simp [leadOf, planned, identity, roster, cabin]

/-- The start minute is the departure less the lead (R110). -/
theorem leadOf_start {l : Nat} (lead : (leadOf i).lead = some l) : (leadOf i).start = some (startMinute r.departure l) := by
  cases cabin : i.cabin with
  | none =>
    rw [leadOf_fixed planned identity roster cabin] at lead ⊢
    rw [Option.some.inj lead]
  | some tc =>
    rw [leadOf_computed planned identity roster cabin] at lead ⊢
    rw [← Option.some.inj lead]

end

/-- A cabin at its target needs no lead (R108). -/
theorem computedLead_reached {target cabin : Int} (rate : Int) (h : target ≤ cabin) :
    computedLead target cabin rate = (0, false) :=
  if_pos (by omega)

/-- A net rate below 4 leaves the plan cold (R109). -/
theorem computedLead_cold {target cabin rate : Int} (below : cabin < target) (slow : rate < 4) :
    computedLead target cabin rate = (240, true) := by
  unfold computedLead
  rw [if_neg (by omega), if_pos slow]

/-- The quotient of `a + b - 1` by `b` is the smallest whose product with `b` reaches `a`. -/
theorem ceil_ediv (a : Int) {b : Int} (pos : 0 < b) :
    ((a + b - 1) / b - 1) * b < a ∧ a ≤ (a + b - 1) / b * b := by
  have low := Int.ediv_mul_le (a + b - 1) (Int.ne_of_gt pos)
  have high := Int.lt_ediv_add_one_mul_self (a + b - 1) pos
  rw [Int.add_mul, Int.one_mul] at high
  rw [Int.sub_mul, Int.one_mul]
  omega

/-- Otherwise the lead is the minutes that the gain takes at that rate, rounded up, and 10 more, to at most 240 (R110). -/
theorem computedLead_minutes {target cabin rate : Int} (below : cabin < target) (fast : 4 ≤ rate) : ∃ minutes : Nat,
    ((minutes : Int) - 1) * rate < (target - cabin) * 10 ∧ (target - cabin) * 10 ≤ minutes * rate
      ∧ computedLead target cabin rate = (min 240 (minutes + 10), false) := by
  obtain ⟨low, high⟩ := ceil_ediv ((target - cabin) * 10) (b := rate) (by omega)
  have nonneg : 0 ≤ ((target - cabin) * 10 + rate - 1) / rate := Int.ediv_nonneg (by omega) (by omega)
  refine ⟨(((target - cabin) * 10 + rate - 1) / rate).toNat, ?_, ?_, ?_⟩
  · rwa [Int.toNat_of_nonneg nonneg]
  · rwa [Int.toNat_of_nonneg nonneg]
  · unfold computedLead
    rw [if_neg (by omega), if_neg (by omega)]

/-- Settles O27: `leadOf` by whether a departure is planned and the cabin readable, `computedLead` by gain and rate. -/
theorem leadFollowsGainAndRate : Obligations.LeadFollowsGainAndRate := by
  intro t p planned hplanned
  rw [← plannedState_iff] at hplanned
  obtain ⟨target, lead, basis, start, cold⟩ := replan_lead t (Part.planInputs p) p.plan
  simp only [recompute_plan, target, lead, basis, start, cold]
  refine ⟨fun none_ => ?_, ?_⟩
  · rw [hplanned, Bool.not_eq_true] at none_
    rw [leadOf_absent none_]
    simp
  · intro d r target outside rate isPlanned identity roster htarget houtside hrate
    rw [← targetOf_eq] at htarget
    subst htarget houtside hrate
    have state : plannedState (Part.planInputs p).state = true := hplanned.mp isPlanned
    refine ⟨by simp [Part.planInputs, roster], fun l hl => leadOf_start state identity roster hl, fun cabin => ?_,
      fun tc cabin => ?_⟩
    · rw [leadOf_fixed state identity roster cabin]
      exact ⟨rfl, rfl, rfl⟩
    · rw [leadOf_computed state identity roster cabin]
      refine ⟨rfl, fun reached => ?_, fun below slow => ?_, fun below fast => ?_⟩
      · simp [computedLead_reached _ reached]
      · have computed := computedLead_cold below slow
        exact ⟨congrArg (fun l => some l.1) computed, congrArg Prod.snd computed⟩
      · obtain ⟨minutes, low, high, computed⟩ := computedLead_minutes below fast
        exact ⟨congrArg Prod.snd computed, minutes, low, high, congrArg (fun l => some l.1) computed⟩

end Sys2Proof.Machine
end

section
/-! Demand and urgency of a plan (R118), clearance cold (R119) and the remarks of a recomputation (R103, R104, R120). -/

namespace Sys2Proof.Machine

/-! ## Demand and urgency (R118) -/

/-- Demand and urgency of a recomputation are those of the mode that it leaves: clearance cold is written after them. -/
theorem replan_demand (t : Trigger) (i : PlanInputs) (o : Plan) :
    (replan t i o).demand = (setDemand i (replan t i o)).demand
      ∧ (replan t i o).urgency = (setDemand i (replan t i o)).urgency :=
  ⟨rfl, rfl⟩

/-- The current of the heater that the inputs name. -/
def PlanInputs.heaterCurrent (i : PlanInputs) : Nat := (i.identity.map (·.ih)).getD 0

/-- Without a heater there is no demand, whatever the mode. -/
theorem setDemand_none {i : PlanInputs} (o : Plan) (h : i.heater = false ∨ PlanInputs.heaterCurrent i = 0) :
    (setDemand i o).demand = 0 := by
  obtain heater | current := h
  · simp [setDemand, heater]
  · cases identity : i.identity <;> simp_all [setDemand, PlanInputs.heaterCurrent]

/-- With one the demand is the mode's. -/
theorem setDemand_demand {i : PlanInputs} (o : Plan) (heater : i.heater = true) :
    (setDemand i o).demand = match o.mode with
      | .off => 0
      | .frost => (PlanInputs.heaterCurrent i + 3) / 4
      | .heat => PlanInputs.heaterCurrent i
      | .maintain => if o.maintain then PlanInputs.heaterCurrent i else 0 := by
  by_cases current : PlanInputs.heaterCurrent i = 0
  · rw [setDemand_none o (.inr current), current]
    cases o.mode <;> simp
  · obtain ⟨d, identity⟩ : ∃ d, i.identity = some d := by
      refine Option.ne_none_iff_exists'.mp fun none_ => current ?_
      simp [PlanInputs.heaterCurrent, none_]
    have ih : PlanInputs.heaterCurrent i = d.ih := by simp [PlanInputs.heaterCurrent, identity]
    rw [ih] at current ⊢
    cases mode : o.mode <;> simp [setDemand, heater, identity, current, mode, ceilDiv]

/-- The urgency is the mode's; HEAT's is the one that depends on the lead and on M. -/
theorem setDemand_urgency (i : PlanInputs) (o : Plan) : (setDemand i o).urgency = match o.mode with
    | .off => 0
    | .frost => 2
    | .heat => heatUrgency o.lead i.minutes i.open_
    | .maintain => 5 := by
  cases mode : o.mode <;> simp [setDemand, mode]

/-- The urgency of HEAT, in the words of the statement: 15 when overdue, else it rises as M falls below the lead. -/
theorem heatUrgency_eq (l : Nat) (m : Int) (o : Nat) : heatUrgency (some l) (some m) o
    = if m < 0 then 15 else 8 + min 7 (max 0 (-((m - l) / 4))).toNat := by
  unfold heatUrgency
  dsimp only
  split
  · rfl
  · omega

/-! ## Clearance cold (R119) -/

/-- Clearance cold is judged on a change of bay state to CLEARED. -/
theorem judgeClearance_entry {i : PlanInputs} (before : BayState) (o : Plan) (state : i.state = .cleared) :
    (judgeClearance (.bayState before) i o).clearanceCold = match i.cabin with
      | none => true
      | some tc => decide (tc < ((o.target.getD 180 : Nat) : Int) - 20) := by
  cases cabin : i.cabin <;> simp [judgeClearance, state, cabin]

/-- It is kept by any other recomputation in CLEARED. -/
theorem judgeClearance_stays {t : Trigger} {i : PlanInputs} (o : Plan) (state : i.state = .cleared)
    (other : ∀ before, t ≠ .bayState before) : (judgeClearance t i o).clearanceCold = o.clearanceCold := by
  cases t with
  | bayState before => exact absurd rfl (other before)
  | _ => simp [judgeClearance, state]

/-- In any other state it is no. -/
theorem judgeClearance_elsewhere (t : Trigger) {i : PlanInputs} (o : Plan) (state : i.state ≠ .cleared) :
    (judgeClearance t i o).clearanceCold = false := by
  unfold judgeClearance
  cases hs : i.state <;> simp_all

/-- Clearance cold after a recomputation is judged from the target that it leaves and the clearance cold that it found. -/
theorem replan_clearance (t : Trigger) (i : PlanInputs) (o : Plan) : (replan t i o).clearanceCold
    = (judgeClearance t i { replan t i o with clearanceCold := o.clearanceCold }).clearanceCold := by
  have found : (setDemand i (decideMode t i (Plan.computed i o))).clearanceCold = o.clearanceCold := by
    simp [setDemand, Plan.computed]
  rw [← found]
  rfl

/-! ## The remarks (R103, R104, R120) -/

theorem cabinJudged_eq (b : BayState) : cabinJudged b = (heldCoach b || b == .releasing) := by
  cases b <;> rfl

/-- The remarks that a recomputation ends with: three of them are those of the plan and of the readings. -/
theorem recompute_remarks (t : Trigger) (p : Part) : (recompute t p).remarks = { p.remarks with
    cold := (recompute t p).plan.planCold || (recompute t p).plan.clearanceCold
    cabinSensor := (heldCoach p.bay.state || p.bay.state == .releasing) && (Channel.usable p.measure.cabin).isNone
    outsideSensor := (Channel.usable p.measure.outside).isNone } := by
  rw [recompute_plan, ← cabinJudged_eq]
  unfold recompute
  rw [judgePlanRemarks_eq _ _ _ rfl]
  rfl

theorem recompute_unchanged (t : Trigger) (p : Part) :
    unchangedExcept [.plan, .remarks, .line, .free] p (recompute t p) := by
  intro b hb
  cases b <;> simp_all [agreeOn]

/-- Settles O29: demand and urgency by the mode of the plan left, then the remarks and clearance cold. -/
theorem demandUrgencyAndRemarksOfARecomputation : Obligations.DemandUrgencyAndRemarksOfARecomputation := by
  constructor
  · intro t p ih hih
    have current : PlanInputs.heaterCurrent (Part.planInputs p) = ih := hih.symm
    obtain ⟨demand, urgency⟩ := replan_demand t (Part.planInputs p) p.plan
    rw [← recompute_plan] at demand urgency
    rw [setDemand_urgency] at urgency
    have ofMode := fun heater => demand.trans (setDemand_demand (i := Part.planInputs p) (recompute t p).plan heater)
    rw [current] at ofMode
    have ofNone := fun none_ => demand.trans (setDemand_none (i := Part.planInputs p) (recompute t p).plan none_)
    rw [current] at ofNone
    refine ⟨fun off => ⟨?_, ?_⟩, fun frost => ⟨?_, fun heater => ?_⟩, fun heat => ⟨fun heater => ?_, fun l m lead minutes => ?_⟩,
      fun maintain => ⟨?_, fun heater => ?_⟩, ofNone, recompute_unchanged t p⟩
    · cases heater : p.latch.heater with
      | false => exact ofNone (.inl heater)
      | true => rw [ofMode heater, off]
    · rw [urgency, off]
    · rw [urgency, frost]
    · rw [ofMode heater, frost]
    · rw [ofMode heater, heat]
    · have overdue : (recompute t p).plan.urgency
          = if m < 0 then 15 else 8 + min 7 (max 0 (-((m - l) / 4))).toNat := by
        rw [urgency, heat, lead, show (Part.planInputs p).minutes = some m from minutes]
        exact heatUrgency_eq l m _
      exact ⟨fun late => by rw [overdue, if_pos late], fun early => by rw [overdue, if_neg (by omega)]⟩
    · rw [urgency, maintain]
    · rw [ofMode heater, maintain]
  · rintro t p q rfl
    refine ⟨recompute_remarks t p, recompute_line t p, fun elsewhere => ?_, fun cleared other => ?_, fun cleared change => ?_⟩
    · rw [recompute_plan, replan_clearance, judgeClearance_elsewhere t _ elsewhere]
    · rw [recompute_plan, replan_clearance, judgeClearance_stays _ cleared other]
    · obtain ⟨before, rfl⟩ := change
      rw [recompute_plan, replan_clearance]
      exact judgeClearance_entry before _ cleared

end Sys2Proof.Machine
end

section
/-! The mode of a recomputation and the heat-start watch (R112 to R117, R121). -/

namespace Sys2Proof.Machine

/-! ## The heat-start watch (R114, R115) -/

theorem beginsHeatWatch_iff (t : Trigger) : beginsHeatWatch t = true ↔ t = .bayState .standby ∨ t = .bayState .cleared := by
  unfold beginsHeatWatch
  split <;> simp_all

/-- The entry from STANDBY or CLEARED begins the watch: ARMED, with heating not begun. -/
theorem heatWatch_begins {t : Trigger} (i : PlanInputs) (o : Plan) (begins : beginsHeatWatch t = true) :
    heatWatch t i o = { o with watch := .armed, begun := false } := by
  obtain rfl | rfl := (beginsHeatWatch_iff t).mp begins <;>
  · simp only [heatWatch, beginsHeatWatch]
    cases o.lead <;> cases i.minutes <;> rfl

/-- A minute event at M reads it against the lead. -/
theorem heatWatch_minute {i : PlanInputs} {o : Plan} {l : Nat} {m : Int} (lead : o.lead = some l)
    (minutes : i.minutes = some m) : heatWatch .minute i o = heatWatchMinute i.now (m ≤ l) o := by
  simp [heatWatch, beginsHeatWatch, lead, minutes]

/-- A change of the roster copy that finds the watch PASSED with M above the lead ends heating, and the frost watch runs from
off. -/
theorem heatWatch_roster_ends {c : Option RosterCopy} {i : PlanInputs} {o : Plan} {l : Nat} {m : Int} (lead : o.lead = some l)
    (minutes : i.minutes = some m) (above : l < m) (passed : Plan.foundPassed o i (.roster c) = true) :
    heatWatch (.roster c) i o = { o with watch := .armed, begun := false, frost := false, maintain := false } := by
  simp [heatWatch, beginsHeatWatch, lead, minutes, above, passed]

/-- What else a change of the roster copy finds, it leaves. -/
theorem heatWatch_roster_stays {c : Option RosterCopy} {i : PlanInputs} {o : Plan} {l : Nat} {m : Int} (lead : o.lead = some l)
    (minutes : i.minutes = some m) (stays : m ≤ l ∨ Plan.foundPassed o i (.roster c) = false) :
    heatWatch (.roster c) i o = o := by
  have notEnding : ¬((l : Int) < m ∧ Plan.foundPassed o i (.roster c) = true) := by
    rintro ⟨above, passed⟩
    obtain below | notPassed := stays
    · omega
    · rw [notPassed] at passed
      cases passed
  simp [heatWatch, beginsHeatWatch, lead, minutes, notEnding]

/-- Any other recomputation leaves the watch as it is. -/
theorem heatWatch_still {t : Trigger} (i : PlanInputs) (o : Plan) (begins : beginsHeatWatch t = false) (notMinute : t ≠ .minute)
    (notRoster : ∀ c, t ≠ .roster c) : heatWatch t i o = o := by
  cases t with
  | minute => exact absurd rfl notMinute
  | roster c => exact absurd rfl (notRoster c)
  | bayState _ | clockStatus =>
    simp only [heatWatch, begins, Bool.false_eq_true, if_false]
    split <;> rfl

/-- So does one without a lead or an M. -/
theorem heatWatch_without {t : Trigger} {i : PlanInputs} {o : Plan} (begins : beginsHeatWatch t = false)
    (h : o.lead = none ∨ i.minutes = none) : heatWatch t i o = o := by
  simp only [heatWatch, begins, Bool.false_eq_true, if_false]
  split
  · next lead minutes => simp [lead, minutes] at h
  · rfl

/-- A minute event begins heating where it finds an ARMED watch and M at most the lead (R114), and else writes watch and note alone
(R115). -/
theorem heatWatchMinute_cases (now : Moment) (reached : Bool) (o : Plan) :
    (o.watch = .armed ∧ reached = true ∧ o.begun = false
        ∧ heatWatchMinute now reached o
          = { o with watch := .passed, begun := true, frost := false, mode := .heat, maintain := false })
      ∨ ((heatWatchMinute now reached o).begun = o.begun ∧ (heatWatchMinute now reached o).mode = o.mode
        ∧ (heatWatchMinute now reached o).frost = o.frost ∧ (heatWatchMinute now reached o).maintain = o.maintain) := by
  cases watch : o.watch <;> cases reached <;> cases begun : o.begun <;> simp [heatWatchMinute, watch, begun]

/-- What a recomputation does to heating: it begins the watch, or leaves heating, mode and substates as they are, or begins heating
at a minute event, or ends it at a change of the roster copy. -/
theorem heatWatch_cases (t : Trigger) (i : PlanInputs) (o : Plan) :
    (beginsHeatWatch t = true ∧ heatWatch t i o = { o with watch := .armed, begun := false })
      ∨ ((heatWatch t i o).begun = o.begun ∧ (heatWatch t i o).mode = o.mode ∧ (heatWatch t i o).frost = o.frost
        ∧ (heatWatch t i o).maintain = o.maintain)
      ∨ (t = .minute ∧ o.watch = .armed ∧ o.begun = false
        ∧ (∃ l m, o.lead = some l ∧ i.minutes = some m ∧ m ≤ (l : Int))
        ∧ heatWatch t i o = { o with watch := .passed, begun := true, frost := false, mode := .heat, maintain := false })
      ∨ ((∃ c, t = .roster c) ∧ Plan.foundPassed o i t = true
        ∧ (∃ l m, o.lead = some l ∧ i.minutes = some m ∧ (l : Int) < m)
        ∧ heatWatch t i o = { o with watch := .armed, begun := false, frost := false, maintain := false }) := by
  cases begins : beginsHeatWatch t with
  | true => exact .inl ⟨rfl, heatWatch_begins i o begins⟩
  | false =>
    refine .inr ?_
    by_cases known : o.lead = none ∨ i.minutes = none
    · rw [heatWatch_without begins known]
      exact .inl ⟨rfl, rfl, rfl, rfl⟩
    · obtain ⟨hasLead, hasMinutes⟩ := not_or.mp known
      obtain ⟨l, lead⟩ := Option.ne_none_iff_exists'.mp hasLead
      obtain ⟨m, minutes⟩ := Option.ne_none_iff_exists'.mp hasMinutes
      cases t with
      | minute =>
        rw [heatWatch_minute lead minutes]
        obtain ⟨armed, reached, notBegun, starts⟩ | kept := heatWatchMinute_cases i.now (m ≤ l) o
        · exact .inr (.inl ⟨rfl, armed, notBegun, ⟨l, m, lead, minutes, of_decide_eq_true reached⟩, starts⟩)
        · exact .inl kept
      | roster c =>
        by_cases ends : (l : Int) < m ∧ Plan.foundPassed o i (.roster c) = true
        · obtain ⟨above, passed⟩ := ends
          exact .inr (.inr ⟨⟨c, rfl⟩, passed, ⟨l, m, lead, minutes, above⟩,
            heatWatch_roster_ends lead minutes above passed⟩)
        · rw [not_and_or, Int.not_lt, Bool.not_eq_true] at ends
          rw [heatWatch_roster_stays lead minutes ends]
          exact .inl ⟨rfl, rfl, rfl, rfl⟩
      | bayState _ | clockStatus =>
        rw [heatWatch_still i o begins (by simp) (by simp)]
        exact .inl ⟨rfl, rfl, rfl, rfl⟩

/-! ## The mode (R112, R113, R116, R117) -/

/-- In EMPTY, COUPLED and CLEARED the mode is OFF and everything it holds has ended (R112). -/
theorem replan_off (t : Trigger) {i : PlanInputs} (o : Plan) (h : i.state = .empty ∨ i.state = .coupled ∨ i.state = .cleared) :
    (replan t i o).mode = .off ∧ (replan t i o).frost = false ∧ (replan t i o).maintain = false
      ∧ (replan t i o).watch = .notBegun ∧ (replan t i o).begun = false := by
  have off : decideMode t i (Plan.computed i o) = modeOff (Plan.computed i o) := by
    unfold decideMode
    obtain h | h | h := h <;> rw [h]
  rw [replan_eq, off]
  exact ⟨rfl, rfl, rfl, rfl, rfl⟩

/-- In STANDBY the frost watch decides the mode (R113). -/
theorem replan_standby (t : Trigger) {i : PlanInputs} (o : Plan) (h : i.state = .standby) :
    (replan t i o).frost = judgeFrost o.frost i.cabin
      ∧ (replan t i o).mode = (if judgeFrost o.frost i.cabin then .frost else .off)
      ∧ (replan t i o).watch = .notBegun ∧ (replan t i o).begun = false ∧ (replan t i o).maintain = false := by
  have frosty : decideMode t i (Plan.computed i o)
      = modeFrost i.cabin { Plan.computed i o with watch := .notBegun, begun := false, maintain := false } := by
    rw [decideMode, h]
  rw [replan_eq, frosty]
  exact ⟨rfl, rfl, rfl, rfl, rfl⟩

/-- In RELEASING the mode, heating and the watch are as they were, with the frost substate off (R113, R117). -/
theorem replan_releasing (t : Trigger) {i : PlanInputs} (o : Plan) (h : i.state = .releasing) :
    (replan t i o).mode = o.mode ∧ (replan t i o).frost = false ∧ (replan t i o).begun = o.begun
      ∧ (replan t i o).watch = o.watch := by
  rw [replan_eq, decideMode, h]
  exact ⟨rfl, rfl, rfl, rfl⟩

/-- The plan of a recomputation in PREPARE, READY and HELD with its heat-start watch read, before the mode is decided. -/
def Plan.watched (t : Trigger) (i : PlanInputs) (o : Plan) : Plan := heatWatch t i (Plan.computed i o)

section
variable (t : Trigger) {i : PlanInputs} (o : Plan) (opens : openState i.state = true)
include opens

theorem decideMode_open : decideMode t i (Plan.computed i o)
    = if (Plan.watched t i o).begun then modeHeating i.cabin (Plan.watched t i o) else modeFrost i.cabin (Plan.watched t i o) := by
  cases hs : i.state with
  | prepare | ready | held =>
    cases begun : (heatWatch t i (Plan.computed i o)).begun <;> simp [decideMode, hs, Plan.watched, begun]
  | _ => simp [hs, openState] at opens

/-- Deciding the mode leaves the watch, heating and the note of its re-arming. -/
theorem replan_watch : (replan t i o).watch = (Plan.watched t i o).watch ∧ (replan t i o).begun = (Plan.watched t i o).begun
    ∧ (replan t i o).rearmed = (Plan.watched t i o).rearmed := by
  rw [replan_eq, decideMode_open t o opens]
  split
  · unfold modeHeating
    (repeat' split) <;> exact ⟨rfl, rfl, rfl⟩
  · exact ⟨rfl, rfl, rfl⟩

/-- Until heating has begun the frost watch decides the mode (R113). -/
theorem replan_notBegun (begun : (Plan.watched t i o).begun = false) :
    (replan t i o).frost = judgeFrost (Plan.watched t i o).frost i.cabin
      ∧ (replan t i o).mode = (if (replan t i o).frost then .frost else .off)
      ∧ (replan t i o).maintain = (Plan.watched t i o).maintain := by
  rw [replan_eq, decideMode_open t o opens, begun]
  exact ⟨rfl, rfl, rfl⟩

/-- From then on it is HEAT or MAINTAIN (R116). -/
theorem replan_begun (begun : (Plan.watched t i o).begun = true) :
    (replan t i o).mode = (modeHeating i.cabin (Plan.watched t i o)).mode
      ∧ (replan t i o).maintain = (modeHeating i.cabin (Plan.watched t i o)).maintain
      ∧ (replan t i o).frost = (Plan.watched t i o).frost
      ∧ (replan t i o).target = (Plan.watched t i o).target := by
  rw [replan_eq, decideMode_open t o opens, begun]
  refine ⟨rfl, rfl, ?_, ?_⟩
  · rw [if_pos rfl]
    unfold modeHeating
    (repeat' split) <;> rfl
  · simp [judgeClearance, setDemand]

end

/-- Heating that goes on has gone on, with its mode and substate, or a minute event begins it in HEAT. -/
theorem watched_begun {t : Trigger} {i : PlanInputs} {o : Plan} (begun : (Plan.watched t i o).begun = true) :
    (o.begun = true ∧ (Plan.watched t i o).mode = o.mode ∧ (Plan.watched t i o).maintain = o.maintain)
      ∨ (o.begun = false ∧ (Plan.watched t i o).mode = .heat) := by
  unfold Plan.watched at *
  obtain ⟨-, watched⟩ | ⟨kept, mode, -, maintain⟩ | ⟨-, -, before, -, watched⟩ | ⟨-, -, -, watched⟩ :=
    heatWatch_cases t i (Plan.computed i o)
  · simp [watched] at begun
  · exact .inl ⟨kept.symm.trans begun, mode, maintain⟩
  · exact .inr ⟨before, by rw [watched]⟩
  · simp [watched] at begun

/-- But for a change of the roster copy, the frost watch goes on from the frost substate that stands. -/
theorem watched_frost {t : Trigger} {i : PlanInputs} {o : Plan} (begun : (Plan.watched t i o).begun = false)
    (notRoster : ∀ c, t ≠ .roster c) : (Plan.watched t i o).frost = o.frost := by
  unfold Plan.watched at *
  obtain ⟨-, watched⟩ | ⟨-, -, frost, -⟩ | ⟨-, -, -, -, watched⟩ | ⟨⟨c, roster⟩, -⟩ :=
    heatWatch_cases t i (Plan.computed i o)
  · rw [watched]
    rfl
  · exact frost
  · simp [watched] at begun
  · exact absurd roster (notRoster c)

section
variable {o : Plan} {tc : Int} {tt : Nat} (target : o.target = some tt)
include target

/-- Below the target heating goes on in HEAT (R116). -/
theorem modeHeating_below (notMaintain : o.mode ≠ .maintain) (below : tc < tt) :
    modeHeating (some tc) o = { o with mode := .heat, maintain := false } := by
  simp [modeHeating, notMaintain, target, below]

/-- At the target it goes over to MAINTAIN, with its substate off. -/
theorem modeHeating_reached (notMaintain : o.mode ≠ .maintain) (reached : (tt : Int) ≤ tc) :
    modeHeating (some tc) o = { o with mode := .maintain, maintain := false } := by
  simp [modeHeating, notMaintain, target, Int.not_lt.mpr reached]

/-- In MAINTAIN the substate is judged with its hysteresis. -/
theorem modeHeating_maintain (maintain : o.mode = .maintain) : modeHeating (some tc) o = { o with
    maintain := if tc < (tt : Int) - 10 then true else if (tt : Int) ≤ tc then false else o.maintain } := by
  simp [modeHeating, maintain, target, judgeMaintain]

end

/-! ## A later departure that meets a minute event (R121) -/

theorem minuteDue_iff (p : Part) : Part.minuteDue p = true ↔ MinuteStillDue p := by
  simp [Part.minuteDue]

/-- Whether the trigger moves the departure later, in the words of the statement. -/
theorem movedLater_iff (t : Trigger) (p : Part) : PlanInputs.movedLater (Part.planInputs p) t = true
    ↔ ∃ a b, t = .roster (some a) ∧ p.bay.roster = some b ∧ DepartsLater p a b := by
  have last : (Part.planInputs p).lastMinute
      = if MinuteStillDue p then p.clock.minute else (p.clock.minute + 1439) % 1440 := by
    simp only [Part.planInputs, minuteDue_iff]
  cases t with
  | roster before =>
    cases before with
    | none => simp [PlanInputs.movedLater]
    | some a =>
      have copy : (Part.planInputs p).roster = p.bay.roster := rfl
      cases held : p.bay.roster <;> simp [PlanInputs.movedLater, last, copy, held, DepartsLater]
  | _ => simp [PlanInputs.movedLater]

/-- A change of the roster copy finds the watch PASSED, or ARMED with heating begun where a minute event and a later departure
meet (notes/assumptions/25). -/
theorem foundPassed_iff (t : Trigger) (p : Part) :
    Plan.foundPassed (Plan.computed (Part.planInputs p) p.plan) (Part.planInputs p) t = true
      ↔ p.plan.watch = .passed ∨ (p.plan.watch = .armed ∧ p.plan.begun = true ∧ MeetsLaterDeparture t p) := by
  have note : (Plan.computed (Part.planInputs p) p.plan).rearmed = p.plan.rearmed := rfl
  have due : (Part.planInputs p).due = true ↔ MinuteStillDue p := minuteDue_iff p
  simp only [Plan.foundPassed, Bool.or_eq_true, Bool.and_eq_true, beq_iff_eq, movedLater_iff, due, note,
    MeetsLaterDeparture, and_assoc]
  exact or_congr_right (and_congr_right fun _ => and_congr_right fun _ => and_congr_left fun _ => or_comm)

/-! ## The watch of a recomputation in PREPARE, READY and HELD -/

/-- The lead that a recomputation leaves is the one that its watch is read against. -/
theorem computed_lead (t : Trigger) (p : Part) :
    (Plan.computed (Part.planInputs p) p.plan).lead = (recompute t p).plan.lead := by
  rw [recompute_plan, (replan_lead _ _ _).2.1]
  rfl

section
variable {t : Trigger} {p : Part} {l : Nat} {m : Int} (opens : openState p.bay.state = true)
  (lead : (recompute t p).plan.lead = some l) (minutes : Part.minutesToDeparture p = some m)

include opens in
theorem recompute_watch : (recompute t p).plan.watch = (Plan.watched t (Part.planInputs p) p.plan).watch
    ∧ (recompute t p).plan.begun = (Plan.watched t (Part.planInputs p) p.plan).begun
    ∧ (recompute t p).plan.rearmed = (Plan.watched t (Part.planInputs p) p.plan).rearmed := by
  rw [recompute_plan]
  exact replan_watch t p.plan opens

include lead minutes

theorem watched_minute (event : t = .minute) : Plan.watched t (Part.planInputs p) p.plan
    = heatWatchMinute p.osc (m ≤ l) (Plan.computed (Part.planInputs p) p.plan) := by
  subst event
  exact heatWatch_minute ((computed_lead _ p).trans lead) minutes

/-- A change of the roster copy that leaves heating and the watch as they are (R115). -/
theorem watched_roster_stays {c : Option RosterCopy} (change : t = .roster c)
    (stays : m ≤ l ∨ Plan.foundPassed (Plan.computed (Part.planInputs p) p.plan) (Part.planInputs p) t = false) :
    Plan.watched t (Part.planInputs p) p.plan = Plan.computed (Part.planInputs p) p.plan := by
  subst change
  exact heatWatch_roster_stays ((computed_lead _ p).trans lead) minutes stays

include opens

/-- A change of the roster copy that finds the watch PASSED with M above the lead ends heating: the watch is ARMED, and the frost
watch runs from off (R115, R121). -/
theorem recompute_roster_ends {c : Option RosterCopy} (change : t = .roster c) (above : (l : Int) < m)
    (passed : p.plan.watch = .passed ∨ (p.plan.watch = .armed ∧ p.plan.begun = true ∧ MeetsLaterDeparture t p)) :
    (recompute t p).plan.watch = .armed ∧ (recompute t p).plan.begun = false ∧ (recompute t p).plan.maintain = false
      ∧ (recompute t p).plan.frost = judgeFrost false (Channel.usable p.measure.cabin) := by
  have watched : Plan.watched t (Part.planInputs p) p.plan
      = { Plan.computed (Part.planInputs p) p.plan with watch := .armed, begun := false, frost := false, maintain := false } := by
    have found := (foundPassed_iff t p).mpr passed
    subst change
    exact heatWatch_roster_ends ((computed_lead _ p).trans lead) minutes above found
  obtain ⟨watch, begun, -⟩ := recompute_watch (t := t) opens
  obtain ⟨frost, -, maintain⟩ := replan_notBegun t p.plan (i := Part.planInputs p) opens (by rw [watched])
  rw [watched] at watch begun frost maintain
  rw [← recompute_plan] at frost maintain
  exact ⟨watch, begun, maintain, frost⟩

/-- A minute event does to the watch and to heating what `heatWatchMinute` says; once heating has begun, to the frost substate
too. -/
theorem recompute_minute (event : t = .minute) :
    (recompute t p).plan.watch = (heatWatchMinute p.osc (m ≤ l) p.plan).watch
      ∧ (recompute t p).plan.begun = (heatWatchMinute p.osc (m ≤ l) p.plan).begun
      ∧ (recompute t p).plan.rearmed = (heatWatchMinute p.osc (m ≤ l) p.plan).rearmed
      ∧ ((heatWatchMinute p.osc (m ≤ l) p.plan).begun = true →
          (recompute t p).plan.frost = (heatWatchMinute p.osc (m ≤ l) p.plan).frost) := by
  have same : (heatWatchMinute p.osc (m ≤ l) (Plan.computed (Part.planInputs p) p.plan)).watch
        = (heatWatchMinute p.osc (m ≤ l) p.plan).watch
      ∧ (heatWatchMinute p.osc (m ≤ l) (Plan.computed (Part.planInputs p) p.plan)).begun
        = (heatWatchMinute p.osc (m ≤ l) p.plan).begun
      ∧ (heatWatchMinute p.osc (m ≤ l) (Plan.computed (Part.planInputs p) p.plan)).rearmed
        = (heatWatchMinute p.osc (m ≤ l) p.plan).rearmed
      ∧ (heatWatchMinute p.osc (m ≤ l) (Plan.computed (Part.planInputs p) p.plan)).frost
        = (heatWatchMinute p.osc (m ≤ l) p.plan).frost := by
    cases watch : p.plan.watch <;> cases begun : p.plan.begun <;> by_cases reached : m ≤ l <;>
      simp [heatWatchMinute, Plan.computed, watch, begun, reached]
  obtain ⟨sameWatch, sameBegun, sameRearmed, sameFrost⟩ := same
  obtain ⟨watch, begun, rearmed⟩ := recompute_watch (t := t) opens
  rw [watch, begun, rearmed, watched_minute lead minutes event]
  refine ⟨sameWatch, sameBegun, sameRearmed, fun after => ?_⟩
  rw [← sameBegun, ← watched_minute lead minutes event] at after
  rw [recompute_plan, (replan_begun t p.plan (i := Part.planInputs p) opens after).2.2.1,
    watched_minute lead minutes event, sameFrost]

/-- A minute event leaves heating that has begun, and the watch PASSED, or ARMED with that noted (R115,
notes/assumptions/25). -/
theorem recompute_minute_notes (event : t = .minute) (begun : p.plan.begun = true) (running : p.plan.watch ≠ .notBegun) :
    (recompute t p).plan.begun = true ∧ ((recompute t p).plan.watch = .passed
      ∨ ((recompute t p).plan.watch = .armed ∧ (recompute t p).plan.rearmed = some p.osc)) := by
  obtain ⟨watchAfter, begunAfter, rearmed, -⟩ := recompute_minute opens lead minutes event
  rw [watchAfter, begunAfter, rearmed]
  cases before : p.plan.watch with
  | notBegun => exact absurd before running
  | armed | passed => by_cases reached : m ≤ l <;> simp [heatWatchMinute, before, begun, reached]

end

theorem minutesToDeparture_recompute (t : Trigger) (p : Part) :
    Part.minutesToDeparture (recompute t p) = Part.minutesToDeparture p := by
  simp [Part.minutesToDeparture]

/-- With an identity and a roster copy held, a bay in PREPARE, READY or HELD has a lead and an M (R107). -/
theorem lead_of_open (t : Trigger) {p : Part} (opens : openState p.bay.state = true) {r : RosterCopy}
    (roster : p.bay.roster = some r) (identity : p.bay.identity.isSome) :
    ∃ l m, (recompute t p).plan.lead = some l ∧ Part.minutesToDeparture p = some m := by
  obtain ⟨d, identity⟩ := Option.isSome_iff_exists.mp identity
  have planned : plannedState p.bay.state = true := by
    cases hs : p.bay.state <;> simp_all [openState, plannedState]
  have lead : ∃ l, (recompute t p).plan.lead = some l := by
    rw [recompute_plan, (replan_lead _ _ _).2.1]
    cases cabin : (Part.planInputs p).cabin with
    | none => exact ⟨_, by rw [leadOf_fixed planned identity roster cabin]⟩
    | some tc => exact ⟨_, by rw [leadOf_computed planned identity roster cabin]⟩
  obtain ⟨l, lead⟩ := lead
  exact ⟨l, minutesTo p.clock.minute r.departure, lead, by simp [Part.minutesToDeparture, roster]⟩

/-- Each bay state decides the mode in one of four ways (R112, R113, R116, R117). -/
theorem bayState_kinds (b : BayState) :
    (b = .empty ∨ b = .coupled ∨ b = .cleared) ∨ b = .standby ∨ b = .releasing ∨ openState b = true := by
  cases b <;> simp [openState]

/-! ## Heating in PREPARE, READY and HELD (R114 to R116) -/

section
variable {t : Trigger} {p : Part} (opens : openState p.bay.state = true)
include opens

section
variable (begun : (recompute t p).plan.begun = true)
include begun

/-- Without a usable cabin reading heating stays in HEAT. -/
theorem recompute_heats_blind (noCabin : Channel.usable p.measure.cabin = none) :
    (recompute t p).plan.mode = .heat ∧ (recompute t p).plan.maintain = false := by
  rw [(recompute_watch opens).2.1] at begun
  obtain ⟨mode, maintain, -⟩ := replan_begun t p.plan (i := Part.planInputs p) opens begun
  rw [recompute_plan, mode, maintain, show (Part.planInputs p).cabin = none from noCabin]
  exact ⟨rfl, rfl⟩

/-- With one the target decides between HEAT and MAINTAIN (R116). -/
theorem recompute_heats {tc : Int} {tt : Nat} (cabin : Channel.usable p.measure.cabin = some tc)
    (htarget : (recompute t p).plan.target = some tt) :
    (p.plan.begun = false ∨ p.plan.mode ≠ .maintain → tc < (tt : Int) →
        (recompute t p).plan.mode = .heat ∧ (recompute t p).plan.maintain = false)
      ∧ (p.plan.begun = false ∨ p.plan.mode ≠ .maintain → (tt : Int) ≤ tc →
        (recompute t p).plan.mode = .maintain ∧ (recompute t p).plan.maintain = false)
      ∧ (p.plan.begun = true → p.plan.mode = .maintain → (recompute t p).plan.mode = .maintain
        ∧ (recompute t p).plan.maintain
          = (if tc < (tt : Int) - 10 then true else if (tt : Int) ≤ tc then false else p.plan.maintain)) := by
  rw [(recompute_watch opens).2.1] at begun
  obtain ⟨mode, maintain, -, target⟩ := replan_begun t p.plan (i := Part.planInputs p) opens begun
  rw [recompute_plan, target] at htarget
  rw [recompute_plan, mode, maintain, show (Part.planInputs p).cabin = some tc from cabin]
  obtain ⟨before, modeKept, maintainKept⟩ | ⟨before, heat⟩ := watched_begun begun
  · refine ⟨fun other below => ?_, fun other reached => ?_, fun _ inMaintain => ?_⟩
    · rw [modeHeating_below htarget (by simp_all) below]
      exact ⟨rfl, rfl⟩
    · rw [modeHeating_reached htarget (by simp_all) reached]
      exact ⟨rfl, rfl⟩
    · rw [modeHeating_maintain htarget (modeKept.trans inMaintain), maintainKept]
      exact ⟨modeKept.trans inMaintain, rfl⟩
  · refine ⟨fun _ below => ?_, fun _ reached => ?_, fun goesOn => ?_⟩
    · rw [modeHeating_below htarget (by simp [heat]) below]
      exact ⟨rfl, rfl⟩
    · rw [modeHeating_reached htarget (by simp [heat]) reached]
      exact ⟨rfl, rfl⟩
    · simp [before] at goesOn

end

/-- Heating ends on an entry from STANDBY or CLEARED, or at a later departure that finds the watch PASSED (R114, R115, R121). -/
theorem recompute_ends_heating (before : p.plan.begun = true) (after : (recompute t p).plan.begun = false) :
    t = .bayState .standby ∨ t = .bayState .cleared
      ∨ ((∃ c, t = .roster c) ∧ (p.plan.watch = .passed ∨ (p.plan.watch = .armed ∧ MeetsLaterDeparture t p))
        ∧ (recompute t p).plan.watch = .armed
        ∧ ∃ l m, (recompute t p).plan.lead = some l ∧ Part.minutesToDeparture p = some m ∧ (l : Int) < m) := by
  obtain ⟨watch, begun, -⟩ := recompute_watch (t := t) opens
  rw [begun, Plan.watched] at after
  rw [watch, Plan.watched, ← computed_lead]
  obtain ⟨begins, -⟩ | ⟨kept, -⟩ | ⟨-, -, notBegun, -⟩ | ⟨change, passed, above, watched⟩ :=
    heatWatch_cases t (Part.planInputs p) (Plan.computed (Part.planInputs p) p.plan)
  · exact (or_assoc.mp (.inl ((beginsHeatWatch_iff t).mp begins)))
  · rw [kept] at after
    exact absurd (after.symm.trans before) (by simp)
  · exact absurd (notBegun.symm.trans before) (by simp)
  · refine .inr (.inr ⟨change, ?_, by rw [watched], above⟩)
    exact ((foundPassed_iff t p).mp passed).imp_right fun ⟨armed, _, meets⟩ => ⟨armed, meets⟩

end

/-- Heating begins at a minute event that finds the watch ARMED, M at most the lead (R114). -/
theorem recompute_begins_heating {t : Trigger} {p : Part} (after : (recompute t p).plan.begun = true)
    (before : p.plan.begun = false) : t = .minute ∧ openState p.bay.state = true ∧ p.plan.watch = .armed
      ∧ ∃ l m, (recompute t p).plan.lead = some l ∧ Part.minutesToDeparture p = some m ∧ m ≤ (l : Int) := by
  obtain off | standby | releasing | opens := bayState_kinds p.bay.state
  · rw [recompute_plan, (replan_off t p.plan (i := Part.planInputs p) off).2.2.2.2] at after
    cases after
  · rw [recompute_plan, (replan_standby t p.plan (i := Part.planInputs p) standby).2.2.2.1] at after
    cases after
  · rw [recompute_plan, (replan_releasing t p.plan (i := Part.planInputs p) releasing).2.2.1, before] at after
    cases after
  · rw [(recompute_watch opens).2.1, Plan.watched] at after
    rw [← computed_lead]
    obtain ⟨-, watched⟩ | ⟨kept, -⟩ | ⟨event, armed, -, reached, -⟩ | ⟨-, -, -, watched⟩ :=
      heatWatch_cases t (Part.planInputs p) (Plan.computed (Part.planInputs p) p.plan)
    · simp [watched] at after
    · rw [kept] at after
      exact absurd (after.symm.trans before) (by simp)
    · exact ⟨event, opens, armed, reached⟩
    · simp [watched] at after

/-! ## A later departure at the moment of a minute event (R121, notes/assumptions/25) -/

section
variable {p : Part} {a c : RosterCopy} {l : Nat} {m : Int} (opens : openState p.bay.state = true) (begun : p.plan.begun = true)
  (running : p.plan.watch ≠ .notBegun) (later : DepartsLater p a c)
include opens begun running later

/-- Taken after the minute event, it ends heating. -/
theorem laterDeparture_afterMinute {r q : Part} (held : p.bay.roster = some a) (identity : p.bay.identity.isSome)
    (hr : r = recompute .minute p) (hq : q = recompute (.roster (some a)) { r with bay := { r.bay with roster := some c } })
    (lead : q.plan.lead = some l) (minutes : Part.minutesToDeparture q = some m) (above : (l : Int) < m) :
    q.plan.begun = false ∧ q.plan.watch = .armed := by
  obtain ⟨l', m', lead', minutes'⟩ := lead_of_open .minute opens held identity
  obtain ⟨begunAfter, noted⟩ := recompute_minute_notes opens lead' minutes' rfl begun running
  rw [← hr] at begunAfter noted
  generalize hw : ({ r with bay := { r.bay with roster := some c } } : Part) = w at hq
  subst hq
  rw [minutesToDeparture_recompute] at minutes
  have plan : w.plan = r.plan := by rw [← hw]
  have osc : w.osc = p.osc := by simp [← hw, hr]
  have opens' : openState w.bay.state = true := by simpa [← hw, hr] using opens
  have later' : DepartsLater w a c := by simpa [← hw, hr, DepartsLater] using later
  rw [← plan, ← osc] at noted
  rw [← plan] at begunAfter
  obtain ⟨watch, ends, -⟩ := recompute_roster_ends opens' lead minutes rfl above <|
    noted.imp_right fun ⟨armed, rearmed⟩ => ⟨armed, begunAfter, .inl rearmed, a, c, rfl, by rw [← hw], later'⟩
  exact ⟨ends, watch⟩

/-- Taken before it, too. -/
theorem laterDeparture_beforeMinute {r : Part} (due : MinuteStillDue p)
    (hr : r = recompute (.roster (some a)) { p with bay := { p.bay with roster := some c } })
    (lead : r.plan.lead = some l) (minutes : Part.minutesToDeparture r = some m) (above : (l : Int) < m) :
    r.plan.begun = false ∧ r.plan.watch = .armed := by
  generalize hw : ({ p with bay := { p.bay with roster := some c } } : Part) = w at hr
  subst hr
  rw [minutesToDeparture_recompute] at minutes
  have watch : w.plan.watch = .passed ∨ w.plan.watch = .armed := by
    rw [← hw]
    cases before : p.plan.watch <;> simp_all
  have meets : MeetsLaterDeparture (.roster (some a)) w := by
    rw [← hw]
    exact ⟨.inr due, a, c, rfl, rfl, later⟩
  obtain ⟨watch, ends, -⟩ := recompute_roster_ends (by rw [← hw]; exact opens) lead minutes rfl above <|
    watch.imp_right fun armed => ⟨armed, by rw [← hw]; exact begun, meets⟩
  exact ⟨ends, watch⟩

end

/-- Settles O28: the states by `replan_off`, `replan_standby`, `replan_releasing` and, in PREPARE, READY and HELD, `heatWatch_cases`
and what each trigger does to the watch. -/
theorem modeFollowsTheBayStateAndHeatingBegins : Obligations.ModeFollowsTheBayStateAndHeatingBegins := by
  refine ⟨fun t p frost hfrost => ⟨fun off => ?_, fun standby => ?_, fun opens => ⟨fun begun => ?_, fun begun => ?_⟩,
    fun releasing => ?_⟩, fun t p => ⟨fun after before => ?_, fun opens before after => ?_, fun opens begins => ?_⟩,
    fun t p q l m hq opens lead minutes => ⟨fun event => ?_, fun change above passed => ?_, fun change stays => ?_,
      fun other => ?_⟩,
    fun p r q a c l m opens begun running held identity later => ⟨fun hr hq lead minutes above => ?_,
      fun due hr lead minutes above => ?_⟩⟩
  · rw [recompute_plan]
    exact replan_off t p.plan off
  · obtain ⟨frostAfter, mode, watch, begun, maintain⟩ := replan_standby t p.plan (i := Part.planInputs p) standby
    have judged : judgeFrost p.plan.frost (Channel.usable p.measure.cabin) = frost := hfrost.symm
    rw [recompute_plan]
    exact ⟨frostAfter.trans judged, by rw [mode, ← judged]; rfl, watch, begun, maintain⟩
  · rw [(recompute_watch opens).2.1] at begun
    obtain ⟨frostAfter, mode, -⟩ := replan_notBegun t p.plan (i := Part.planInputs p) opens begun
    rw [recompute_plan]
    refine ⟨mode, fun notRoster _ => ?_⟩
    rw [frostAfter, watched_frost begun notRoster, hfrost]
    rfl
  · exact ⟨recompute_heats_blind opens begun, fun _ _ cabin target => recompute_heats opens begun cabin target⟩
  · rw [recompute_plan]
    exact replan_releasing t p.plan releasing
  · exact recompute_begins_heating after before
  · exact recompute_ends_heating opens before after
  · obtain ⟨watch, begun, -⟩ := recompute_watch (t := t) opens
    rw [watch, begun, Plan.watched, heatWatch_begins _ _ ((beginsHeatWatch_iff t).mpr begins)]
    exact ⟨rfl, rfl⟩
  · subst hq
    obtain ⟨watch, begun, rearmed, frost⟩ := recompute_minute opens lead minutes event
    rw [watch, begun, rearmed]
    refine ⟨fun armed reached => ?_, fun armed above => ?_, fun passed reached => ?_, fun passed above => ?_⟩
    · have after : (heatWatchMinute p.osc (m ≤ l) p.plan).begun = true := by
        cases before : p.plan.begun <;> simp [heatWatchMinute, armed, reached, before]
      refine ⟨?_, after, fun before => ?_⟩
      · cases before : p.plan.begun <;> simp [heatWatchMinute, armed, reached, before]
      · rw [frost after]
        simp [heatWatchMinute, armed, reached, before]
    · cases before : p.plan.begun <;> simp [heatWatchMinute, armed, Int.not_le.mpr above, before]
    · simp [heatWatchMinute, passed, reached]
    · simp [heatWatchMinute, passed, Int.not_le.mpr above]
  · obtain ⟨c, change⟩ := change
    subst hq
    exact recompute_roster_ends opens lead minutes change above passed
  · obtain ⟨c, change⟩ := change
    subst hq
    obtain ⟨watch, begun, -⟩ := recompute_watch (t := t) opens
    rw [watch, begun, watched_roster_stays lead minutes change ?_]
    · exact ⟨rfl, rfl⟩
    · refine stays.imp_right fun notFound => ?_
      rw [← Bool.not_eq_true, foundPassed_iff]
      rintro (passed | ⟨armed, begun, meets⟩) <;> simp_all
  · subst hq
    obtain ⟨watch, begun, -⟩ := recompute_watch (t := t) opens
    rw [watch, begun, Plan.watched, heatWatch_still]
    · exact ⟨rfl, rfl⟩
    · obtain rfl | rfl | rfl | rfl | rfl := other <;> rfl
    · rintro rfl
      simp at other
    · rintro c rfl
      simp at other
  · exact laterDeparture_afterMinute opens begun running later held identity hr hq lead minutes above
  · exact laterDeparture_beforeMinute opens begun running later due hr lead minutes above

end Sys2Proof.Machine
end

section
/-! What the bay's operations leave of the coach link: its slots are written by requests, and everything else of it stays. -/

namespace Sys2Proof.Machine

/-- The coach link but for its request slots. -/
def Link.besidesSlots (l : Link) : Link := { l with slots := {} }

/-- Two links that agree but for their slots agree in the command in flight, in what its answer has gathered and in the hold. -/
theorem besidesSlots_fields {l k : Link} (h : Link.besidesSlots l = Link.besidesSlots k) :
    l.state = k.state ∧ l.inFlight = k.inFlight ∧ l.gathered = k.gathered ∧ l.waitCount = k.waitCount
      ∧ l.holdConfirmed = k.holdConfirmed ∧ l.identConfirmed = k.identConfirmed ∧ l.keepAlive = k.keepAlive :=
  have field {α : Type} (f : Link → α) : f (Link.besidesSlots l) = f (Link.besidesSlots k) := congrArg f h
  ⟨field Link.state, field Link.inFlight, field Link.gathered, field Link.waitCount, field Link.holdConfirmed,
    field Link.identConfirmed, field Link.keepAlive⟩

/-! ## Requests -/

@[simp] theorem setSlot_besidesSlots (who : Requester) (c : Option Command) (p : Part) :
    Link.besidesSlots (setSlot who c p).link = Link.besidesSlots p.link := rfl

@[simp] theorem place_besidesSlots (who : Requester) (code : CommandCode) (p : Part) :
    Link.besidesSlots (place who code p).link = Link.besidesSlots p.link := rfl

@[simp] theorem operationEnds_besidesSlots (p : Part) :
    Link.besidesSlots (operationEnds p).link = Link.besidesSlots p.link := rfl

@[simp] theorem sweepAbort_besidesSlots (lightsOff : Bool) (p : Part) :
    Link.besidesSlots (sweepAbort lightsOff p).link = Link.besidesSlots p.link := by
  unfold sweepAbort
  split
  · cases lightsOff <;> rfl
  · rfl

/-! ## The bay controller -/

@[simp] theorem enterReleasing_besidesSlots (p : Part) :
    Link.besidesSlots (enterReleasing p).link = Link.besidesSlots p.link := by
  simp [enterReleasing]

@[simp] theorem evaluate_besidesSlots (p : Part) : Link.besidesSlots (evaluate p).link = Link.besidesSlots p.link := by
  obtain same | same | ⟨-, new, -, same⟩ | ⟨-, same⟩ := evaluate_cases p <;> rw [same] <;> simp

@[simp] theorem tryPrepare_besidesSlots (p : Part) : Link.besidesSlots (tryPrepare p).link = Link.besidesSlots p.link := by
  unfold tryPrepare
  split <;> simp

@[simp] theorem copyArrives_besidesSlots (c : RosterCopy) (p : Part) :
    Link.besidesSlots (copyArrives c p).link = Link.besidesSlots p.link := by
  simp [copyArrives]

@[simp] theorem rosterLookup_besidesSlots (p : Part) :
    Link.besidesSlots (rosterLookup p).link = Link.besidesSlots p.link := by
  unfold rosterLookup
  (repeat' split) <;> simp

@[simp] theorem returnToHeld_besidesSlots (r : ReturnReasons) (p : Part) :
    Link.besidesSlots (returnToHeld r p).link = Link.besidesSlots p.link := by
  simp only [returnToHeld]
  split <;> simp

@[simp] theorem releaseEnds_besidesSlots (refused : Bool) (p : Part) :
    Link.besidesSlots (releaseEnds refused p).link = Link.besidesSlots p.link := by
  simp only [releaseEnds]
  split <;> simp

@[simp] theorem enterCleared_besidesSlots (p : Part) :
    Link.besidesSlots (enterCleared p).link = Link.besidesSlots p.link := by
  simp only [enterCleared]
  split <;> simp

@[simp] theorem holdOutcome_besidesSlots (o : BayOutcome) (p : Part) :
    Link.besidesSlots (holdOutcome o p).link = Link.besidesSlots p.link := by
  unfold holdOutcome
  (repeat' split) <;> simp

@[simp] theorem releaseOutcome_besidesSlots (o : BayOutcome) (p : Part) :
    Link.besidesSlots (releaseOutcome o p).link = Link.besidesSlots p.link := by
  simp only [releaseOutcome]
  (repeat' split) <;> simp

/-! ## The sweep and the fault list -/

@[simp] theorem completeSweep_besidesSlots (p : Part) :
    Link.besidesSlots (completeSweep p).link = Link.besidesSlots p.link := by
  simp [completeSweep]

@[simp] theorem lampsOutcome_besidesSlots (o : LampsOutcome) (p : Part) :
    Link.besidesSlots (lampsOutcome o p).link = Link.besidesSlots p.link := by
  unfold lampsOutcome
  (repeat' split) <;> simp

@[simp] theorem placeRead_besidesSlots (index : Nat) (p : Part) :
    Link.besidesSlots (placeRead index p).link = Link.besidesSlots p.link := rfl

@[simp] theorem completeRead_besidesSlots (p : Part) :
    Link.besidesSlots (completeRead p).link = Link.besidesSlots p.link := by
  simp [completeRead]

@[simp] theorem nextRecord_besidesSlots (p : Part) :
    Link.besidesSlots (nextRecord p).link = Link.besidesSlots p.link := by
  simp only [nextRecord]
  split <;> simp

@[simp] theorem takeRecord_besidesSlots (words : List Word16) (p : Part) :
    Link.besidesSlots (takeRecord words p).link = Link.besidesSlots p.link := by
  simp only [takeRecord]
  split <;> simp

@[simp] theorem faultOutcome_besidesSlots (code : CommandCode) (o : FaultOutcome) (p : Part) :
    Link.besidesSlots (faultOutcome code o p).link = Link.besidesSlots p.link := by
  simp only [faultOutcome]
  (repeat' split) <;> simp

end Sys2Proof.Machine
end
section
/-! The roster copy that arrives (R172, R174, R177), the latched reasons, and the bay's return from RELEASING and CLEARED
(R184 to R186). -/

namespace Sys2Proof.Machine

/-! ## The latched reasons and STALE_CLEARANCE (R178, R185) -/

/-- An evaluation keeps the latched reasons, since it judges the others alone, and the retry timer. -/
@[simp] theorem evaluate_latched (p : Part) :
    Reasons.latched (evaluate p).bay.reasons = Reasons.latched p.bay.reasons ∧ (evaluate p).bay.retry = p.bay.retry := by
  have judged : Reasons.latched (Part.judgedReasons p) = Reasons.latched p.bay.reasons := rfl
  obtain same | same | ⟨-, new, -, same⟩ | ⟨-, same⟩ := evaluate_cases p <;> rw [same] <;> simp [judged, enterReleasing]

/-- A latched reason holds the bay. -/
theorem any_of_latched {r : Reasons} (h : r.orderHold = true ∨ r.releaseRefused = true) : Reasons.any r = true := by
  obtain h | h := h <;> simp [Reasons.any, h]

/-- An evaluation in PREPARE, READY and HELD with such a reason ends in HELD (R179). -/
theorem evaluate_held_of_latched {p : Part} (opens : openState p.bay.state = true)
    (reason : p.bay.reasons.orderHold = true ∨ p.bay.reasons.releaseRefused = true) : (evaluate p).bay.state = .held := by
  have any : Reasons.any (Part.judgedReasons p) = true := any_of_latched reason
  rw [(evaluate_placed p opens).2, if_pos any]

/-- A recomputation leaves STALE_CLEARANCE. -/
@[simp] theorem recompute_stale (t : Trigger) (p : Part) :
    (recompute t p).remarks.staleClearance = p.remarks.staleClearance :=
  recompute_remark t p .staleClearance (by decide)

/-- STALE_CLEARANCE goes where the bay leaves CLEARED (R185). -/
theorem setBayState_stale (new : BayState) (p : Part) : (setBayState new p).remarks.staleClearance
    = (p.remarks.staleClearance && !(p.bay.state == .cleared && new != .cleared)) := by
  by_cases same : p.bay.state = new
  · subst same
    cases hs : p.bay.state <;> simp [setBayState, hs]
  · rw [setBayState_eq same, recompute_stale]
    by_cases cleared : p.bay.state = .cleared
    · simp [cleared, Ne.symm (cleared ▸ same)]
    · simp [cleared]

/-- No evaluation does that. -/
@[simp] theorem evaluate_stale (p : Part) : (evaluate p).remarks.staleClearance = p.remarks.staleClearance := by
  have kept : ∀ new, openState p.bay.state = true →
      (setBayState new (judge p)).remarks.staleClearance = p.remarks.staleClearance := by
    intro new opens
    simp [setBayState_stale, (not_closed_of_open opens).1]
  obtain same | same | ⟨opens, new, -, same⟩ | ⟨opens, same⟩ := evaluate_cases p <;> rw [same]
  · simp
  · exact kept new opens
  · rw [enterReleasing, setBayState_stale]
    simp [kept .ready opens]

/-! ## The roster copy that arrives (R172, R174, R177) -/

/-- In STANDBY with a clock that is not INVALID the copy takes the bay to PREPARE with the watches ARMED. -/
theorem tryPrepare_prepares {p : Part} (standby : p.bay.state = .standby) (copy : p.bay.roster.isSome)
    (dated : p.clock.status ≠ .invalid) : tryPrepare p = evaluate (setBayState .prepare (setWatches .armed p)) := by
  simp [tryPrepare, standby, copy, dated]

/-- Otherwise the bay waits. -/
theorem tryPrepare_waits {p : Part} (h : p.bay.state ≠ .standby ∨ p.clock.status = .invalid) : tryPrepare p = p := by
  unfold tryPrepare
  rw [if_neg]
  simp only [Bool.and_eq_true, decide_eq_true_eq, bne_iff_ne]
  rintro ⟨⟨standby, -⟩, dated⟩
  exact h.elim (absurd standby) dated

/-- What the bay's record keeps while a roster copy arrives: identity, window, revocation, latched reasons and timers. -/
def Bay.lasting (b : Bay) : Option Identity × Bool × Revocation × (Bool × Bool × Bool) × Option Moment :=
  (b.identity, b.window, b.revocation, Reasons.latched b.reasons, b.retry)

@[simp] theorem setBayState_lasting (new : BayState) (p : Part) :
    Bay.lasting (setBayState new p).bay = Bay.lasting p.bay := by
  simp [Bay.lasting]

@[simp] theorem evaluate_lasting (p : Part) : Bay.lasting (evaluate p).bay = Bay.lasting p.bay := by
  simp [Bay.lasting]

@[simp] theorem tryPrepare_lasting (p : Part) : Bay.lasting (tryPrepare p).bay = Bay.lasting p.bay
    ∧ (tryPrepare p).remarks.staleClearance = p.remarks.staleClearance
    ∧ (tryPrepare p).bay.roster = p.bay.roster := by
  by_cases prepares : p.bay.state = .standby ∧ p.bay.roster.isSome ∧ p.clock.status ≠ .invalid
  · obtain ⟨standby, copy, dated⟩ := prepares
    rw [tryPrepare_prepares standby copy dated]
    simp only [evaluate_lasting, setBayState_lasting, evaluate_stale, setBayState_stale, evaluate_bay, setBayState_bay]
    simp [standby, Bay.lasting]
  · have waits : tryPrepare p = p := by
      unfold tryPrepare
      rw [if_neg (by simpa [and_assoc] using prepares)]
    simp [waits]

@[simp] theorem copyArrives_lasting (c : RosterCopy) (p : Part) : Bay.lasting (copyArrives c p).bay = Bay.lasting p.bay
    ∧ (copyArrives c p).remarks.staleClearance = p.remarks.staleClearance
    ∧ (copyArrives c p).bay.roster = some c := by
  simp only [copyArrives, recompute_keeps, recompute_stale, tryPrepare_lasting]
  exact ⟨rfl, rfl, rfl⟩

/-! ## The lookup (R174) -/

section
variable {p : Part} {d : Identity} (standby : p.bay.state = .standby) (identity : p.bay.identity = some d)
  (noCopy : p.bay.roster = none)
include standby identity noCopy

/-- A lookup that finds the coach's entry has its copy arrive. -/
theorem rosterLookup_finds {e : RosterEntry} (found : p.cache.entries.find? (fun e => e.coach == d.coach) = some e) :
    rosterLookup p = copyArrives (RosterEntry.copy e) p := by
  simp [rosterLookup, standby, identity, noCopy, found]

/-- One that does not asks for the coach's number. -/
theorem rosterLookup_asks (missing : ∀ e ∈ p.cache.entries, e.coach ≠ d.coach) :
    rosterLookup p = raise .ask { p with cache := { p.cache with want := some d.coach, askCount := 0 } } := by
  have found : p.cache.entries.find? (fun e => e.coach == d.coach) = none := by simpa using missing
  simp [rosterLookup, standby, identity, noCopy, found]

end

/-- Outside STANDBY, without an identity or with a roster copy held there is no lookup. -/
theorem rosterLookup_elsewhere {p : Part} (h : p.bay.state ≠ .standby ∨ p.bay.identity = none ∨ p.bay.roster.isSome) :
    rosterLookup p = p := by
  unfold rosterLookup
  split
  · next standby identity noCopy => simp [standby, identity, noCopy] at h
  · rfl

/-- A lookup does nothing, asks, or has a copy arrive. -/
theorem rosterLookup_cases (p : Part) : rosterLookup p = p
    ∨ (∃ d, rosterLookup p = raise .ask { p with cache := { p.cache with want := some d, askCount := 0 } })
    ∨ (p.bay.state = .standby ∧ p.bay.roster = none ∧ ∃ c, rosterLookup p = copyArrives c p) := by
  unfold rosterLookup
  split
  · next standby _ noCopy =>
    split
    · exact .inr (.inr ⟨standby, noCopy, _, rfl⟩)
    · exact .inr (.inl ⟨_, rfl⟩)
  · exact .inl rfl

@[simp] theorem rosterLookup_lasting (p : Part) : Bay.lasting (rosterLookup p).bay = Bay.lasting p.bay
    ∧ (rosterLookup p).remarks.staleClearance = p.remarks.staleClearance := by
  obtain same | ⟨d, same⟩ | ⟨-, -, c, same⟩ := rosterLookup_cases p <;> rw [same] <;> simp

/-- A bay in STANDBY that a latched reason holds is in STANDBY after the lookup, its watches as they were, or in HELD. -/
theorem rosterLookup_state {p : Part} (standby : p.bay.state = .standby)
    (reason : p.bay.reasons.orderHold = true ∨ p.bay.reasons.releaseRefused = true) :
    ((rosterLookup p).bay.state = .standby ∧ (rosterLookup p).bay.readWatch = p.bay.readWatch
        ∧ (rosterLookup p).bay.sweepWatch = p.bay.sweepWatch ∧ (rosterLookup p).bay.windowWatch = p.bay.windowWatch)
      ∨ (rosterLookup p).bay.state = .held := by
  obtain same | ⟨d, same⟩ | ⟨-, -, c, same⟩ := rosterLookup_cases p <;> rw [same]
  · exact .inl ⟨standby, rfl, rfl, rfl⟩
  · simp [standby]
  · by_cases invalid : p.clock.status = .invalid
    · rw [copyArrives, tryPrepare_waits (.inr (by simpa using invalid))]
      simp [standby, stopAsking]
    · refine .inr ?_
      rw [copyArrives, tryPrepare_prepares (by simp [standby, stopAsking]) (by simp [stopAsking]) (by simpa using invalid)]
      simp only [recompute_keeps]
      exact evaluate_held_of_latched (by simp [openState]) (by simpa [stopAsking] using reason)

/-! ## The return from RELEASING and CLEARED (R184 to R186) -/

/-- The part whose revocation and reasons are those of a return, its bay not yet back. -/
def returning (r : ReturnReasons) (p : Part) : Part := { p with bay := { p.bay with
  revocation := .none
  reasons := { orderHold := r.orderHold, releaseRefused := r.releaseRefused } } }

theorem returnToHeld_eq (r : ReturnReasons) (p : Part) : returnToHeld r p
    = if p.bay.roster.isSome then evaluate (setBayState .held (returning r p)) else rosterLookup (standBy (returning r p)) :=
  rfl

/-- What the bay's record keeps on its way to STANDBY; the window closes. -/
theorem standBy_lasting (p : Part) : Bay.lasting (standBy p).bay = Bay.lasting { p.bay with window := false }
    ∧ (standBy p).remarks.staleClearance = (p.remarks.staleClearance && p.bay.state != .cleared) := by
  refine ⟨by simp [standBy, Bay.lasting, Reasons.latched, Part.judgedReasons], ?_⟩
  simp only [standBy, judge_keeps, setBayState_stale]
  cases p.bay.state <;> rfl

/-- The record of a bay that has come back, whether a roster copy is held or not. -/
theorem returnToHeld_lasting (r : ReturnReasons) (p : Part) :
    Bay.lasting (returnToHeld r p).bay = (p.bay.identity, p.bay.roster.isSome && p.bay.window, .none,
        (false, r.orderHold, r.releaseRefused), p.bay.retry)
      ∧ (returnToHeld r p).remarks.staleClearance = (p.remarks.staleClearance && p.bay.state != .cleared) := by
  rw [returnToHeld_eq]
  split
  · next copy =>
    rw [evaluate_lasting, setBayState_lasting, evaluate_stale, setBayState_stale]
    refine ⟨by simp [copy, returning, Bay.lasting, Reasons.latched], ?_⟩
    simp only [returning]
    cases p.bay.state <;> rfl
  · next noCopy =>
    rw [(rosterLookup_lasting _).1, (rosterLookup_lasting _).2, (standBy_lasting _).1, (standBy_lasting _).2]
    simp [noCopy, returning, Bay.lasting, Reasons.latched]

/-- A return with ORDER_HOLD or RELEASE_REFUSED, in the words of the statements (R184 to R186). -/
theorem returnToHeld_returned {r : ReturnReasons} (reason : r.orderHold = true ∨ r.releaseRefused = true) (p : Part) :
    BayReturned r.orderHold r.releaseRefused p (returnToHeld r p) := by
  obtain ⟨lasting, stale⟩ := returnToHeld_lasting r p
  simp only [Bay.lasting, Reasons.latched, Prod.mk.injEq] at lasting
  obtain ⟨identity, window, revocation, ⟨held, order, refused⟩, -⟩ := lasting
  have opens : (returnToHeld r p).bay.state = .held ∨ p.bay.roster = none := by
    rw [returnToHeld_eq]
    split
    · exact .inl (evaluate_held_of_latched (by simp [openState]) (by simpa [returning] using reason))
    · next noCopy => exact .inr (by simpa using noCopy)
  have waits : p.bay.roster = none → returnToHeld r p = rosterLookup (standBy (returning r p)) :=
    fun noCopy => by simp [returnToHeld_eq, noCopy]
  have looked := rosterLookup_state (p := standBy (returning r p)) (by simp)
    (by simpa [standBy, Part.judgedReasons, returning] using reason)
  refine ⟨revocation, order, refused, held, identity, fun cleared => by simp [stale, cleared], fun copy => ⟨?_, ?_, ?_⟩,
    fun noCopy => ⟨?_, ?_⟩, fun noCopy missing => ?_, fun h => ?_⟩
  · exact opens.resolve_right (by rintro noCopy; simp [noCopy] at copy)
  · simp [window, copy]
  · simp [returnToHeld_eq, copy, returning]
  · simp [window, noCopy]
  · rw [waits noCopy]
    exact looked.imp_left And.left
  · rw [waits noCopy]
    cases known : p.bay.identity with
    | none => rw [rosterLookup_elsewhere (.inr (.inl (by simp [returning, known])))]; simp
    | some d =>
      rw [rosterLookup_asks (d := d) (by simp) (by simp [returning, known]) (by simp [returning, noCopy])]
      · simp
      · simpa [standBy, setBayState_entries, returning] using missing d known
  · cases copy : p.bay.roster with
    | some c => simp [returnToHeld_eq, copy, returning]
    | none =>
      rw [waits copy] at h ⊢
      have standby := h.resolve_left (by simp [copy])
      obtain ⟨-, read, sweep, departure⟩ | held := looked
      · rw [read, sweep, departure]
        simp [returning]
      · rw [standby] at held
        cases held

end Sys2Proof.Machine
end

section
/-! The coach link's ACK (R126, R127, R130): what it leaves of the link, and what the command that it ends does. -/

namespace Sys2Proof.Machine

/-! ## The answer -/

/-- The part in which an ACK that fits has ended the command in flight, its outcome not yet told. -/
def acked (p : Part) : Part := leaveFlight (answerEnds (beatOpens p))

/-- An ACK that fits is the outcome of its command. -/
theorem coachWord_ack {p : Part} {f : InFlight} (link : p.link.state ≠ .down) (flight : p.link.inFlight = some f)
    (listens : f.phase ≠ .recovering) (empty : p.link.gathered = []) (fits : takesAck f.command.code = true) :
    coachWord .ack p = ackOutcome f.command (acked p) := by
  simp [coachWord, link, flight, InFlight.listens, listens, takeWord, takeAck, fits, empty, acked]

/-- What the answer leaves of the link: the beat of the word, no command in flight, and in UP the keep-alive timer anew. -/
theorem acked_link (p : Part) : (acked p).link = { p.link with
    beat := wordBeat p.link p.osc, heard := true, stationWord := nopWord, inFlight := none, waitCount := 0, gathered := []
    keepAlive := if p.link.state = .up then some ((acked p).osc + 10000000) else p.link.keepAlive } := by
  unfold acked answerEnds
  by_cases up : p.link.state = .up <;> simp [up, leaveFlight, beatOpens, beatHeard, keepAlivePeriod]

@[simp] theorem acked_keeps (p : Part) :
    (acked p).mode = p.mode ∧ (acked p).latch = p.latch ∧ (acked p).clock = p.clock ∧ (acked p).line = p.line
      ∧ (acked p).peers = p.peers ∧ (acked p).share = p.share ∧ (acked p).heat = p.heat
      ∧ (acked p).measure = p.measure ∧ (acked p).plan = p.plan ∧ (acked p).sweep = p.sweep
      ∧ (acked p).lamps = p.lamps ∧ (acked p).faults = p.faults ∧ (acked p).cache = p.cache ∧ (acked p).bay = p.bay
      ∧ (acked p).remarks = p.remarks ∧ (acked p).orders = p.orders ∧ (acked p).free = p.free := by
  simp [acked]

/-! ## PING and HOLD (R130, R133, R182, R186) -/

/-- The part in which a HOLD is confirmed for the coach that the bay holds, the evaluation still to come (R182). -/
def holdAnswered (p : Part) : Part := { p with
  bay := { p.bay with
    retry := none, holdAckAt := some p.osc, reasons := { p.bay.reasons with yardHoldRefused := false } }
  link := { p.link with holdConfirmed := true }
  line := Line.raised .baystate p.bay.reasons.yardHoldRefused p.line }

/-- A HOLD answered with a coach in the bay: the hold is confirmed, and the evaluation follows. -/
theorem holdOutcome_held {p : Part} (held : heldCoach p.bay.state = true) :
    holdOutcome .answered (setHold true p) = evaluate (holdAnswered p) := by
  have cleared : decide (({ p.bay.reasons with yardHoldRefused := false } : Reasons) ≠ p.bay.reasons)
      = p.bay.reasons.yardHoldRefused := by
    obtain ⟨_, _, _, _, _, _, _, _, yard, _, _⟩ := p.bay.reasons
    cases yard <;> simp
  have confirmed : setReasons { p.bay.reasons with yardHoldRefused := false }
      { setHold true p with bay := { p.bay with retry := none, holdAckAt := some p.osc } } = holdAnswered p := by
    rw [setReasons_eq, cleared]
    rfl
  rw [← confirmed]
  cases hs : p.bay.state <;> simp_all [holdOutcome, heldCoach]

/-- In CLEARED it completes a REQUESTED revocation. -/
theorem holdOutcome_revoked {p : Part} (cleared : p.bay.state = .cleared) (requested : p.bay.revocation = .requested) :
    holdOutcome .answered p = revocationEnd .taken jobLimit (returnToHeld { orderHold := true } p) := by
  simp [holdOutcome, cleared, requested]

/-- With none requested, RELEASE is placed. -/
theorem holdOutcome_cleared {p : Part} (cleared : p.bay.state = .cleared) (none_ : p.bay.revocation ≠ .requested) :
    holdOutcome .answered p = place .bay .release p := by
  simp [holdOutcome, cleared, none_]

/-- Elsewhere it has no effect. -/
theorem holdOutcome_elsewhere {p : Part} (o : BayOutcome)
    (h : p.bay.state = .releasing ∨ p.bay.state = .empty ∨ p.bay.state = .coupled) : holdOutcome o p = p := by
  obtain h | h | h := h <;> cases o <;> simp [holdOutcome, h]

/-- A return reads the bay and the cache of the part before, and the bay and the remarks of the part after. -/
theorem bayReturned_congr {orderHold refused : Bool} {p q p' q' : Part} (bay : p'.bay = p.bay) (cache : p'.cache = p.cache)
    (bay' : q'.bay = q.bay) (remarks' : q'.remarks = q.remarks) (h : BayReturned orderHold refused p q) :
    BayReturned orderHold refused p' q' := by
  simpa only [BayReturned, bay, cache, bay', remarks'] using h

/-- The end of a revocation at the bay's return with ORDER_HOLD (R186, R193). -/
theorem revocationEnd_returned (p : Part) :
    BayReturned true false p (revocationEnd .taken jobLimit (returnToHeld { orderHold := true } p))
      ∧ RevocationEnded .taken [] p (revocationEnd .taken jobLimit (returnToHeld { orderHold := true } p)) := by
  have returned := returnToHeld_returned (r := { orderHold := true }) (.inl rfl) p
  refine ⟨bayReturned_congr rfl rfl (by simp) (by simp) returned, ?_⟩
  refine revocationEnded_congr (w := returnToHeld { orderHold := true } p) (by simp) (revocationEnd_ended _ [] _ _ ?_)
  rw [List.append_nil]
  rfl

/-! ## RELEASE (R119, R184, R185) -/

/-- The part that has entered CLEARED, a DEFERRED revocation still to be requested. -/
def clearedNow (p : Part) : Part := setBayState .cleared { immediateZero p with bay := { p.bay with
  clearance := 0, chirps := some { cause := .cleared, start := p.osc } } }

/-- A DEFERRED revocation becomes REQUESTED on entry to CLEARED, with HOLD placed (R186). -/
theorem enterCleared_eq (p : Part) : enterCleared p = if p.bay.revocation = .deferred
    then place .bay .hold { clearedNow p with bay := { (clearedNow p).bay with revocation := .requested } }
    else clearedNow p := by
  have revocation : (clearedNow p).bay.revocation = p.bay.revocation := by simp [clearedNow]
  have placed : enterCleared p = match (clearedNow p).bay.revocation with
    | .deferred => place .bay .hold { clearedNow p with bay := { (clearedNow p).bay with revocation := .requested } }
    | _ => clearedNow p := rfl
  rw [placed, revocation]
  cases p.bay.revocation <;> simp

theorem enterCleared_blocks (p : Part) : (enterCleared p).plan = (clearedNow p).plan
    ∧ (enterCleared p).remarks = (clearedNow p).remarks ∧ (enterCleared p).share = (clearedNow p).share
    ∧ (enterCleared p).heat = (clearedNow p).heat
    ∧ (enterCleared p).bay = { (clearedNow p).bay with
      revocation := if p.bay.revocation = .deferred then .requested else (clearedNow p).bay.revocation } := by
  rw [enterCleared_eq]
  split <;> simp

/-- The entry to CLEARED from RELEASING is a recomputation of the part with grant and duty at 0 and its chirps begun. -/
theorem clearedNow_eq {p : Part} (releasing : p.bay.state = .releasing) : clearedNow p
    = recompute (.bayState .releasing) { immediateZero p with
      bay := { p.bay with
        state := .cleared, patternFrom := p.osc, clearance := 0, chirps := some { cause := .cleared, start := p.osc } }
      line := Line.raised .baystate true p.line } := by
  unfold clearedNow
  rw [setBayState_eq (by simp [releasing])]
  simp [releasing, Bay.chirpsLeft]

/-- In CLEARED the planner is OFF, and clearance cold is judged on the entry (R112, R119). -/
theorem clearedNow_plan {p : Part} (releasing : p.bay.state = .releasing) :
    (clearedNow p).plan.mode = .off ∧ (clearedNow p).plan.planCold = false
      ∧ (clearedNow p).remarks.cold = (clearedNow p).plan.clearanceCold ∧ (clearedNow p).remarks.cabinSensor = false
      ∧ (clearedNow p).plan.clearanceCold = (match Channel.usable p.measure.cabin with
        | none => true
        | some cabin => decide (cabin < (((p.bay.roster.map fun r => targetOf r.target).getD 180 : Nat) : Int) - 20)) := by
  rw [clearedNow_eq releasing]
  generalize hx : ({ immediateZero p with
      bay := { p.bay with
        state := .cleared, patternFrom := p.osc, clearance := 0, chirps := some { cause := .cleared, start := p.osc } }
      line := Line.raised .baystate true p.line } : Part) = x
  have state : x.bay.state = .cleared := by rw [← hx]
  have roster : x.bay.roster = p.bay.roster := by rw [← hx]
  have cabin : Channel.usable x.measure.cabin = Channel.usable p.measure.cabin := by simp [← hx]
  have cold : (recompute (.bayState .releasing) x).plan.planCold = false := by
    rw [recompute_plan, (replan_lead _ _ _).2.2.2.2, leadOf_absent (.inl (congrArg plannedState state))]
  refine ⟨?_, cold, ?_, ?_, ?_⟩
  · rw [recompute_plan]
    exact (replan_off _ _ (i := Part.planInputs x) (.inr (.inr state))).1
  · rw [recompute_remarks, cold, Bool.false_or]
  · simp [recompute_remarks, state, heldCoach]
  · rw [recompute_plan, replan_clearance, judgeClearance_entry _ _ state]
    cases read : Channel.usable p.measure.cabin <;> simp [(replan_lead _ _ _).1, Part.planInputs, cabin, roster, read]

/-- What the entry to CLEARED from RELEASING leaves of bay, share unit and heater (R184, R185). -/
theorem clearedNow_bay {p : Part} (releasing : p.bay.state = .releasing) :
    (clearedNow p).bay = { p.bay with
        state := .cleared, patternFrom := p.osc, clearance := 0, chirps := some { cause := .cleared, start := p.osc } }
      ∧ (clearedNow p).share.ga = 0 ∧ (clearedNow p).heat.duty = 0 ∧ (clearedNow p).heat.pin = false := by
  rw [clearedNow_eq releasing]
  simp

theorem releaseOutcome_releasing {p : Part} (h : p.bay.state = .releasing) : releaseOutcome .answered p = enterCleared p := by
  simp [releaseOutcome, h]

/-- A RELEASE answered anywhere but in RELEASING has no effect. -/
theorem releaseOutcome_elsewhere {p : Part} (h : p.bay.state ≠ .releasing) : releaseOutcome .answered p = p := by
  unfold releaseOutcome
  split <;> simp_all

/-! ## LAMPS and FCLEAR (R146, R147, R154, R164) -/

theorem mem_namedPositions (group : Nat) (mask : BitVec 4) (position : Nat) : position ∈ namedPositions group mask
    ↔ position / 4 = group ∧ mask.getLsbD (position % 4) = true := by
  simp only [namedPositions, List.mem_map, List.mem_filter, List.mem_range]
  constructor
  · rintro ⟨k, ⟨below, named⟩, rfl⟩
    have : (4 * group + k) % 4 = k := by omega
    exact ⟨by omega, by rwa [this]⟩
  · rintro ⟨rfl, named⟩
    exact ⟨position % 4, ⟨Nat.mod_lt _ (by decide), named⟩, Nat.div_add_mod position 4⟩

/-- The settle wait of a group is that of a filament lamp where the mask names one (R147). -/
theorem settleWait_eq (p : Part) (group : Nat) (mask : BitVec 4) : Part.settleWait p group mask
    = if ∃ l ∈ p.lamps, l.position / 4 = group ∧ mask.getLsbD (l.position % 4) = true
        ∧ l.fit.map (·.1) = some .filament then 250000 else 50000 := by
  unfold Part.settleWait
  refine if_congr ?_ rfl rfl
  simp only [List.any_eq_true, Bool.and_eq_true, List.contains_iff_mem, mem_namedPositions, and_assoc]
  refine exists_congr fun l => and_congr_right fun _ => and_congr_right fun _ => and_congr_right fun _ => ?_
  rcases l.fit with _ | ⟨_ | _, _⟩ <;> simp

/-- The LAMPS of an energised group starts the settle wait. -/
theorem lampsOutcome_settles {p : Part} {pass : Pass} {group : Nat} {mask : BitVec 4} (waits : p.sweep.lightsOff ≠ .inFlight)
    (running : p.sweep.status = .running pass (.energising group mask)) : lampsOutcome .answered p = { p with
      sweep := { p.sweep with
        status := .running pass (.settling group mask), settle := some (p.osc + Part.settleWait p group mask) } } := by
  simp [lampsOutcome, waits, running, setPhase]

/-- That of the lights-off request ends it, and no more. -/
theorem lampsOutcome_lightsOff {p : Part} (o : LampsOutcome) (lightsOff : p.sweep.lightsOff = .inFlight) :
    lampsOutcome o p = { p with sweep := { p.sweep with lightsOff := .notPlaced } } := by
  simp [lampsOutcome, lightsOff]

/-- An FCLEAR that its operation waits for goes on to FCOUNT. -/
theorem faultOutcome_erased {p : Part} (clearing : p.faults.status = .clearing) (free : p.link.slots.faults = none) :
    faultOutcome .fclear .erased p
      = place .faults .fcount { p with faults := { p.faults with kind := some .read, status := .counting } } := by
  simp [faultOutcome, clearing, free, OpStatus.command]

/-! ## The command's end -/

/-- Telling the outcome puts no command in flight. -/
theorem ackOutcome_flight (c : Command) (p : Part) : (ackOutcome c p).link.inFlight = p.link.inFlight
    ∧ (ackOutcome c p).link.gathered = p.link.gathered ∧ (ackOutcome c p).link.waitCount = p.link.waitCount := by
  have kept {q w : Part} (h : Link.besidesSlots q.link = Link.besidesSlots w.link) :
      q.link.inFlight = w.link.inFlight ∧ q.link.gathered = w.link.gathered ∧ q.link.waitCount = w.link.waitCount := by
    obtain ⟨-, flight, gathered, count, -⟩ := besidesSlots_fields h
    exact ⟨flight, gathered, count⟩
  unfold ackOutcome
  split
  · split <;> simp
  · exact kept (w := setHold true p) (by simp)
  · exact kept (w := setHold false p) (by simp)
  · exact kept (by simp)
  · exact kept (by simp)
  all_goals exact ⟨rfl, rfl, rfl⟩

theorem acked_unchanged (p : Part) : unchangedExcept [.osc, .link] p (acked p) := by
  intro b hb
  cases b <;> simp_all [agreeOn]

theorem ackOutcome_unchanged (c : Command) (p : Part) :
    unchangedExcept ([.share, .lamps, .orders] ++ bayBlocks) p (ackOutcome c p) := by
  intro b hb
  cases b <;> simp_all [agreeOn, bayBlocks]

/-- Settles O34. -/
theorem ackEndsItsCommand : Obligations.AckEndsItsCommand := by
  intro s f mode link flight listens empty fits
  refine completes_normal mode (by simp) (by simp) ?_
  rw [effect, coachWord_ack link flight listens empty fits]
  generalize hc : f.command = c at *
  refine ⟨?_, ?_, ?_, fun ping down => ?_, fun ping up => ?_, fun hold => ?_, fun release => ?_,
    fun lamps waits pass group mask running => ?_, fun lamps lightsOff => ?_, fun fclear clearing free => ?_, ?_⟩
  · simp [ackOutcome_flight, acked_link]
  · simp [ackOutcome_flight, acked_link]
  · simp [ackOutcome_flight, acked_link]
  · have told : ackOutcome c (acked s.part) = enterUp (acked s.part) := by simp [ackOutcome, ping, acked_link, down]
    rw [told]
    refine ⟨rfl, rfl, rfl, rfl, by simp [keepAlivePeriod], by simp [acked_link, Slots.put], fun b hb => ?_⟩
    cases b <;> simp_all [agreeOn]
  · have told : ackOutcome c (acked s.part) = acked s.part := by simp [ackOutcome, ping, acked_link, up]
    rw [told]
    exact ⟨by simp [acked_link, up], by simp [acked_link], acked_unchanged s.part⟩
  · have told : ackOutcome c (acked s.part) = holdOutcome .answered (setHold true (acked s.part)) := by
      simp [ackOutcome, hold]
    rw [told]
    obtain ⟨-, -, -, -, confirmed, -⟩ :=
      besidesSlots_fields (holdOutcome_besidesSlots .answered (setHold true (acked s.part)))
    refine ⟨confirmed, fun held => ?_, fun cleared requested => ?_, fun cleared none_ => ?_, fun elsewhere => ?_⟩
    · rw [holdOutcome_held (by simpa using held)]
      obtain ⟨latched, retry⟩ := evaluate_latched (holdAnswered (acked s.part))
      refine ⟨congrArg Prod.fst latched, retry, holdAnswered (acked s.part), rfl, ?_, rfl, ?_, ?_, ?_, ?_, fun b hb => ?_⟩
      · simp [holdAnswered]
      · simp [holdAnswered, acked_link]
      · simp [holdAnswered, acked_link]
      · simp [holdAnswered, acked_link]
      · simp [holdAnswered]
      · cases b <;> simp_all [agreeOn, holdAnswered]
    · rw [holdOutcome_revoked (by simpa using cleared) (by simpa using requested)]
      obtain ⟨returned, ended⟩ := revocationEnd_returned (setHold true (acked s.part))
      exact ⟨bayReturned_congr (by simp) (by simp) rfl rfl returned, revocationEnded_congr (by simp) ended⟩
    · rw [holdOutcome_cleared (by simpa using cleared) (by simpa using none_)]
      simp [Slots.put]
    · rw [holdOutcome_elsewhere .answered (by simpa using elsewhere)]
      simp [acked_link]
  · have told : ackOutcome c (acked s.part) = releaseOutcome .answered (setHold false (acked s.part)) := by
      simp [ackOutcome, release]
    rw [told]
    obtain ⟨-, -, -, -, confirmed, -⟩ :=
      besidesSlots_fields (releaseOutcome_besidesSlots .answered (setHold false (acked s.part)))
    refine ⟨confirmed, fun releasing => ?_, fun elsewhere => ?_, fun releasing deferred => ?_⟩
    · have state : (setHold false (acked s.part)).bay.state = .releasing := by simpa using releasing
      obtain ⟨plan, remarks, share, heat, record⟩ := enterCleared_blocks (setHold false (acked s.part))
      obtain ⟨mode, planCold, cold, cabinSensor, clearance⟩ := clearedNow_plan state
      obtain ⟨bay, grant, duty, pin⟩ := clearedNow_bay state
      rw [releaseOutcome_releasing state, plan, remarks, share, heat, record, bay]
      refine ⟨rfl, grant, duty, pin, rfl, by simp, mode, planCold, cold, cabinSensor, clearance.trans ?_⟩
      simp only [setHold_keeps, acked_keeps]
      cases Channel.usable s.part.measure.cabin with
      | none => rfl
      | some tc => cases roster : s.part.bay.roster <;> simp [targetOf_eq]
    · rw [releaseOutcome_elsewhere (by simpa using elsewhere)]
      simp
    · rw [releaseOutcome_releasing (by simpa using releasing), enterCleared_eq, if_pos (by simpa using deferred)]
      simp [Slots.put]
  · have told : ackOutcome c (acked s.part) = lampsOutcome .answered (acked s.part) := by simp [ackOutcome, lamps]
    have wait : Part.settleWait (acked s.part) group mask = Part.settleWait s.part group mask := by
      simp [Part.settleWait]
    rw [told, lampsOutcome_settles (by simpa using waits) (by simpa using running), wait, settleWait_eq]
    refine ⟨rfl, by simp, fun b hb => ?_⟩
    cases b <;> simp_all [agreeOn]
  · have told : ackOutcome c (acked s.part) = lampsOutcome .answered (acked s.part) := by simp [ackOutcome, lamps]
    rw [told, lampsOutcome_lightsOff .answered (by simpa using lightsOff)]
    refine ⟨by simp, fun b hb => ?_⟩
    cases b <;> simp_all [agreeOn]
  · have told : ackOutcome c (acked s.part) = faultOutcome .fclear .erased (acked s.part) := by simp [ackOutcome, fclear]
    rw [told, faultOutcome_erased (by simpa using clearing) (by simpa [acked_link] using free)]
    refine ⟨by simp, by simp [Slots.put], fun b hb => ?_⟩
    cases b <;> simp_all [agreeOn]
  · exact (acked_unchanged s.part).trans (ackOutcome_unchanged c _) (by decide) (by decide)

end Sys2Proof.Machine
end

section
/-! ROSTER_FRAME and ROSTER_CANCEL at the roster cache (R171, R172): the entries after a frame, and whether one was stored. -/

namespace Sys2Proof.Machine

/-! ## The entries (R172) -/

theorem holdsCoach_iff (coach : Nat) (es : List RosterEntry) : holdsCoach coach es = true ↔ ∃ x ∈ es, x.coach = coach := by
  simp [holdsCoach]

theorem mem_removeRoster (coach : Nat) (x : RosterEntry) (es : List RosterEntry) :
    x ∈ removeRoster coach es ↔ x ∈ es ∧ x.coach ≠ coach := by
  simp [removeRoster]

section
variable {now : Nat} {e : RosterEntry} {es : List RosterEntry}

/-- An entry of the coach is replaced, and none is stored anew. -/
theorem takeRoster_replaced (held : ∃ x ∈ es, x.coach = e.coach) (due : -30 ≤ minutesTo now e.departure) :
    takeRoster now e es = (insertRoster now e (removeRoster e.coach es), false) := by
  rw [takeRoster, if_pos ((holdsCoach_iff _ _).mpr held)]
  exact if_pos due

/-- An entry of the coach that is overdue by more than 30 minutes is removed. -/
theorem takeRoster_removed (held : ∃ x ∈ es, x.coach = e.coach) (overdue : minutesTo now e.departure < -30) :
    takeRoster now e es = (removeRoster e.coach es, false) := by
  rw [takeRoster, if_pos ((holdsCoach_iff _ _).mpr held)]
  exact if_neg (Int.not_le.mpr overdue)

section
variable (new : ∀ x ∈ es, x.coach ≠ e.coach)
include new

theorem not_holdsCoach_of_new : ¬holdsCoach e.coach es = true := by
  rw [holdsCoach_iff]
  rintro ⟨x, hx, same⟩
  exact new x hx same

/-- A new entry that is so overdue is dropped. -/
theorem takeRoster_overdue (overdue : minutesTo now e.departure < -30) : takeRoster now e es = (es, false) := by
  rw [takeRoster, if_neg (not_holdsCoach_of_new new)]
  exact if_pos overdue

/-- For any other the room in the cache decides, and its place in the order. -/
theorem takeRoster_due (due : -30 ≤ minutesTo now e.departure) : takeRoster now e es
    = if es.length < 16 then (insertRoster now e es, true)
      else if es.all fun x => RosterEntry.before now x e then (es, false)
      else (insertRoster now e es.dropLast, true) := by
  rw [takeRoster, if_neg (not_holdsCoach_of_new new)]
  exact if_neg (Int.not_lt.mpr due)

/-- While there is room it is stored. -/
theorem takeRoster_room (due : -30 ≤ minutesTo now e.departure) (room : es.length < 16) :
    takeRoster now e es = (insertRoster now e es, true) := by
  rw [takeRoster_due new due, if_pos room]

/-- With the cache full it is dropped where it would be the last in order. -/
theorem takeRoster_last (due : -30 ≤ minutesTo now e.departure) (full : 16 ≤ es.length)
    (last : ∀ x ∈ es, RosterEntry.before now x e = true) : takeRoster now e es = (es, false) := by
  rw [takeRoster_due new due, if_neg (Nat.not_lt.mpr full), if_pos (List.all_eq_true.mpr last)]

/-- Else it takes the place of the last. -/
theorem takeRoster_displaces (due : -30 ≤ minutesTo now e.departure) (full : 16 ≤ es.length)
    (earlier : ∃ x ∈ es, RosterEntry.before now x e = false) :
    takeRoster now e es = (insertRoster now e es.dropLast, true) := by
  rw [takeRoster_due new due, if_neg (Nat.not_lt.mpr full), if_neg (by simpa using earlier)]

end

/-- An entry that is stored is of a coach that the cache did not hold; beside it there are entries held before. -/
theorem takeRoster_stored (h : (takeRoster now e es).2 = true) : (∀ x ∈ es, x.coach ≠ e.coach)
    ∧ e ∈ (takeRoster now e es).1 ∧ ∀ x ∈ (takeRoster now e es).1, x = e ∨ x ∈ es := by
  have new : ∀ x ∈ es, x.coach ≠ e.coach := by
    by_contra held
    push Not at held
    by_cases due : -30 ≤ minutesTo now e.departure
    · simp [takeRoster_replaced held due] at h
    · simp [takeRoster_removed held (Int.not_le.mp due)] at h
  refine ⟨new, ?_⟩
  by_cases due : -30 ≤ minutesTo now e.departure
  · by_cases room : es.length < 16
    · simp [takeRoster_room new due room, mem_insertRoster]
    · have full := Nat.not_lt.mp room
      by_cases last : ∀ x ∈ es, RosterEntry.before now x e = true
      · simp [takeRoster_last new due full last] at h
      · rw [takeRoster_displaces new due full (by simpa using last)]
        simp only [mem_insertRoster, true_or, true_and]
        exact fun x => Or.imp_right (List.dropLast_subset es ·)
  · simp [takeRoster_overdue new (Int.not_le.mp due)] at h

end

end Sys2Proof.Machine
end
section
/-! The roster copy of the bay's own coach under a ROSTER frame (R172, R177, R180): its change and its removal. -/

namespace Sys2Proof.Machine

/-! ## The entries of the cache -/

/-- What follows a change of the roster copy leaves the entries of the cache. -/
@[simp] theorem tryPrepare_entries (p : Part) : (tryPrepare p).cache.entries = p.cache.entries := by
  unfold tryPrepare
  split <;> simp [setBayState_entries]

@[simp] theorem copyArrives_entries (c : RosterCopy) (p : Part) : (copyArrives c p).cache.entries = p.cache.entries := by
  simp [copyArrives]

@[simp] theorem rosterLookup_entries (p : Part) : (rosterLookup p).cache.entries = p.cache.entries := by
  obtain same | ⟨d, same⟩ | ⟨-, -, c, same⟩ := rosterLookup_cases p <;> rw [same] <;> simp

@[simp] theorem setCopy_entries (c : RosterCopy) (p : Part) : (setCopy c p).cache.entries = p.cache.entries := by
  simp only [setCopy]
  (repeat' split) <;> simp

@[simp] theorem toStandby_entries (p : Part) : (toStandby p).cache.entries = p.cache.entries := by
  simp [toStandby, standBy, setBayState_entries]

@[simp] theorem removeCopy_entries (p : Part) : (removeCopy p).cache.entries = p.cache.entries := by
  simp only [removeCopy]
  (repeat' split) <;> simp

/-! ## The copy is set (R172, R177, R180) -/

/-- The window closes above M 30; nothing else of the bay record is written. -/
theorem closeWindowIfEarly_bay {p : Part} {m : Int} (minutes : Part.minutesToDeparture p = some m) :
    (closeWindowIfEarly p).bay = { p.bay with window := p.bay.window && decide (m ≤ 30) } := by
  unfold closeWindowIfEarly
  by_cases early : 30 < m
  · simp [minutes, early]
  · simp [minutes, early, Int.not_lt.mp early]

/-- The part with a roster copy held or gone, no one told. -/
def withCopy (c : Option RosterCopy) (p : Part) : Part := { p with bay := { p.bay with roster := c } }

@[simp] theorem withCopy_bay (c : Option RosterCopy) (p : Part) : (withCopy c p).bay = { p.bay with roster := c } := rfl

@[simp] theorem withCopy_keeps (c : Option RosterCopy) (p : Part) :
    (withCopy c p).osc = p.osc ∧ (withCopy c p).latch = p.latch ∧ (withCopy c p).clock = p.clock
      ∧ (withCopy c p).line = p.line ∧ (withCopy c p).measure = p.measure ∧ (withCopy c p).plan = p.plan
      ∧ (withCopy c p).link = p.link ∧ (withCopy c p).sweep = p.sweep ∧ (withCopy c p).faults = p.faults
      ∧ (withCopy c p).cache = p.cache ∧ (withCopy c p).remarks = p.remarks ∧ (withCopy c p).free = p.free :=
  ⟨rfl, rfl, rfl, rfl, rfl, rfl, rfl, rfl, rfl, rfl, rfl, rfl⟩

/-- The part with a new roster copy under which window and watches have been judged, the evaluation still to come (R180). -/
def rewatched (c : RosterCopy) (p : Part) : Part := runWatches (closeWindowIfEarly (withCopy (some c) p))

theorem minutesToDeparture_withCopy (c : RosterCopy) (p : Part) :
    Part.minutesToDeparture (withCopy (some c) p) = some (minutesTo p.clock.minute c.departure) := rfl

theorem minutesToDeparture_closed (c : RosterCopy) (p : Part) :
    Part.minutesToDeparture (closeWindowIfEarly (withCopy (some c) p)) = some (minutesTo p.clock.minute c.departure) := by
  rw [Part.minutesToDeparture, closeWindowIfEarly_bay (minutesToDeparture_withCopy c p)]
  simp

/-- The bay record under a new copy at M. -/
theorem rewatched_bay {c : RosterCopy} {p : Part} {m : Int} (minutes : minutesTo p.clock.minute c.departure = m) :
    (rewatched c p).bay = Bay.watched m { p.bay with roster := some c, window := p.bay.window && decide (m ≤ 30) } := by
  have closed := minutesToDeparture_closed c p
  rw [minutes] at closed
  rw [rewatched, runWatches_eq closed]
  simp only [requestSweepIf_keeps, requestReadIf_keeps]
  rw [closeWindowIfEarly_bay (minutesToDeparture_withCopy c p), minutes]
  rfl

section
variable {c : RosterCopy} {p : Part}

theorem setCopy_arrives (noCopy : p.bay.roster = none) (standby : p.bay.state = .standby) : setCopy c p = copyArrives c p := by
  simp [setCopy, noCopy, standby]

theorem setCopy_late (noCopy : p.bay.roster = none) (elsewhere : p.bay.state ≠ .standby) :
    setCopy c p = recompute (.roster none) (withCopy (some c) p) := by
  simp [setCopy, noCopy, elsewhere, withCopy]

theorem setCopy_same (held : p.bay.roster = some c) : setCopy c p = p := by
  simp [setCopy, held]

section
variable {old : RosterCopy} (held : p.bay.roster = some old) (other : old ≠ c)
include held other

/-- An update in PREPARE, READY and HELD closes the window above M 30, runs the watches and is evaluated (R180). -/
theorem setCopy_open (opens : openState p.bay.state = true) : setCopy c p
    = recompute (.roster (some old)) (evaluate (rewatched c p)) := by
  simp [setCopy, held, other, opens, withCopy, rewatched]

/-- Elsewhere it is evaluated alone. -/
theorem setCopy_closed (closed : openState p.bay.state = false) :
    setCopy c p = recompute (.roster (some old)) (evaluate (withCopy (some c) p)) := by
  simp [setCopy, held, other, closed, withCopy]

end

/-- Whatever the state, the copy is then the one that the frame names. -/
theorem setCopy_roster (c : RosterCopy) (p : Part) : (setCopy c p).bay.roster = some c := by
  cases held : p.bay.roster with
  | none =>
    by_cases standby : p.bay.state = .standby
    · rw [setCopy_arrives held standby]
      exact (copyArrives_lasting c p).2.2
    · simp [setCopy_late held standby, withCopy]
  | some old =>
    by_cases same : old = c
    · subst same
      rw [setCopy_same held, held]
    · cases opens : openState p.bay.state with
      | true =>
        simp [setCopy_open held same opens, rewatched_bay rfl, Bay.watched]
      | false => simp [setCopy_closed held same opens, withCopy]

end

/-- What the evaluation of the watches leaves is the same from any part that agrees in the watches, in what a request to the fault
list reads, and in the sweep. -/
theorem watchesRun_congr {m : Int} {window : Bool} {p p' q q' : Part} (state : p'.bay.state = p.bay.state)
    (read : p'.bay.readWatch = p.bay.readWatch) (sweepWatch : p'.bay.sweepWatch = p.bay.sweepWatch)
    (windowWatch : p'.bay.windowWatch = p.bay.windowWatch) (clock : p'.clock = p.clock) (faults : p'.faults = p.faults)
    (link : p'.link = p.link) (sweep : p'.sweep = p.sweep) (bay' : q'.bay = q.bay) (faults' : q'.faults = q.faults)
    (link' : q'.link = q.link) (sweep' : q'.sweep = q.sweep) (h : WatchesRun m window p q) : WatchesRun m window p' q' := by
  obtain ⟨readFaults, readLink⟩ := faultRequest_congr .read state faults link
  simpa only [WatchesRun, read, sweepWatch, windowWatch, clock, faults, sweep, readFaults, readLink, link,
    sweepRequest_sweep, bay', faults', link', sweep'] using h

/-- The watches under a new copy at M, in the words of the statement (R180). -/
theorem rewatched_watchesRun {c : RosterCopy} {p : Part} {m : Int} (minutes : minutesTo p.clock.minute c.departure = m) :
    WatchesRun m (p.bay.window && decide (m ≤ 30)) p (rewatched c p) := by
  have closed := minutesToDeparture_closed c p
  have bay := closeWindowIfEarly_bay (minutesToDeparture_withCopy c p)
  rw [minutes] at closed bay
  have run := runWatches_watchesRun closed
  rw [show (closeWindowIfEarly (withCopy (some c) p)).bay.window = (p.bay.window && decide (m ≤ 30)) by rw [bay]; rfl] at run
  refine watchesRun_congr ?_ ?_ ?_ ?_ ?_ ?_ ?_ ?_ rfl rfl rfl rfl run <;> simp [bay]

theorem rewatched_unchanged (c : RosterCopy) (p : Part) :
    unchangedExcept [.bay, .link, .sweep, .faults] (withCopy (some c) p) (rewatched c p) := by
  intro b hb
  cases b <;> simp_all [agreeOn, rewatched]

/-! ## A frame that names a coach (R172, R174) -/

/-- The part whose cache has taken an entry, no one told. -/
def entryTaken (e : RosterEntry) (p : Part) : Part :=
  { p with cache := { p.cache with entries := (takeRoster p.clock.minute e p.cache.entries).1 } }

@[simp] theorem entryTaken_keeps (e : RosterEntry) (p : Part) :
    (entryTaken e p).osc = p.osc ∧ (entryTaken e p).clock = p.clock ∧ (entryTaken e p).line = p.line
      ∧ (entryTaken e p).plan = p.plan ∧ (entryTaken e p).bay = p.bay :=
  ⟨rfl, rfl, rfl, rfl, rfl⟩

theorem takeEntry_eq (e : RosterEntry) (p : Part) : takeEntry e p
    = let looked := if (takeRoster p.clock.minute e p.cache.entries).2 then rosterLookup (entryTaken e p) else entryTaken e p
      if Part.namesCoach looked e.coach then setCopy (RosterEntry.copy e) looked else looked := rfl

theorem namesCoach_iff (p : Part) (coach : Nat) :
    Part.namesCoach p coach = true ↔ ∃ d, p.bay.identity = some d ∧ d.coach = coach := by
  cases h : p.bay.identity <;> simp [Part.namesCoach, h]

/-- The only entry of a coach is the one that a lookup finds. -/
theorem find_coach {e : RosterEntry} {es : List RosterEntry} (mem : e ∈ es) (only : ∀ x ∈ es, x.coach = e.coach → x = e) :
    es.find? (fun x => x.coach == e.coach) = some e := by
  cases found : es.find? (fun x => x.coach == e.coach) with
  | none => simpa using List.find?_eq_none.mp found e mem
  | some x =>
    have coach : x.coach = e.coach := by simpa using List.find?_some found
    rw [only x (List.mem_of_find?_eq_some found) coach]

/-- A stored entry of the coach that the bay waits for is the one that the lookup finds. -/
theorem rosterLookup_stored {e : RosterEntry} {p : Part} {d : Identity} (identity : p.bay.identity = some d)
    (coach : d.coach = e.coach) (standby : p.bay.state = .standby) (noCopy : p.bay.roster = none)
    (stored : (takeRoster p.clock.minute e p.cache.entries).2 = true) :
    rosterLookup (entryTaken e p) = copyArrives (RosterEntry.copy e) (entryTaken e p) := by
  obtain ⟨new, mem, beside⟩ := takeRoster_stored stored
  have only : ∀ x ∈ (takeRoster p.clock.minute e p.cache.entries).1, x.coach = e.coach → x = e :=
    fun x hx same => (beside x hx).resolve_right fun held => new x held same
  exact rosterLookup_finds (p := entryTaken e p) standby identity noCopy (by rw [coach]; exact find_coach mem only)

/-- A frame that names the bay's coach sets its copy, whether the lookup has found it or not. -/
theorem takeEntry_named {e : RosterEntry} {p : Part} {d : Identity} (identity : p.bay.identity = some d)
    (coach : d.coach = e.coach) : takeEntry e p = setCopy (RosterEntry.copy e) (entryTaken e p) := by
  have names : ∀ q : Part, q.bay.identity = p.bay.identity → Part.namesCoach q e.coach = true :=
    fun q same => (namesCoach_iff q _).mpr ⟨d, same.trans identity, coach⟩
  rw [takeEntry_eq]
  dsimp only
  by_cases stored : (takeRoster p.clock.minute e p.cache.entries).2 = true
  · rw [if_pos stored]
    by_cases waits : p.bay.state = .standby ∧ p.bay.roster = none
    · obtain ⟨standby, noCopy⟩ := waits
      have arrived := copyArrives_lasting (RosterEntry.copy e) (entryTaken e p)
      obtain ⟨lasting, -, held⟩ := arrived
      rw [rosterLookup_stored identity coach standby noCopy stored, if_pos (names _ (congrArg Prod.fst lasting)),
        setCopy_same held, setCopy_arrives (p := entryTaken e p) noCopy standby]
    · have still : rosterLookup (entryTaken e p) = entryTaken e p := by
        refine rosterLookup_elsewhere (p := entryTaken e p) ?_
        exact (not_and_or.mp waits).imp_right fun held => .inr (Option.isSome_iff_ne_none.mpr held)
      rw [still, if_pos (names (entryTaken e p) rfl)]
  · rw [if_neg stored, if_pos (names (entryTaken e p) rfl)]

/-- One that names another sets off the lookup at most. -/
theorem takeEntry_other {e : RosterEntry} {p : Part} (other : ∀ d, p.bay.identity = some d → d.coach ≠ e.coach) : takeEntry e p
    = if (takeRoster p.clock.minute e p.cache.entries).2 then rosterLookup (entryTaken e p) else entryTaken e p := by
  have names : ∀ q : Part, q.bay.identity = p.bay.identity → ¬Part.namesCoach q e.coach = true := by
    intro q same named
    obtain ⟨d, identity, coach⟩ := (namesCoach_iff q _).mp named
    exact other d (same.symm.trans identity) coach
  rw [takeEntry_eq]
  dsimp only
  split
  · rw [if_neg (names _ (congrArg Prod.fst (rosterLookup_lasting (entryTaken e p)).1))]
  · rw [if_neg (names (entryTaken e p) rfl)]

/-! ## The arrival of a copy in STANDBY (R177) -/

section
variable {c : RosterCopy} {p : Part} (noCopy : p.bay.roster = none) (standby : p.bay.state = .standby)
include noCopy standby

/-- With the clock INVALID the planner alone is told. -/
theorem setCopy_undated (invalid : p.clock.status = .invalid) :
    setCopy c p = recompute (.roster none) (withCopy (some c) (stopAsking p)) := by
  rw [setCopy_arrives noCopy standby, copyArrives, tryPrepare_waits (.inr (by simpa using invalid))]
  rfl

/-- Otherwise the bay goes to PREPARE with its watches ARMED and is evaluated there, before the planner recomputes. -/
theorem setCopy_prepares (dated : p.clock.status ≠ .invalid) : setCopy c p = recompute (.roster none)
    (evaluate (setBayState .prepare (setWatches .armed (withCopy (some c) (stopAsking p))))) := by
  rw [setCopy_arrives noCopy standby, copyArrives,
    tryPrepare_prepares (by simpa using standby) (by simp [stopAsking]) (by simpa using dated)]
  rfl

/-- In both cases the cache no longer asks. -/
theorem setCopy_cache : (setCopy c p).cache = (stopAsking p).cache := by
  by_cases invalid : p.clock.status = .invalid
  · rw [setCopy_undated noCopy standby invalid]
    simp
  · rw [setCopy_prepares noCopy standby invalid]
    simp only [recompute_keeps, evaluate_cache]
    rw [setBayState_eq (by simp [standby])]
    simp [standby, stopAsking]

end

/-- An update of the copy leaves the cache. -/
theorem setCopy_cache_update {c old : RosterCopy} {p : Part} (held : p.bay.roster = some old) : (setCopy c p).cache = p.cache := by
  by_cases same : old = c
  · rw [setCopy_same (same ▸ held)]
  · cases opens : openState p.bay.state with
    | true => simp [setCopy_open held same opens, rewatched]
    | false => simp [setCopy_closed held same opens]

/-- So does a copy that arrives outside STANDBY. -/
theorem setCopy_cache_late {c : RosterCopy} {p : Part} (noCopy : p.bay.roster = none) (elsewhere : p.bay.state ≠ .standby) :
    (setCopy c p).cache = p.cache := by
  simp [setCopy_late noCopy elsewhere]

/-! ## The words of the statement -/

/-- The part at the end of a ROSTER frame, with the roster cache of `q`, under the roster copy of `q`. -/
theorem copySet_eq {p q y : Part} (hy : y = { frameEnds 86 p with cache := q.cache }) (osc : q.osc = (frameEnds 86 p).osc) :
    copySet p q = withCopy q.bay.roster y := by
  rw [hy, copySet, osc]
  rfl

section
variable {c : RosterCopy} {e : RosterEntry} {p q : Part} (hq : q = setCopy c (entryTaken e (frameEnds 86 p)))
include hq

theorem osc_of_setCopy : q.osc = (frameEnds 86 p).osc := by
  rw [hq]
  simp

/-- Where the cache has taken the entry and no more, the copy is set on the part that has taken it. -/
theorem copySet_of_setCopy (cache : q.cache = (entryTaken e (frameEnds 86 p)).cache) :
    copySet p q = withCopy (some c) (entryTaken e (frameEnds 86 p)) := by
  have roster : q.bay.roster = some c := by rw [hq, setCopy_roster]
  rw [← roster]
  exact copySet_eq (by rw [cache]; rfl) (osc_of_setCopy hq)

/-- A copy that arrives in STANDBY, the clock INVALID. -/
theorem frame_undated (noCopy : p.bay.roster = none) (standby : p.bay.state = .standby) (invalid : p.clock.status = .invalid) :
    q = recompute (.roster p.bay.roster) (copySet p q) ∧ q.bay = { p.bay with roster := q.bay.roster } := by
  have roster : q.bay.roster = some c := by rw [hq, setCopy_roster]
  have cache : q.cache = (stopAsking (entryTaken e (frameEnds 86 p))).cache := by
    rw [hq]
    exact setCopy_cache (p := entryTaken e (frameEnds 86 p)) noCopy standby
  have set : copySet p q = withCopy (some c) (stopAsking (entryTaken e (frameEnds 86 p))) := by
    rw [← roster]
    exact copySet_eq (by rw [cache]; rfl) (osc_of_setCopy hq)
  have told := hq.trans (setCopy_undated (p := entryTaken e (frameEnds 86 p)) noCopy standby invalid)
  refine ⟨?_, ?_⟩
  · rw [noCopy, set]
    exact told
  · rw [roster, told]
    simp

/-- A copy that arrives in STANDBY otherwise takes the bay to PREPARE (R177). -/
theorem frame_prepares (noCopy : p.bay.roster = none) (standby : p.bay.state = .standby) (dated : p.clock.status ≠ .invalid) :
    q.bay.readWatch = .armed ∧ q.bay.sweepWatch = .armed ∧ q.bay.windowWatch = .armed ∧ q.bay.window = p.bay.window
      ∧ q = recompute (.roster p.bay.roster) (evaluate (setBayState .prepare { copySet p q with bay := { p.bay with
        roster := q.bay.roster, readWatch := .armed, sweepWatch := .armed, windowWatch := .armed } }))
      ∧ (p.bay.window = false → openState q.bay.state = true ∧ (q.bay.state = .held ↔ Reasons.any q.bay.reasons = true)) := by
  have roster : q.bay.roster = some c := by rw [hq, setCopy_roster]
  have cache : q.cache = (stopAsking (entryTaken e (frameEnds 86 p))).cache := by
    rw [hq]
    exact setCopy_cache (p := entryTaken e (frameEnds 86 p)) noCopy standby
  have set : copySet p q = withCopy (some c) (stopAsking (entryTaken e (frameEnds 86 p))) := by
    rw [← roster]
    exact copySet_eq (by rw [cache]; rfl) (osc_of_setCopy hq)
  have told := hq.trans (setCopy_prepares (p := entryTaken e (frameEnds 86 p)) noCopy standby dated)
  generalize hx : setBayState .prepare (setWatches .armed (withCopy (some c) (stopAsking (entryTaken e (frameEnds 86 p))))) = x
    at told
  have opens : openState x.bay.state = true := by simp [← hx, openState]
  have window : x.bay.window = p.bay.window := by simp [← hx]
  refine ⟨?_, ?_, ?_, ?_, ?_, fun closed => ?_⟩
  · rw [told]; simp [← hx]
  · rw [told]; simp [← hx]
  · rw [told]; simp [← hx]
  · rw [told]; simp [← hx]
  · rw [noCopy, set, roster]
    exact told.trans (by rw [← hx]; rfl)
  · have bay : q.bay = (evaluate x).bay := by rw [told]; simp
    rw [bay]
    refine ⟨evaluate_stays_open x opens (window.trans closed), ?_⟩
    obtain ⟨reasons, state⟩ := evaluate_placed x opens
    rw [reasons, state]
    (repeat' split) <;> simp_all

end

end Sys2Proof.Machine
end

section
/-! A ROSTER frame that names the bay's coach, in the words of the statement (R172, R177, R180). -/

namespace Sys2Proof.Machine

section
variable {c : RosterCopy} {e : RosterEntry} {p q : Part} (hq : q = setCopy c (entryTaken e (frameEnds 86 p)))
include hq

theorem roster_of_setCopy : q.bay.roster = some c := by rw [hq, setCopy_roster]

section
variable (held : p.bay.roster.isSome)
include held

/-- An update leaves the cache, and is told to the planner last. -/
theorem copySet_of_update : copySet p q = withCopy (some c) (entryTaken e (frameEnds 86 p)) := by
  obtain ⟨old, held⟩ := Option.isSome_iff_exists.mp held
  refine copySet_of_setCopy hq ?_
  rw [hq]
  exact setCopy_cache_update (p := entryTaken e (frameEnds 86 p)) held

/-- The same copy again is no update. -/
theorem frame_same (same : q.bay.roster = p.bay.roster) : q = copySet p q := by
  have noted := hq.trans (setCopy_same (p := entryTaken e (frameEnds 86 p)) (same.symm.trans (roster_of_setCopy hq)))
  rw [copySet_of_update hq held, ← roster_of_setCopy hq, same]
  exact noted

section
variable (changed : q.bay.roster ≠ p.bay.roster)
include changed

/-- An update outside PREPARE, READY and HELD is evaluated as it stands. -/
theorem frame_evaluated (closed : openState p.bay.state = false) :
    q = recompute (.roster p.bay.roster) (evaluate (copySet p q)) := by
  rw [copySet_of_update hq held]
  obtain ⟨old, held⟩ := Option.isSome_iff_exists.mp held
  rw [held]
  refine hq.trans (setCopy_closed (p := entryTaken e (frameEnds 86 p)) held ?_ closed)
  rintro rfl
  exact changed ((roster_of_setCopy hq).trans held.symm)

/-- An update in PREPARE, READY and HELD runs the watches first (R180). -/
theorem frame_rewatched {m : Int} (minutes : minutesTo p.clock.minute c.departure = m) (opens : openState p.bay.state = true) :
    WatchesRun m (p.bay.window && decide (m ≤ 30)) p q ∧ ∃ w : Part, q = recompute (.roster p.bay.roster) (evaluate w)
      ∧ WatchesRun m (p.bay.window && decide (m ≤ 30)) p w
      ∧ w.bay = { p.bay with
          roster := q.bay.roster, readWatch := w.bay.readWatch, sweepWatch := w.bay.sweepWatch
          windowWatch := w.bay.windowWatch, window := w.bay.window }
      ∧ unchangedExcept [.bay, .link, .sweep, .faults] (copySet p q) w := by
  have set := copySet_of_update hq held
  obtain ⟨old, held⟩ := Option.isSome_iff_exists.mp held
  have other : old ≠ c := by
    rintro rfl
    exact changed ((roster_of_setCopy hq).trans held.symm)
  have told := hq.trans (setCopy_open (p := entryTaken e (frameEnds 86 p)) held other opens)
  have bay := rewatched_bay (p := entryTaken e (frameEnds 86 p)) minutes
  have run : WatchesRun m (p.bay.window && decide (m ≤ 30)) p (rewatched c (entryTaken e (frameEnds 86 p))) :=
    watchesRun_of_agree (p' := entryTaken e (frameEnds 86 p)) rfl rfl rfl rfl rfl (rewatched_watchesRun minutes)
  have unchanged := rewatched_unchanged c (entryTaken e (frameEnds 86 p))
  rw [← set] at unchanged
  generalize rewatched c (entryTaken e (frameEnds 86 p)) = w at *
  have state : w.bay.state = p.bay.state := by rw [bay]; rfl
  have notReleasing : w.bay.state ≠ .releasing := by
    intro releasing
    rw [← state, releasing] at opens
    cases opens
  refine ⟨?_, w, by rw [held]; exact told, run, ?_, unchanged⟩
  · rw [told]
    exact watchesRun_congr rfl rfl rfl rfl rfl rfl rfl rfl (by simp) (by simp) (by simp) (by simp)
      (watchesRun_evaluate notReleasing run)
  · rw [bay, roster_of_setCopy hq]
    rfl

end
end

/-- In RELEASING and CLEARED the copy alone changes, and the planner is told where it does. -/
theorem frame_late (late : p.bay.state = .releasing ∨ p.bay.state = .cleared) : q.bay = { p.bay with roster := q.bay.roster }
    ∧ (q.bay.roster ≠ p.bay.roster → q = recompute (.roster p.bay.roster) (copySet p q)) := by
  have closed : openState p.bay.state = false := by obtain h | h := late <;> rw [h] <;> rfl
  have told : q.bay.roster ≠ p.bay.roster → q = recompute (.roster p.bay.roster) (copySet p q) := by
    intro changed
    cases held : p.bay.roster with
    | none =>
      have elsewhere : p.bay.state ≠ .standby := by obtain h | h := late <;> rw [h] <;> decide
      have noted := hq.trans (setCopy_late (p := entryTaken e (frameEnds 86 p)) held elsewhere)
      rw [copySet_of_setCopy hq (by rw [noted]; simp)]
      exact noted
    | some old =>
      rw [← held]
      have judged := frame_evaluated hq (by simp [held]) changed closed
      rwa [evaluate_elsewhere _ (by obtain h | h := late <;> simp [copySet, h, heldCoach])] at judged
  refine ⟨?_, told⟩
  by_cases same : q.bay.roster = p.bay.roster
  · have held : p.bay.roster.isSome := by simp [← same, roster_of_setCopy hq]
    exact congrArg Part.bay (frame_same hq held same)
  · have kept : (recompute (.roster p.bay.roster) (copySet p q)).bay = (copySet p q).bay := by simp
    exact (congrArg Part.bay (told same)).trans kept

end

end Sys2Proof.Machine
end

section
/-! A ROSTER frame at the cache, and one that names another coach than the bay's (R172, R174, R198). -/

namespace Sys2Proof.Machine

section
variable {e : RosterEntry} {p : Part}

/-- The cache takes the entry, whatever the bay does. -/
@[simp] theorem takeEntry_entries (e : RosterEntry) (p : Part) :
    (takeEntry e p).cache.entries = (takeRoster p.clock.minute e p.cache.entries).1 := by
  rw [takeEntry_eq]
  dsimp only
  (repeat' split) <;> simp [entryTaken]

/-- The lookup that a frame for another coach sets off asks for the coach that the bay waits for, if it does anything. -/
theorem takeEntry_other_cases (other : ∀ d, p.bay.identity = some d → d.coach ≠ e.coach
      ∧ (p.bay.state = .standby → p.bay.roster = none → ∀ x ∈ p.cache.entries, x.coach ≠ d.coach)) :
    takeEntry e p = entryTaken e p
      ∨ ∃ d, p.bay.identity = some d ∧ p.bay.state = .standby ∧ p.bay.roster = none ∧ takeEntry e p
        = raise .ask { entryTaken e p with cache := { (entryTaken e p).cache with want := some d.coach, askCount := 0 } } := by
  rw [takeEntry_other fun d identity => (other d identity).1]
  split
  · next stored =>
    by_cases waits : p.bay.state ≠ .standby ∨ p.bay.identity = none ∨ p.bay.roster.isSome
    · exact .inl (rosterLookup_elsewhere (p := entryTaken e p) waits)
    · simp only [not_or, not_not, Bool.not_eq_true, Option.isSome_eq_false_iff, Option.isNone_iff_eq_none] at waits
      obtain ⟨standby, known, noCopy⟩ := waits
      obtain ⟨d, identity⟩ := Option.ne_none_iff_exists'.mp known
      obtain ⟨others, missing⟩ := other d identity
      obtain ⟨-, -, beside⟩ := takeRoster_stored stored
      refine .inr ⟨d, identity, standby, noCopy, rosterLookup_asks (p := entryTaken e p) standby identity noCopy ?_⟩
      intro x hx
      obtain rfl | before := beside x hx
      · exact others.symm
      · exact missing standby noCopy x before
  · exact .inl rfl

/-- A stored entry of another coach sets off the lookup of a bay that waits for its own. -/
theorem takeEntry_asks {d : Identity} (identity : p.bay.identity = some d) (other : d.coach ≠ e.coach)
    (standby : p.bay.state = .standby) (noCopy : p.bay.roster = none)
    (missing : ∀ x ∈ p.cache.entries, x.coach ≠ e.coach ∧ x.coach ≠ d.coach)
    (due : -30 ≤ minutesTo p.clock.minute e.departure) (room : p.cache.entries.length < 16) : takeEntry e p
    = raise .ask { entryTaken e p with cache := { (entryTaken e p).cache with want := some d.coach, askCount := 0 } } := by
  have taken := takeRoster_room (fun x hx => (missing x hx).1) due room
  rw [takeEntry_other (by rintro d' h; rw [identity] at h; cases h; exact other), if_pos (by rw [taken])]
  refine rosterLookup_asks (p := entryTaken e p) standby identity noCopy fun x hx => ?_
  rw [show (entryTaken e p).cache.entries = insertRoster p.clock.minute e p.cache.entries from congrArg Prod.fst taken,
    mem_insertRoster] at hx
  obtain rfl | before := hx
  · exact other.symm
  · exact (missing x before).2

theorem frameTaken_unchanged (e : RosterEntry) (p : Part) (l : Line) (c : Cache) :
    unchangedExcept [.osc, .line, .cache] p { entryTaken e (frameEnds 86 p) with line := l, cache := c } := by
  intro b hb
  cases b <;> simp_all [agreeOn, entryTaken, frameEnds]

/-- A frame for another coach leaves bay and plan; where the bay does not wait, it sets off no lookup. -/
theorem frame_other {q : Part} (hq : q = takeEntry e (frameEnds 86 p))
    (other : ∀ d, p.bay.identity = some d → d.coach ≠ e.coach
      ∧ (p.bay.state = .standby → p.bay.roster = none → ∀ x ∈ p.cache.entries, x.coach ≠ d.coach)) :
    q.bay = p.bay ∧ q.plan = p.plan ∧ unchangedExcept [.osc, .line, .cache] p q
      ∧ (p.bay.identity = none ∨ p.bay.state ≠ .standby ∨ p.bay.roster.isSome →
        q.line = Part.lineAfter p q.osc ∧ q.cache = { p.cache with entries := q.cache.entries }) := by
  obtain taken | ⟨d, identity, standby, noCopy, asks⟩ := takeEntry_other_cases (p := frameEnds 86 p) other
  · rw [hq, taken]
    exact ⟨rfl, rfl, frameTaken_unchanged e p _ _, fun _ => ⟨rfl, rfl⟩⟩
  · rw [hq, asks, raise_eq_raised]
    refine ⟨rfl, rfl, frameTaken_unchanged e p _ _, fun waits => ?_⟩
    have identity : p.bay.identity = some d := identity
    have standby : p.bay.state = .standby := standby
    have noCopy : p.bay.roster = none := noCopy
    simp [identity, standby, noCopy] at waits

theorem takeEntry_unchanged (e : RosterEntry) (p : Part) : unchangedExcept bayBlocks p (takeEntry e p) := by
  intro b hb
  cases b <;> simp_all [agreeOn, bayBlocks]

end

/-! ## The forms of the frame (R172, R198) -/

section
variable {b : RosterPayload}

theorem takeRosterFrame_entry (coach : b.coach ≠ 0) (minute : b.departure.toNat ≤ 1439) : takeRosterFrame b
    = takeEntry { coach := b.coach.toNat, departure := b.departure.toNat, target := b.target.toNat, run := b.run.toNat } := by
  funext p
  have notCancel : b.departure.toNat ≠ cancelMinute := by unfold cancelMinute; omega
  rw [takeRosterFrame, if_neg coach, if_neg notCancel, if_pos minute]

theorem takeRosterFrame_cancel (coach : b.coach ≠ 0) (cancel : b.departure.toNat = 2047) :
    takeRosterFrame b = takeCancel b.coach.toNat := by
  funext p
  rw [takeRosterFrame, if_neg coach]
  exact if_pos cancel

theorem takeRosterFrame_ignored (h : b.coach = 0 ∨ (1440 ≤ b.departure.toNat ∧ b.departure.toNat ≠ 2047)) (p : Part) :
    takeRosterFrame b p = p := by
  by_cases coach : b.coach = 0
  · exact if_pos coach
  · obtain ⟨high, notCancel⟩ := h.resolve_left coach
    rw [takeRosterFrame, if_neg coach]
    exact (if_neg notCancel).trans (if_neg (by omega))

/-- Departure 2047 reads the coach number alone. -/
theorem takeRosterFrame_cancels {f : RosterPayload} (cancel : b.departure.toNat = 2047) (cancel' : f.departure.toNat = 2047)
    (same : f.coach = b.coach) : takeRosterFrame b = takeRosterFrame f := by
  by_cases coach : b.coach = 0
  · funext p
    rw [takeRosterFrame_ignored (.inl coach), takeRosterFrame_ignored (.inl (same.trans coach))]
  · rw [takeRosterFrame_cancel coach cancel, takeRosterFrame_cancel (by rwa [same]) cancel', same]

end

/-- A ROSTER frame of another station, of 86 bits. -/
theorem effect_rosterFrame {n : StationNo} {p : Part} (b : RosterPayload) (other : n.toNat ≠ p.latch.station) :
    effect (.rosterFrame n b) p = takeRosterFrame b (frameEnds 86 p) := receive_other n 7 (takeRosterFrame b) p other

end Sys2Proof.Machine
end

section
/-! A cancel at the cache, the roster copy, the bay and the planner (R102, R172, R174, R177). -/

namespace Sys2Proof.Machine

/-! ## The bay returns to STANDBY -/

theorem judge_raises (p : Part) : ∃ due, (judge p).line = Line.raised .baystate due p.line :=
  ⟨_, by rw [judge, setReasons_eq]⟩

theorem standBy_raises {p : Part} (leaves : p.bay.state ≠ .standby) :
    ∃ due, (standBy p).line = Line.raised .baystate due p.line := by
  obtain ⟨due, judged⟩ := judge_raises (setBayState .standby { p with bay := { p.bay with window := false } })
  rw [setBayState_line .standby { p with bay := { p.bay with window := false } } leaves, raised_raised] at judged
  exact ⟨_, judged⟩

/-- A recomputation reads the inputs, the plan before it and the free counter. -/
theorem recompute_plan_congr (t : Trigger) {p w : Part} (inputs : Part.planInputs w = Part.planInputs p)
    (plan : w.plan = p.plan) (free : w.free = p.free) :
    (recompute t w).plan = (recompute t p).plan ∧ (recompute t w).free = (recompute t p).free := by
  simp [recompute, judgePlanRemarks, inputs, plan, free]

/-- The plan of a bay that returns to STANDBY is that of the change of bay state (R102); window, watches and reasons are none of
its inputs. -/
theorem standBy_plan {p : Part} (leaves : p.bay.state ≠ .standby) :
    let x := recompute (.bayState p.bay.state) { p with bay := { p.bay with state := .standby } }
    (standBy p).plan = x.plan ∧ (standBy p).free = x.free := by
  have entered := setBayState_eq (new := .standby) (p := { p with bay := { p.bay with window := false } }) leaves
  simp only [standBy, judge_keeps, entered]
  exact recompute_plan_congr _ rfl rfl rfl

theorem toStandby_plan {p : Part} (leaves : p.bay.state ≠ .standby) :
    let x := recompute (.bayState p.bay.state) { p with bay := { p.bay with state := .standby } }
    (toStandby p).plan = x.plan ∧ (toStandby p).free = x.free := by
  obtain ⟨plan, free⟩ := standBy_plan (p := setWatches .notBegun p) leaves
  dsimp only
  rw [toStandby, plan, free]
  exact recompute_plan_congr _ rfl rfl rfl

/-! ## The roster copy goes (R172, R177) -/

section
variable {p : Part} {old : RosterCopy}

theorem removeCopy_none (noCopy : p.bay.roster = none) : removeCopy p = p := by
  simp [removeCopy, noCopy]

theorem removeCopy_closed (held : p.bay.roster = some old) (closed : openState p.bay.state = false) :
    removeCopy p = recompute (.roster (some old)) (withCopy none p) := by
  simp [removeCopy, held, closed, withCopy]

/-- In PREPARE, READY and HELD the bay returns to STANDBY and asks for its coach anew. -/
theorem removeCopy_open {d : Identity} (held : p.bay.roster = some old) (opens : openState p.bay.state = true)
    (identity : p.bay.identity = some d) (missing : ∀ x ∈ p.cache.entries, x.coach ≠ d.coach) : removeCopy p
    = recompute (.roster (some old)) (raise .ask { toStandby (withCopy none p) with
        cache := { (toStandby (withCopy none p)).cache with want := some d.coach, askCount := 0 } }) := by
  have asks := rosterLookup_asks (p := toStandby (withCopy none p)) (d := d) (by simp [toStandby])
    (by simpa [toStandby] using identity) (by simp [toStandby]) (by simpa using missing)
  rw [← asks]
  simp [removeCopy, held, opens, withCopy]

end

/-- The return to STANDBY raises BAYSTATE besides the ASK that it ends in. -/
theorem returned_ask {t : Trigger} {c : Cache} {w q : Part} (leaves : w.bay.state ≠ .standby)
    (told : q = recompute t (raise .ask { toStandby w with cache := c })) :
    q.line.flags.ask = (Line.raised .ask true w.line).flags.ask
      ∧ q.line.marks.ask = (Line.raised .ask true w.line).marks.ask := by
  have asked : q.line.flags.ask = (Line.raised .ask true (toStandby w).line).flags.ask
      ∧ q.line.marks.ask = (Line.raised .ask true (toStandby w).line).marks.ask := by
    rw [told, recompute_line, raise_eq_raised]
    exact (raised_baystate_ask _ _).imp_right And.left
  obtain ⟨due, line⟩ := standBy_raises (p := setWatches .notBegun w) leaves
  obtain ⟨flag, mark, tx⟩ := raised_baystate_ask due w.line
  rw [asked.1, asked.2, toStandby, line]
  exact raised_ask_congr true tx flag mark

/-! ## A cancel -/

/-- The part whose cache holds no entry of the coach, no one told. -/
def coachGone (coach : Nat) (p : Part) : Part :=
  { p with cache := { p.cache with entries := removeRoster coach p.cache.entries } }

@[simp] theorem coachGone_keeps (coach : Nat) (p : Part) :
    (coachGone coach p).osc = p.osc ∧ (coachGone coach p).clock = p.clock ∧ (coachGone coach p).line = p.line
      ∧ (coachGone coach p).plan = p.plan ∧ (coachGone coach p).bay = p.bay :=
  ⟨rfl, rfl, rfl, rfl, rfl⟩

section
variable {coach : Nat} {p : Part}

theorem takeCancel_named {d : Identity} (identity : p.bay.identity = some d) (named : d.coach = coach) :
    takeCancel coach p = removeCopy (coachGone coach p) :=
  if_pos ((namesCoach_iff (coachGone coach p) coach).mpr ⟨d, identity, named⟩)

theorem takeCancel_other (other : ∀ d, p.bay.identity = some d → d.coach ≠ coach) : takeCancel coach p = coachGone coach p := by
  refine if_neg fun named => ?_
  obtain ⟨d, identity, same⟩ := (namesCoach_iff (coachGone coach p) coach).mp named
  exact other d identity same

@[simp] theorem takeCancel_entries (coach : Nat) (p : Part) :
    (takeCancel coach p).cache.entries = p.cache.entries.filter fun x => x.coach != coach := by
  unfold takeCancel
  dsimp only
  split <;> simp [removeRoster]

theorem takeCancel_unchanged (coach : Nat) (p : Part) : unchangedExcept bayBlocks p (takeCancel coach p) := by
  intro b hb
  cases b <;> simp_all [agreeOn, bayBlocks]

section
variable {q : Part} (hq : q = removeCopy (coachGone coach (frameEnds 86 p)))
include hq

/-- Outside PREPARE, READY and HELD the copy alone goes, and the planner is told. -/
theorem cancel_closed (closed : openState p.bay.state = false) : q.bay = { p.bay with roster := none }
    ∧ (p.bay.roster.isSome → q = recompute (.roster p.bay.roster) (copySet p q)) := by
  cases held : p.bay.roster with
  | none =>
    have kept := hq.trans (removeCopy_none (p := coachGone coach (frameEnds 86 p)) held)
    refine ⟨?_, by simp⟩
    rw [kept, ← held]
    rfl
  | some old =>
    have told := hq.trans (removeCopy_closed (p := coachGone coach (frameEnds 86 p)) held closed)
    have bay : q.bay = { p.bay with roster := none } := by
      rw [told]
      simp
    have set : copySet p q = withCopy none (coachGone coach (frameEnds 86 p)) := by
      rw [copySet_eq (y := coachGone coach (frameEnds 86 p)) (by rw [told]; simp; rfl) (by rw [told]; simp), bay]
    exact ⟨bay, fun _ => by rw [set]; exact told⟩

/-- In PREPARE, READY and HELD the bay is back in STANDBY, its window closed and its latched reasons kept, and asks. -/
theorem cancel_open {d : Identity} (held : p.bay.roster.isSome) (opens : openState p.bay.state = true)
    (identity : p.bay.identity = some d) (named : d.coach = coach) :
    q.bay.roster = none ∧ q.bay.state = .standby ∧ q.bay.window = false ∧ q.bay.readWatch = .notBegun
      ∧ q.bay.sweepWatch = .notBegun ∧ q.bay.windowWatch = .notBegun
      ∧ Reasons.latched q.bay.reasons = Reasons.latched p.bay.reasons
      ∧ q.cache.want = some coach ∧ q.cache.askCount = 0
      ∧ q.line.flags.ask = (Line.raised .ask true p.line).flags.ask
      ∧ q.line.marks.ask = (Line.raised .ask true p.line).marks.ask
      ∧ ∀ x : Part, x = recompute (.bayState p.bay.state)
            { p with osc := q.osc, bay := { p.bay with roster := none, state := .standby } } →
          q.plan = (recompute (.roster p.bay.roster) { q with plan := x.plan, free := x.free }).plan := by
  obtain ⟨old, held⟩ := Option.isSome_iff_exists.mp held
  have told := hq.trans (removeCopy_open (p := coachGone coach (frameEnds 86 p)) held opens identity
    (by simp [coachGone, mem_removeRoster, named]))
  generalize hw : withCopy none (coachGone coach (frameEnds 86 p)) = w at told
  have leaves : w.bay.state ≠ .standby := by
    rintro h
    rw [← hw] at h
    change p.bay.state = _ at h
    simp [h, openState] at opens
  have bay : (toStandby w).bay.roster = none ∧ Reasons.latched (toStandby w).bay.reasons = Reasons.latched p.bay.reasons := by
    rw [← hw]
    simp [toStandby, standBy, Reasons.latched, Part.judgedReasons]
  obtain ⟨noCopy, latched⟩ := bay
  have ask : q.line.flags.ask = (Line.raised .ask true p.line).flags.ask
      ∧ q.line.marks.ask = (Line.raised .ask true p.line).marks.ask := by
    obtain ⟨flag, mark⟩ := returned_ask leaves told
    rw [flag, mark, ← hw]
    exact raised_ask_congr true (by simp) (by simp) (by simp)
  refine ⟨?_, ?_, ?_, ?_, ?_, ?_, ?_, ?_, ?_, ask.1, ask.2, ?_⟩
  · simp [told, noCopy]
  · simp [told, toStandby]
  · simp [told, toStandby]
  · simp [told, toStandby]
  · simp [told, toStandby]
  · simp [told, toStandby]
  · simp [told, latched]
  · simp [told, named]
  · simp [told]
  · intro x hx
    have osc : q.osc = w.osc := by simp [told]
    have stood : (toStandby w).plan = x.plan ∧ (toStandby w).free = x.free := by
      obtain ⟨plan, free⟩ := toStandby_plan leaves
      rw [plan, free, hx, osc, ← hw]
      exact recompute_plan_congr _ rfl rfl rfl
    rw [← stood.1, ← stood.2, held]
    refine (congrArg Part.plan told).trans (recompute_plan_congr _ ?_ (by simp) (by simp)).1
    simp [Part.planInputs, Part.minutesToDeparture, Part.minuteDue, told]

end
end

end Sys2Proof.Machine
end

section
/-! ROSTER_FRAME and ROSTER_CANCEL as the statement words them (R102, R172, R174, R177, R180, R198). -/

namespace Sys2Proof.Machine

theorem effect_rosterCancel {n : StationNo} {p : Part} (coach : Word16) (other : n.toNat ≠ p.latch.station) :
    effect (.rosterCancel n coach) p
      = takeRosterFrame { coach := coach, departure := 2047#16, target := 0, run := 0 } (frameEnds 86 p) :=
  receive_other n 7 _ p other

/-- What a frame sets off in the bay's blocks, and the time and the line at its end. -/
theorem rosterFrame_unchanged {p q : Part} (h : unchangedExcept bayBlocks (frameEnds 86 p) q) :
    unchangedExcept (.osc :: bayBlocks) p q :=
  (unchanged_of_osc_line p _ _).trans h (by decide) (by decide)

/-- Settles O41. -/
theorem rosterFramesAreHandledByTheCache : Obligations.RosterFramesAreHandledByTheCache := by
  refine ⟨fun s n b e m mode other coach minute he hm => completes_normal mode (by simp) (by simp) ?_,
    fun s n coach mode other named => completes_normal mode (by simp) (by simp) ?_,
    fun s n b => ⟨fun cancel => ?_, fun mode other ignored => completes_normal mode (by simp) (by simp) ?_⟩⟩
  · rw [effect_rosterFrame b other, takeRosterFrame_entry coach minute, ← he]
    generalize hq : takeEntry e (frameEnds 86 s.part) = q
    have minutes : minutesTo s.part.clock.minute e.departure = m := by rw [hm, he]
    have entries : q.cache.entries = (takeRoster s.part.clock.minute e s.part.cache.entries).1 := by
      rw [← hq]
      exact takeEntry_entries e (frameEnds 86 s.part)
    rw [entries, ← minutes]
    refine ⟨fun held due x => ?_, fun held overdue => ?_, fun new overdue => ?_, fun new due room x => ?_,
      fun new due full last => ?_, fun new due full earlier x => ?_, fun d identity named => ?_,
      fun d identity others standby noCopy missing due room => ?_, fun others => ?_, ?_⟩
    · rw [takeRoster_replaced held due, mem_insertRoster, mem_removeRoster]
    · rw [takeRoster_removed held overdue, removeRoster]
    · rw [takeRoster_overdue new overdue]
    · rw [takeRoster_room new due room, mem_insertRoster]
    · rw [takeRoster_last new due full last]
    · rw [takeRoster_displaces new due full earlier, mem_insertRoster]
    · have set : q = setCopy (RosterEntry.copy e) (entryTaken e (frameEnds 86 s.part)) :=
        hq.symm.trans (takeEntry_named (p := frameEnds 86 s.part) identity named)
      refine ⟨roster_of_setCopy set, fun noCopy standby => ⟨?_, ?_, frame_undated set noCopy standby,
          frame_prepares set noCopy standby⟩, fun held changed opens => frame_rewatched set held changed rfl opens,
        fun held changed standby => frame_evaluated set held changed (by rw [standby]; rfl), fun held same => frame_same set held same,
        frame_late set⟩
      · rw [set, setCopy_cache (p := entryTaken e (frameEnds 86 s.part)) noCopy standby]
        rfl
      · rw [set, setCopy_cache (p := entryTaken e (frameEnds 86 s.part)) noCopy standby]
        rfl
    · have asks := hq.symm.trans (takeEntry_asks (p := frameEnds 86 s.part) identity others standby noCopy missing due room)
      rw [asks, raise_eq_raised]
      exact ⟨rfl, rfl, rfl, rfl⟩
    · rw [← entries]
      exact frame_other hq.symm others
    · rw [← hq]
      exact rosterFrame_unchanged (takeEntry_unchanged e _)
  · rw [effect_rosterCancel coach other, takeRosterFrame_cancel named rfl]
    generalize hq : takeCancel coach.toNat (frameEnds 86 s.part) = q
    refine ⟨?_, fun d identity same => ?_, fun others => ?_, ?_⟩
    · rw [← hq, takeCancel_entries]
      rfl
    · have gone : q = removeCopy (coachGone coach.toNat (frameEnds 86 s.part)) :=
        hq.symm.trans (takeCancel_named (p := frameEnds 86 s.part) identity same)
      have opened := fun held opens => cancel_open gone held opens identity same
      have closed := cancel_closed gone
      refine ⟨?_, fun held opens => ?_, fun held opens => ?_, closed, fun noCopy => ?_⟩
      · cases opens : openState s.part.bay.state with
        | false => exact congrArg Bay.roster (closed opens).1
        | true =>
          by_cases held : s.part.bay.roster.isSome
          · exact (opened held opens).1
          · have noCopy : s.part.bay.roster = none := by simpa using held
            rw [gone, removeCopy_none (p := coachGone coach.toNat (frameEnds 86 s.part)) noCopy]
            exact noCopy
      · obtain ⟨-, state, window, read, sweep, departure, latched, want, count, flag, mark, -⟩ := opened held opens
        simp only [Reasons.latched, Prod.mk.injEq] at latched
        obtain ⟨yard, order, refused⟩ := latched
        exact ⟨state, window, read, sweep, departure, yard, order, refused, want, count, flag, mark⟩
      · obtain ⟨-, -, -, -, -, -, -, -, -, -, -, plan⟩ := opened held opens
        exact plan
      · rw [gone, removeCopy_none (p := coachGone coach.toNat (frameEnds 86 s.part)) noCopy]
        rfl
    · rw [← hq, takeCancel_other (p := frameEnds 86 s.part) others]
      exact ⟨rfl, rfl⟩
    · rw [← hq]
      exact rosterFrame_unchanged (takeCancel_unchanged _ _)
  · have same := takeRosterFrame_cancels (f := { coach := b.coach, departure := 2047#16, target := 0, run := 0 }) cancel rfl rfl
    exact congrArg (fun hand => act (receive n 7 hand) s) same
  · rw [effect_rosterFrame b other, takeRosterFrame_ignored ignored]

end Sys2Proof.Machine
end

section
/-! What the operations of the bay controller leave of the coach link and the sweep: the link stands where it did, couple sense and
chain status stay, and no sweep begins (R130 to R135, R145, R153). -/

namespace Sys2Proof.Machine

/-! ## The relation -/

/-- Where the coach link stands: its state with what is confirmed in it, the command in flight, the timers and the keeper's request. -/
def Link.standing (l : Link) : Link where
  state := l.state
  identConfirmed := l.identConfirmed
  holdConfirmed := l.holdConfirmed
  inFlight := l.inFlight
  startTimer := l.startTimer
  lostTimer := l.lostTimer
  keepAlive := l.keepAlive
  slots := { keeper := l.slots.keeper }

/-- Whether a sweep runs, and whether the heat frame knows of one. -/
def Part.sweepRecord (p : Part) : Bool × Bool := (SweepStatus.isRunning p.sweep.status, p.heat.sweepRunning)

/-- What the invariants of link and couple sense read, and the chain status. -/
def Part.linkRecord (p : Part) : Link × Bool × ChainStatus :=
  (Link.standing p.link, p.bay.couple, p.measure.chain)

/-- The link of `q` stands where that of `p` does, under the same couple sense and chain status; the sweep goes on as in `p`, or none
runs. -/
def LinkKept (p q : Part) : Prop :=
  Part.linkRecord q = Part.linkRecord p ∧ (Part.sweepRecord q = Part.sweepRecord p ∨ Part.sweepRecord q = (false, false))

theorem LinkKept.trans {p w q : Part} (first : LinkKept p w) (second : LinkKept w q) : LinkKept p q := by
  obtain ⟨link, sweep⟩ := first
  obtain ⟨link', sweep'⟩ := second
  refine ⟨link'.trans link, ?_⟩
  obtain same | stopped := sweep'
  · rwa [same]
  · exact .inr stopped

/-- An operation that leaves all this as it was. -/
theorem LinkKept.of_kept {p q : Part} (kept : Link.standing q.link = Link.standing p.link
    ∧ q.bay.couple = p.bay.couple ∧ q.measure.chain = p.measure.chain
    ∧ SweepStatus.isRunning q.sweep.status = SweepStatus.isRunning p.sweep.status
    ∧ q.heat.sweepRunning = p.heat.sweepRunning) : LinkKept p q := by
  obtain ⟨link, couple, chain, sweep, heat⟩ := kept
  simp [LinkKept, Part.linkRecord, Part.sweepRecord, link, couple, chain, sweep, heat]

/-- An operation that writes none of the blocks that hold this. -/
theorem LinkKept.of_unchanged {blocks : List Block} {p q : Part} (same : unchangedExcept blocks p q)
    (link : .link ∉ blocks) (bay : .bay ∉ blocks) (measure : .measure ∉ blocks) (sweep : .sweep ∉ blocks)
    (heat : .heat ∉ blocks) : LinkKept p q := by
  have linkKept : p.link = q.link := same .link link
  have bayKept : p.bay = q.bay := same .bay bay
  have measureKept : p.measure = q.measure := same .measure measure
  have sweepKept : p.sweep = q.sweep := same .sweep sweep
  have heatKept : p.heat = q.heat := same .heat heat
  exact .of_kept (by simp [linkKept, bayKept, measureKept, sweepKept, heatKept])

@[refl] theorem LinkKept.refl (p : Part) : LinkKept p p := ⟨rfl, .inl rfl⟩

/-! ## Requests -/

/-- A request of bay controller, sweep or fault list leaves the link where it stands. -/
@[simp] theorem setSlot_standing (who : Requester) (c : Option Command) (p : Part) (h : who ≠ .keeper) :
    Link.standing (setSlot who c p).link = Link.standing p.link := by
  cases who with
  | keeper => exact absurd rfl h
  | bay | sweep | faults => rfl

@[simp] theorem place_standing (who : Requester) (code : CommandCode) (p : Part) (h : who ≠ .keeper) :
    Link.standing (place who code p).link = Link.standing p.link :=
  setSlot_standing who _ p h

@[simp] theorem placeLamps_standing (arg : Byte) (p : Part) :
    Link.standing (placeLamps arg p).link = Link.standing p.link := rfl

@[simp] theorem withdrawLamps_standing (p : Part) :
    Link.standing (withdrawLamps p).link = Link.standing p.link := rfl

@[simp] theorem operationEnds_standing (p : Part) :
    Link.standing (operationEnds p).link = Link.standing p.link := rfl

@[simp] theorem operationWaits_standing (p : Part) :
    Link.standing (operationWaits p).link = Link.standing p.link := by
  unfold operationWaits
  split <;> simp

@[simp] theorem startOperation_standing (k : OpKind) (p : Part) :
    Link.standing (startOperation k p).link = Link.standing p.link := by
  cases k <;> rfl

@[simp] theorem operationResumes_standing (p : Part) :
    Link.standing (operationResumes p).link = Link.standing p.link := by
  unfold operationResumes
  split <;> simp

@[simp] theorem faultRequest_standing (k : OpKind) (p : Part) :
    Link.standing (faultRequest k p).link = Link.standing p.link := by
  unfold faultRequest
  (repeat' split) <;> simp

@[simp] theorem requestReadIf_standing (due : Bool) (p : Part) :
    Link.standing (requestReadIf due p).link = Link.standing p.link := by
  cases due <;> simp [requestReadIf]

@[simp] theorem runWatches_standing (p : Part) :
    Link.standing (runWatches p).link = Link.standing p.link := by
  unfold runWatches
  split <;> simp

/-- A start request begins no sweep by itself (R144). -/
@[simp] theorem sweepRequest_running (p : Part) :
    SweepStatus.isRunning (sweepRequest p).sweep.status = SweepStatus.isRunning p.sweep.status := by
  unfold sweepRequest
  split
  · rfl
  · next stopped => exact (Bool.eq_false_iff.mpr stopped).symm

@[simp] theorem requestSweepIf_running (due : Bool) (p : Part) :
    SweepStatus.isRunning (requestSweepIf due p).sweep.status = SweepStatus.isRunning p.sweep.status := by
  cases due <;> simp [requestSweepIf]

@[simp] theorem runWatches_running (p : Part) :
    SweepStatus.isRunning (runWatches p).sweep.status = SweepStatus.isRunning p.sweep.status := by
  unfold runWatches
  split <;> simp

/-! ## The sweep and the bay controller -/

@[simp] theorem sweepAbort_standing (lightsOff : Bool) (p : Part) :
    Link.standing (sweepAbort lightsOff p).link = Link.standing p.link := by
  unfold sweepAbort
  split
  · cases lightsOff <;> rfl
  · rfl

@[simp] theorem sweepAbort_chain (lightsOff : Bool) (p : Part) :
    (sweepAbort lightsOff p).measure.chain = p.measure.chain := by
  unfold sweepAbort
  split
  · cases lightsOff <;> rfl
  · rfl

theorem sweepAbort_sweepRecord (lightsOff : Bool) (p : Part) : Part.sweepRecord (sweepAbort lightsOff p)
    = if SweepStatus.isRunning p.sweep.status then (false, false) else Part.sweepRecord p := by
  cases running : SweepStatus.isRunning p.sweep.status <;> simp [Part.sweepRecord, running]

theorem sweepAbort_linkKept (lightsOff : Bool) (p : Part) : LinkKept p (sweepAbort lightsOff p) := by
  refine ⟨by simp [Part.linkRecord], ?_⟩
  rw [sweepAbort_sweepRecord]
  split
  · exact .inr rfl
  · exact .inl rfl

theorem setBayState_linkKept (new : BayState) (p : Part) : LinkKept p (setBayState new p) := .of_kept (by simp)

theorem enterReleasing_linkKept (p : Part) : LinkKept p (enterReleasing p) := by
  have aborted := sweepAbort_linkKept true (place .bay .release { p with bay := { p.bay with lanePass := false } })
  have ended : ∀ q, LinkKept q (operationEnds q) := fun q => .of_kept (by simp)
  exact LinkKept.trans (p := p) aborted ((ended _).trans (setBayState_linkKept .releasing _))

/-- An evaluation judges and places the bay, and on entry to RELEASING ends a sweep (R179, R183). -/
theorem evaluate_linkKept (p : Part) : LinkKept p (evaluate p) := by
  obtain same | same | ⟨-, new, -, same⟩ | ⟨-, same⟩ := evaluate_cases p <;> rw [same]
  · exact .of_kept (by simp)
  · exact .of_kept (by simp)
  · exact LinkKept.trans (.of_kept (by simp)) (enterReleasing_linkKept _)

theorem judge_linkKept (p : Part) : LinkKept p (judge p) := .of_kept (by simp)

theorem recompute_linkKept (t : Trigger) (p : Part) : LinkKept p (recompute t p) := .of_kept (by simp)

theorem tryPrepare_linkKept (p : Part) : LinkKept p (tryPrepare p) := by
  unfold tryPrepare
  split
  · exact (setBayState_linkKept .prepare (setWatches .armed p)).trans (evaluate_linkKept _)
  · rfl

theorem copyArrives_linkKept (c : RosterCopy) (p : Part) : LinkKept p (copyArrives c p) :=
  (tryPrepare_linkKept (stopAsking { p with bay := { p.bay with roster := some c } })).trans (recompute_linkKept _ _)

theorem rosterLookup_linkKept (p : Part) : LinkKept p (rosterLookup p) := by
  obtain same | ⟨d, same⟩ | ⟨-, -, c, same⟩ := rosterLookup_cases p <;> rw [same]
  · exact .of_kept (by simp)
  · exact copyArrives_linkKept c p

theorem standBy_linkKept (p : Part) : LinkKept p (standBy p) :=
  (setBayState_linkKept .standby { p with bay := { p.bay with window := false } }).trans (judge_linkKept _)

theorem toStandby_linkKept (p : Part) : LinkKept p (toStandby p) := standBy_linkKept (setWatches .notBegun p)

/-- The watches write the watches and the window, and ask for checks (R180). -/
theorem runWatches_linkKept (p : Part) : LinkKept p (runWatches p) := by
  refine .of_kept ⟨by simp, ?_, by simp, by simp, by simp⟩
  rw [runWatches_bay]
  split <;> rfl

theorem bayMinute_linkKept (p : Part) : LinkKept p (bayMinute p) := by
  have noted : LinkKept (runWatches p) (noteOpening p.bay.window (runWatches p)) :=
    .of_kept (by simp [noteOpening_bay])
  have watched := (runWatches_linkKept p).trans (noted.trans (evaluate_linkKept _))
  unfold bayMinute
  split
  · exact evaluate_linkKept p
  iterate 3 exact watched
  · exact .of_kept (by simp [clearanceMinute_bay])
  all_goals rfl

theorem minuteEvent_linkKept (p : Part) : LinkKept p (minuteEvent p) :=
  (recompute_linkKept .minute p).trans ((LinkKept.of_kept (q := cacheMinute _) (by simp)).trans (bayMinute_linkKept _))

theorem setCopy_linkKept (c : RosterCopy) (p : Part) : LinkKept p (setCopy c p) := by
  have closed : ∀ q, LinkKept q (closeWindowIfEarly q) := fun q => .of_kept (by
    unfold closeWindowIfEarly
    (repeat' split) <;> simp)
  unfold setCopy
  split
  · split
    · exact copyArrives_linkKept c p
    · exact LinkKept.trans (w := { p with bay := _ }) (.of_kept (by simp)) (recompute_linkKept _ _)
  · split
    · rfl
    · dsimp only
      refine LinkKept.trans (w := if openState p.bay.state then _ else _) ?_ (recompute_linkKept _ _)
      split
      · exact (closed { p with bay := { p.bay with roster := some c } }).trans
          ((runWatches_linkKept _).trans (evaluate_linkKept _))
      · exact evaluate_linkKept { p with bay := { p.bay with roster := some c } }

theorem removeCopy_linkKept (p : Part) : LinkKept p (removeCopy p) := by
  unfold removeCopy
  split
  · rfl
  · dsimp only
    refine LinkKept.trans (w := if openState p.bay.state then _ else _) ?_ (recompute_linkKept _ _)
    split
    · exact (toStandby_linkKept { p with bay := { p.bay with roster := none } }).trans (rosterLookup_linkKept _)
    · exact .of_kept (by simp)

theorem returnToHeld_linkKept (r : ReturnReasons) (p : Part) : LinkKept p (returnToHeld r p) := by
  have begun : LinkKept p (returning r p) := .of_kept ⟨rfl, rfl, rfl, rfl, rfl⟩
  rw [returnToHeld_eq]
  split
  · exact begun.trans ((setBayState_linkKept .held _).trans (evaluate_linkKept _))
  · exact begun.trans ((standBy_linkKept _).trans (rosterLookup_linkKept _))

theorem laneViewChanged_linkKept (p : Part) : LinkKept p (laneViewChanged p) := by
  unfold laneViewChanged
  split
  · exact returnToHeld_linkKept {} (setSlot .bay none p)
  · exact evaluate_linkKept p

/-- The end of a revocation writes the reply jobs alone (R193). -/
theorem revocationEnd_linkKept (final : JobOutcome) (limit : Nat) (p : Part) :
    LinkKept p (revocationEnd final limit p) := .of_kept (by simp)

theorem releaseEnds_linkKept (refused : Bool) (p : Part) : LinkKept p (releaseEnds refused p) := by
  have returned := fun r => returnToHeld_linkKept r p
  unfold releaseEnds
  dsimp only
  split
  · exact (returned _).trans (revocationEnd_linkKept _ _ _)
  · exact returned _

theorem enterCleared_linkKept (p : Part) : LinkKept p (enterCleared p) := by
  simp only [enterCleared]
  split <;> exact .of_kept (by simp)

theorem holdOutcome_linkKept (o : BayOutcome) (p : Part) : LinkKept p (holdOutcome o p) := by
  unfold holdOutcome
  split
  iterate 8 exact LinkKept.trans (w := setReasons _ { p with bay := _ }) (.of_kept (by simp)) (evaluate_linkKept _)
  · split
    · exact (returnToHeld_linkKept _ p).trans (revocationEnd_linkKept _ _ _)
    · exact .of_kept (by simp)
  · split
    · exact revocationEnd_linkKept _ _ { p with bay := { p.bay with revocation := .none } }
    · rfl
  all_goals rfl

theorem releaseOutcome_linkKept (o : BayOutcome) (p : Part) : LinkKept p (releaseOutcome o p) := by
  unfold releaseOutcome
  split
  · exact enterCleared_linkKept p
  · exact releaseEnds_linkKept true p
  · have returned := fun r => returnToHeld_linkKept r p
    dsimp only
    split
    · exact (returned _).trans (revocationEnd_linkKept _ _ _)
    · exact returned _
  · rfl

theorem bayLinkLost_linkKept (p : Part) : LinkKept p (bayLinkLost p) := by
  unfold bayLinkLost
  split
  · exact releaseEnds_linkKept false (setSlot .bay none p)
  · exact evaluate_linkKept p

theorem departPress_linkKept (p : Part) : LinkKept p (departPress p) := by
  unfold departPress
  extract_lets late _ opened swept read _ cleared _ held
  split
  · rfl
  · split
    · have kept : LinkKept p cleared := .of_kept (by simp +zetaDelta)
      refine LinkKept.trans (w := held) ?_ (evaluate_linkKept _)
      unfold held
      split
      · exact kept.trans (.of_kept ⟨rfl, rfl, rfl, rfl, rfl⟩)
      · exact kept
    · exact .of_kept ⟨rfl, rfl, rfl, rfl, rfl⟩

/-! ## Identity, and the clearing of the bay -/

theorem firstIdentity_linkKept (d : Identity) (p : Part) : LinkKept p (firstIdentity d p) := by
  unfold firstIdentity
  extract_lets _ _ w
  exact LinkKept.trans (p := p) (toStandby_linkKept w)
    ((LinkKept.of_kept (q := faultRequest .read (place .bay .hold _)) (by simp)).trans (rosterLookup_linkKept _))

/-- Clearing the other blocks ends a sweep, and empties request slots. -/
theorem clearBlocks_linkKept (p : Part) : LinkKept p (clearBlocks p) := by
  have aborted := sweepAbort_linkKept false (immediateZero p)
  have cleared : LinkKept (sweepAbort false (immediateZero p)) (clearSweep (immediateZero p)) :=
    .of_kept (by simp [clearSweep, show SweepStatus.isRunning .none = false from rfl])
  have emptied : LinkKept (clearSweep (immediateZero p)) (clearFaults (clearSweep (immediateZero p))) :=
    .of_kept (by simp [clearFaults])
  exact LinkKept.trans (p := p) aborted (cleared.trans (emptied.trans (.of_kept (by simp [clearBlocks]))))

theorem tearDown_linkKept (p : Part) : LinkKept p (tearDown p) := by
  have forgotten : LinkKept p (forgetDeparted p) := .of_kept (by simp)
  refine forgotten.trans ((clearBlocks_linkKept _).trans (.of_kept ⟨?_, by simp, ?_⟩)) <;> simp [tearDown]

theorem coachChange_linkKept (d : Identity) (p : Part) : LinkKept p (coachChange d p) := by
  have torn := tearDown_linkKept (withdrawLamps (setSlot .faults none (setSlot .bay none p)))
  exact LinkKept.trans (p := p) torn ((setBayState_linkKept .coupled _).trans (firstIdentity_linkKept d _))

end Sys2Proof.Machine
end

section
/-! What the other blocks' commands leave of the coach link and the sweep: clock, peers, yard line, measurement, sweep, fault list,
rosters and orders. Only the link's own commands, couple sense, a boundary, the end of a self-test and BAYRESET write more. -/

namespace Sys2Proof.Machine

/-! ## The clock -/

theorem statusChanged_linkKept (p : Part) : LinkKept p (statusChanged p) :=
  (recompute_linkKept .clockStatus p).trans (tryPrepare_linkKept _)

theorem secondEnds_linkKept (p : Part) : LinkKept p (secondEnds p) := by
  rw [secondEnds_eq]
  split
  · exact .of_kept (by simp)
  · exact LinkKept.trans (.of_kept (by simp)) (minuteEvent_linkKept _)

theorem timeSilenceExpires_linkKept (p : Part) : LinkKept p (timeSilenceExpires p) := by
  unfold timeSilenceExpires
  split
  · rfl
  · exact statusChanged_linkKept (advanceTo _ { p with clock := _ })

theorem takeTime_linkKept (t : TimePayload) (p : Part) : LinkKept p (takeTime t p) := by
  have told (minute second : Nat) : LinkKept p (statusTold (p.clock.status != .valid) (timeSet minute second p)) := by
    have set : LinkKept p (timeSet minute second p) :=
      .of_unchanged (timeSet_unchanged minute second p) (by simp) (by simp) (by simp) (by simp) (by simp)
    unfold statusTold
    split
    · exact set.trans (statusChanged_linkKept _)
    · exact set
  unfold takeTime
  split
  · rw [adoptTime_eq]
    split
    · exact (told _ _).trans (minuteEvent_linkKept _)
    · exact told _ _
  · rfl

/-! ## Peers and the yard line -/

theorem afterPeers_linkKept (before : List Position) (p : Part) : LinkKept p (afterPeers before p) := by
  have judged : LinkKept p (judgePeers p) := .of_kept ⟨rfl, rfl, rfl, rfl, rfl⟩
  rw [afterPeers_eq]
  split
  · exact judged
  · exact judged.trans (laneViewChanged_linkKept _)

theorem deletionOf_linkKept (n : Nat) (p : Part) : LinkKept p (deletionOf n p) :=
  LinkKept.trans (w := overflowEnds _) (.of_kept (by simp)) (afterPeers_linkKept _ _)

theorem writePeer_linkKept (e : Peer) (p : Part) : LinkKept p (writePeer e p) :=
  afterPeers_linkKept _ (setEntries (storePeer e p.peers.entries) p)

theorem arrivesIfGood_linkKept (f : Option PeerFields) (p : Part) : LinkKept p (arrivesIfGood f p) := by
  unfold arrivesIfGood
  split
  · unfold peerArrives
    split
    · exact writePeer_linkKept _ p
    · exact deletionOf_linkKept _ p
    · split
      · exact writePeer_linkKept _ p
      · split
        · exact afterPeers_linkKept _ (setEntries _ p)
        · exact .of_kept (by simp)
    · rfl
  · rfl

theorem peerAges_linkKept (n : Nat) (p : Part) : LinkKept p (peerAges n p) := by
  unfold peerAges
  split
  · split
    · dsimp only
      split
      · exact writePeer_linkKept _ (advanceTo _ p)
      · exact deletionOf_linkKept n (advanceTo _ p)
    · rfl
  · rfl

theorem ghostAges_linkKept (n : Nat) (p : Part) : LinkKept p (ghostAges n p) := by
  unfold ghostAges
  split
  · split
    · exact deletionOf_linkKept n (advanceTo _ p)
    · rfl
  · rfl

theorem shedCheck_linkKept (p : Part) : LinkKept p (shedCheck p) := .of_kept (by simp)

theorem numberClash_linkKept (p : Part) : LinkKept p (numberClash p) := by
  unfold numberClash
  split
  · rfl
  · exact .of_kept (by simp)

theorem completion_linkKept (k : SendKind) (p : Part) : LinkKept p (completion k (completionNotice k) p) := by
  obtain same | ⟨t, -, done⟩ := completion_cases k (completionNotice k) p
  · rw [same]
  · rw [done]
    exact LinkKept.trans (w := frameCompletes t p) (.of_kept (by simp))
      (.of_unchanged (completionNotice_unchanged k t _).1 (by simp) (by simp) (by simp) (by simp) (by simp))

/-! ## Measurement -/

@[simp] theorem takeConversion_chain {kind : Conversion → Bool} {p q : Part} {c : Conversion} {before : Bool}
    (h : takeConversion kind p = some (c, q, before)) : q.measure.chain = p.measure.chain := by
  unfold takeConversion at h
  split at h
  · simp only [Option.some.injEq, Prod.mk.injEq] at h
    obtain ⟨-, rfl, -⟩ := h
    rfl
  · simp only [Option.some.injEq, Prod.mk.injEq] at h
    obtain ⟨-, rfl, -⟩ := h
    rfl
  · cases h

theorem takeConversion_linkKept {kind : Conversion → Bool} {p q : Part} {c : Conversion} {before : Bool}
    (h : takeConversion kind p = some (c, q, before)) : LinkKept p q := by
  have kept := takeConversion_keeps h
  exact .of_kept (by simp [kept, takeConversion_chain h])

theorem refloEnds_linkKept (code : Code) (p : Part) : LinkKept p (refloEnds code p) := by
  unfold refloEnds
  split
  case h_1 taken => exact (takeConversion_linkKept taken).trans (.of_kept (by simp))
  · rfl

theorem temperatureEnds_linkKept (code : Code) (p : Part) : LinkKept p (temperatureEnds code p) := by
  unfold temperatureEnds
  split
  case h_1 taken =>
    refine (takeConversion_linkKept taken).trans ?_
    (repeat' split) <;> exact .of_kept (by simp)
  · rfl

@[simp] theorem selfTestCountEnds_chain (m : Measure) : (selfTestCountEnds m).chain = m.chain := by
  rw [selfTestCountEnds_eq]
  split <;> rfl

theorem stepStarts_linkKept (p : Part) : LinkKept p (stepStarts p) := by
  have chain : (stepStarts p).measure.chain = p.measure.chain := by
    unfold stepStarts
    split
    · simp [beginStep_keeps_measure]
    · rfl
  have heat : (stepStarts p).heat.sweepRunning = p.heat.sweepRunning := by
    unfold stepStarts
    split
    · simp [beginStep_heat]
    · rfl
  exact .of_kept (by simp [chain, heat])

/-! ## The sweep -/

@[simp] theorem moveOn_standing (pass : Pass) (from_ : Nat) (p : Part) :
    Link.standing (moveOn pass from_ p).link = Link.standing p.link := by
  unfold moveOn energise endSweep
  (repeat' split) <;> simp

theorem takeLampCode_linkKept (position code : Nat) (p : Part) : LinkKept p (takeLampCode position code p) := by
  unfold takeLampCode
  split
  · next running =>
    have runs : SweepStatus.isRunning p.sweep.status = true := by rw [running]; rfl
    dsimp only
    split
    · exact .of_kept (by simp [runs, moveOn_running])
    · exact .of_kept (by simp)
  · rfl

theorem lampEnds_linkKept (code : Code) (p : Part) : LinkKept p (lampEnds code p) := by
  unfold lampEnds
  split
  case h_1 taken =>
    exact (takeConversion_linkKept taken).trans (LinkKept.trans (.of_kept (by simp)) (takeLampCode_linkKept _ _ _))
  · rfl

theorem settleExpires_linkKept (p : Part) : LinkKept p (settleExpires p) := by
  unfold settleExpires
  split
  · next running => exact .of_kept (by simp [running, SweepStatus.isRunning])
  · rfl

theorem completeSweep_linkKept (p : Part) : LinkKept p (completeSweep p) := by
  refine LinkKept.trans ?_ (evaluate_linkKept _)
  exact ⟨rfl, .inr rfl⟩

theorem lampsOutcome_linkKept (o : LampsOutcome) (p : Part) : LinkKept p (lampsOutcome o p) := by
  unfold lampsOutcome
  split
  · exact .of_kept (by simp)
  · split
    · next running => exact .of_kept (by simp [running, SweepStatus.isRunning])
    · exact completeSweep_linkKept p
    · exact sweepAbort_linkKept true p
    · exact sweepAbort_linkKept false p
    · rfl

/-! ## The fault list -/

theorem completeRead_linkKept (p : Part) : LinkKept p (completeRead p) :=
  LinkKept.trans (.of_kept (by simp)) (evaluate_linkKept _)

theorem placeRead_linkKept (index : Nat) (p : Part) : LinkKept p (placeRead index p) := .of_kept (by simp [placeRead])

theorem takeRecord_linkKept (words : List Word16) (p : Part) : LinkKept p (takeRecord words p) := by
  have read : ∀ q, LinkKept q (nextRecord q) := by
    intro q
    unfold nextRecord
    dsimp only
    split
    · exact completeRead_linkKept q
    · exact placeRead_linkKept _ q
  refine LinkKept.trans ?_ (read _)
  split <;> exact .of_kept (by simp)

theorem faultOutcome_linkKept (c : CommandCode) (o : FaultOutcome) (p : Part) : LinkKept p (faultOutcome c o p) := by
  unfold faultOutcome
  split
  · split
    · exact .of_kept (by simp)
    · dsimp only
      split
      · exact LinkKept.trans (.of_kept (by simp)) (completeRead_linkKept _)
      · exact LinkKept.trans (.of_kept (by simp)) (placeRead_linkKept 0 _)
    · exact takeRecord_linkKept _ p
    · exact completeRead_linkKept p
    · exact .of_kept (by simp)
  · rfl

/-! ## Rosters and the bay controller's timers -/

theorem takeRosterFrame_linkKept (b : RosterPayload) (p : Part) : LinkKept p (takeRosterFrame b p) := by
  have cancelled (coach : Nat) : LinkKept p (takeCancel coach p) := by
    unfold takeCancel
    dsimp only
    split
    · exact LinkKept.trans (.of_kept (by simp)) (removeCopy_linkKept _)
    · exact .of_kept (by simp)
  have entered (e : RosterEntry) : LinkKept p (takeEntry e p) := by
    unfold takeEntry
    extract_lets _ _ w looked
    have stored : LinkKept p w := .of_kept ⟨rfl, rfl, rfl, rfl, rfl⟩
    have lookedUp : LinkKept p looked := by
      unfold looked
      split
      · exact stored.trans (rosterLookup_linkKept w)
      · exact stored
    split
    · exact lookedUp.trans (setCopy_linkKept _ _)
    · exact lookedUp
  unfold takeRosterFrame
  split
  · rfl
  · split
    · exact cancelled _
    · split
      · exact entered _
      · rfl

theorem holdRetryExpires_linkKept (p : Part) : LinkKept p (holdRetryExpires p) := by
  unfold holdRetryExpires
  split
  · dsimp only
    split <;> exact .of_kept (by simp)
  · rfl

theorem clearanceCountEnds_linkKept (p : Part) : LinkKept p (clearanceCountEnds p) := by
  unfold clearanceCountEnds clearanceCheck
  (repeat' split) <;> exact .of_kept (by simp)

theorem tooEarlyEnds_linkKept (p : Part) : LinkKept p (tooEarlyEnds p) := by
  unfold tooEarlyEnds
  split <;> exact .of_kept (by simp)

theorem chirpsEnd_linkKept (p : Part) : LinkKept p (chirpsEnd p) := by
  unfold chirpsEnd
  split <;> exact .of_kept (by simp)

/-! ## Orders -/

theorem holdEffect_linkKept (o : Order) (p : Part) : LinkKept p (holdEffect o p) := by
  unfold holdEffect
  dsimp only
  split
  · exact .of_kept (by simp)
  · exact .of_kept (by simp)
  · exact LinkKept.trans (.of_kept (by simp)) (evaluate_linkKept _)

theorem unholdEffect_linkKept (p : Part) : LinkKept p (unholdEffect p) := by
  unfold unholdEffect withdrawRevocation
  split
  · split
    · rfl
    · exact LinkKept.trans (.of_kept (by simp)) (revocationEnd_linkKept _ _ _)
  · exact LinkKept.trans (.of_kept (by simp)) (evaluate_linkKept _)

theorem lanepassEffect_linkKept (p : Part) : LinkKept p (lanepassEffect p) :=
  LinkKept.trans (.of_kept (by simp)) (evaluate_linkKept _)

/-- An order leaves the link where its effect does. -/
theorem takeOrder_linkKept (o : Order) (r : OrderRule) (p : Part) (effect : LinkKept p (r.effect p)) :
    LinkKept p (takeOrder o r p) := by
  unfold takeOrder
  split
  · split
    · unfold judgeOrder
      split
      · exact .of_kept (by simp)
      · exact effect.trans (.of_kept (by simp))
    · exact .of_kept (by simp)
  · rfl

/-! ## The commands -/

theorem receive_linkKept (sender : StationNo) (n : Nat) (hand : Part → Part) (p : Part)
    (handed : ∀ q, LinkKept q (hand q)) : LinkKept p (receive sender n hand p) :=
  receive_induct (I := LinkKept p) sender n hand (fun _ _ h => h.trans (.of_kept (by simp)))
    (fun q h => h.trans (numberClash_linkKept q)) (fun q h => h.trans (handed q)) (LinkKept.refl p)

theorem fromBayPost_linkKept (sender : StationNo) (hand : Part → Part) (p : Part) (handed : LinkKept p (hand p)) :
    LinkKept p (fromBayPost sender hand p) := by
  unfold fromBayPost
  split
  · exact handed
  · rfl

/-- The commands that write where the link stands, the chain status, or a sweep's start. -/
def movesLink : Instr → Bool
  | .ping | .ident | .hold | .release | .lamps | .fcount | .fread | .fclear | .idle | .wait | .data _ | .last _ | .ack | .refuse _
  | .garbledWord _ | .waitCountExpiry | .recoveryEnd | .startTimerExpiry | .lostPingTimerExpiry | .keepAliveExpiry
  | .coupleSenseRise | .decouple | .orderBayreset _ | .heatFrameBoundary | .refhiConversionEnd _ => true
  | _ => false

/-- No frame received moves the link but BAYRESET. -/
theorem effect_frame_linkKept {c : Instr} {n : StationNo} (sender : senderOf c = some n) (p : Part)
    (h : movesLink c = false) : LinkKept p (effect c p) := by
  cases c <;> simp only [senderOf, reduceCtorEq] at sender
  case timeFrame => exact receive_linkKept _ _ _ p (takeTime_linkKept _)
  case shedFrame =>
    exact receive_linkKept _ _ _ p fun q => fromBayPost_linkKept _ _ q (.of_kept (by simp))
  case loadFrame =>
    exact receive_linkKept _ _ _ p fun q =>
      fromBayPost_linkKept _ _ q ((arrivesIfGood_linkKept _ q).trans (shedCheck_linkKept _))
  case baystateFrame => exact receive_linkKept _ _ _ p fun q => fromBayPost_linkKept _ _ q (arrivesIfGood_linkKept _ q)
  case askFrame | reportFrame => exact receive_linkKept _ _ _ p LinkKept.refl
  case rosterFrame | rosterCancel => exact receive_linkKept _ _ _ p (takeRosterFrame_linkKept _)
  case orderHold o => exact receive_linkKept _ _ _ p fun q => takeOrder_linkKept _ _ q (holdEffect_linkKept o q)
  case orderUnhold => exact receive_linkKept _ _ _ p fun q => takeOrder_linkKept _ _ q (unholdEffect_linkKept q)
  case orderLanepass => exact receive_linkKept _ _ _ p fun q => takeOrder_linkKept _ _ q (lanepassEffect_linkKept q)
  case orderBayreset => cases h
  all_goals exact receive_linkKept _ _ _ p fun q => takeOrder_linkKept _ _ q (.of_kept (by simp))

/-- No other command moves the link. -/
theorem effect_linkKept (c : Instr) (p : Part) (h : movesLink c = false) : LinkKept p (effect c p) := by
  cases sender : senderOf c with
  | some n => exact effect_frame_linkKept sender p h
  | none =>
    cases c <;> simp only [senderOf, reduceCtorEq] at sender
    case ping | ident | hold | release | lamps | fcount | fread | fclear | idle | wait | data | last | ack | refuse | garbledWord
        | waitCountExpiry | recoveryEnd | startTimerExpiry | lostPingTimerExpiry | keepAliveExpiry | coupleSenseRise | decouple
        | heatFrameBoundary | refhiConversionEnd => cases h
    case startUp | resetAsserted => rfl
    case secondEnd => exact secondEnds_linkKept p
    case timeSilenceExpiry => exact timeSilenceExpires_linkKept p
    case shedComplete => exact completion_linkKept .shed p
    case loadComplete => exact completion_linkKept .load p
    case baystateComplete => exact completion_linkKept .baystate p
    case askComplete => exact completion_linkKept .ask p
    case reportComplete => exact completion_linkKept .report p
    case peerAgeing60s n => exact peerAges_linkKept n.toNat p
    case ghostAgeing180s n => exact ghostAges_linkKept n.toNat p
    case stepStart => exact stepStarts_linkKept p
    case refloConversionEnd code => exact refloEnds_linkKept code p
    case temperatureConversionEnd code => exact temperatureEnds_linkKept code p
    case lampConversionEnd code => exact lampEnds_linkKept code p
    case settleTimerExpiry => exact settleExpires_linkKept p
    case departButtonPress => exact departPress_linkKept p
    case holdRetryExpiry => exact holdRetryExpires_linkKept p
    case clearanceCountExpiry => exact clearanceCountEnds_linkKept p
    case tooEarlyOverlayEnd => exact tooEarlyEnds_linkKept p
    case sounderRunEnd => exact chirpsEnd_linkKept p
    all_goals rw [effect]; exact .of_kept (by simp)

end Sys2Proof.Machine
end

section
/-! Every step keeps the coach link's command, slots and timers true to its state, the link DOWN exactly without couple sense, and a
sweep running only with the link UP and the chain GOOD (R130 to R135, R145, R153). -/

namespace Sys2Proof.Machine

/-! ## The invariants -/

/-- Whether the link may have a command in flight: one other than PING in UP alone, and one other than IDENT with identity confirmed
there (R133, R135). -/
def Link.admits (l : Link) (c : Command) : Prop :=
  l.state ≠ .down ∧ (c.code ≠ .ping → l.state = .up ∧ (c.code ≠ .ident → l.identConfirmed = true))

/-- The keeper's slot holds PING, or IDENT in UP (R135). -/
def Link.keeperAdmits (l : Link) (c : Command) : Prop := c.code = .ping ∨ (c.code = .ident ∧ l.state = .up)

/-- What is confirmed, and the timers that run, by the state (R130 to R134). -/
def Link.timed (l : Link) : Prop :=
  (l.identConfirmed = true → l.state = .up) ∧ (l.holdConfirmed = true → l.state = .up)
    ∧ (l.startTimer.isSome ↔ l.state = .starting) ∧ (l.lostTimer.isSome ↔ l.state = .lost)
    ∧ (l.keepAlive.isSome → l.state = .up)

/-- The link's invariant, by its command in flight, its keeper's slot and its timers. -/
theorem linkInv_iff (p : Part) : LinkInv p ↔ (∀ f, p.link.inFlight = some f → Link.admits p.link f.command)
    ∧ (∀ c, p.link.slots.keeper = some c → Link.keeperAdmits p.link c) ∧ Link.timed p.link := by
  constructor
  · rintro ⟨down, keeper, flight, timed⟩
    refine ⟨fun f sent => ⟨fun isDown => ?_, flight f sent⟩, keeper, timed⟩
    rw [down isDown] at sent
    cases sent
  · rintro ⟨flight, keeper, timed⟩
    refine ⟨fun isDown => ?_, keeper, fun f sent => (flight f sent).2, timed⟩
    exact Option.eq_none_iff_forall_ne_some.mpr fun f sent => (flight f sent).1 isDown

/-- The invariants of link, couple sense and sweep. -/
abbrev LinkInvs (p : Part) : Prop := LinkInv p ∧ CoupleInv p ∧ SweepInv p

theorem Link.standing_state {l k : Link} (same : Link.standing l = Link.standing k) : l.state = k.state :=
  show (Link.standing l).state = (Link.standing k).state by rw [same]

/-- An update of the link, at another moment too, writes no other block. -/
theorem unchanged_of_osc_link (p : Part) (t : Moment) (l : Link) :
    unchangedExcept [.osc, .link] p { p with osc := t, link := l } := by
  intro b hb
  cases b <;> simp_all [agreeOn]

section
variable {p q : Part}

theorem linkInv_congr (same : Link.standing q.link = Link.standing p.link) (h : LinkInv p) : LinkInv q := by
  have read : LinkInv { p with link := Link.standing p.link } := h
  exact (same ▸ read : LinkInv { p with link := Link.standing q.link })

/-- An operation that leaves the link where it stands and begins no sweep keeps the invariants. -/
theorem LinkInvs.of_linkKept (h : LinkInvs p) (kept : LinkKept p q) : LinkInvs q := by
  obtain ⟨linkInv, coupled, sweeps, told⟩ := h
  obtain ⟨record, sweep⟩ := kept
  simp only [Part.linkRecord, Prod.mk.injEq] at record
  obtain ⟨link, couple, chain⟩ := record
  have state : q.link.state = p.link.state := Link.standing_state link
  refine ⟨linkInv_congr link linkInv, by rwa [CoupleInv, couple, state], ?_⟩
  simp only [Part.sweepRecord, Prod.mk.injEq] at sweep
  rw [SweepInv, state, chain]
  obtain ⟨running, heat⟩ | ⟨running, heat⟩ := sweep
  · rw [running, heat]
    exact ⟨sweeps, told⟩
  · simp [running, heat]

/-- An update of the link that keeps its state, under the same couple sense, chain and sweep. -/
theorem LinkInvs.of_update (h : LinkInvs p) (linkInv : LinkInv q) (state : q.link.state = p.link.state)
    (rest : unchangedExcept [.osc, .link] p q) : LinkInvs q := by
  have bay : p.bay = q.bay := rest .bay (by decide)
  have measure : p.measure = q.measure := rest .measure (by decide)
  have sweep : p.sweep = q.sweep := rest .sweep (by decide)
  have heat : p.heat = q.heat := rest .heat (by decide)
  obtain ⟨-, coupled, swept⟩ := h
  refine ⟨linkInv, ?_, ?_⟩
  · rwa [CoupleInv, state, ← bay]
  · rwa [SweepInv, state, ← measure, ← sweep, ← heat]

end

/-- A command that the link has in flight is one that it admits. -/
theorem LinkInvs.admits {p : Part} (h : LinkInvs p) {f : InFlight} (sent : p.link.inFlight = some f) :
    Link.admits p.link f.command := ((linkInv_iff p).mp h.1).1 f sent

/-! ## The command in flight -/

/-- Another command in flight, or none, that the link admits. -/
theorem LinkInvs.withFlight {p q : Part} (h : LinkInvs p) (flight : Option InFlight)
    (admitted : ∀ f, flight = some f → Link.admits p.link f.command)
    (link : Link.standing q.link = Link.standing { p.link with inFlight := flight })
    (rest : unchangedExcept [.osc, .link] p q) : LinkInvs q := by
  obtain ⟨-, keeper, timed⟩ := (linkInv_iff p).mp h.1
  have inv : LinkInv { p with link := { p.link with inFlight := flight } } := (linkInv_iff _).mpr ⟨admitted, keeper, timed⟩
  exact h.of_update (linkInv_congr link inv) ((Link.standing_state link).trans rfl) rest

theorem leaveFlight_keeps_linkInvs {p : Part} (h : LinkInvs p) : LinkInvs (leaveFlight p) :=
  h.withFlight none nofun rfl (unchanged_of_osc_link p _ _)

/-- The keeper's slot filled with a command that the link admits there. -/
theorem place_keeper_keeps_linkInvs {p : Part} (h : LinkInvs p) (code : CommandCode)
    (admitted : Link.keeperAdmits p.link { code := code }) : LinkInvs (place .keeper code p) := by
  obtain ⟨flight, -, timed⟩ := (linkInv_iff p).mp h.1
  refine h.of_update ((linkInv_iff _).mpr ⟨flight, fun c placed => ?_, timed⟩) rfl
    (unchanged_of_osc_link p _ _)
  obtain rfl : { code := code } = c := Option.some.inj placed
  exact admitted

/-! ## The link states (R130 to R134) -/

/-- A hold is confirmed in UP alone (R130). -/
theorem setHold_keeps_linkInvs {p : Part} (h : LinkInvs p) (v : Bool) (up : v = true → p.link.state = .up) :
    LinkInvs (setHold v p) := by
  obtain ⟨flight, keeper, ident, -, start, lost, alive⟩ := (linkInv_iff p).mp h.1
  exact h.of_update ((linkInv_iff _).mpr ⟨flight, keeper, ident, up, start, lost, alive⟩) rfl
    (unchanged_of_osc_link p _ _)

/-- The end of an answer restarts the keep-alive timer in UP (R126). -/
theorem answerEnds_keeps_linkInvs {p : Part} (h : LinkInvs p) : LinkInvs (answerEnds p) := by
  unfold answerEnds
  split
  · next up =>
    obtain ⟨flight, keeper, ident, hold, start, lost, -⟩ := (linkInv_iff p).mp h.1
    exact h.of_update ((linkInv_iff _).mpr ⟨flight, keeper, ident, hold, start, lost, fun _ => up⟩) rfl
      (unchanged_of_osc_link p _ _)
  · exact h

/-- Entry to UP from STARTING or LOST, where no sweep runs (R133). -/
theorem enterUp_keeps_linkInvs {p : Part} (h : LinkInvs p) (free : p.link.inFlight = none) (on : p.link.state ≠ .down)
    (notUp : p.link.state ≠ .up) : LinkInvs (enterUp p) := by
  obtain ⟨linkInv, coupled, sweeps, told⟩ := h
  obtain ⟨-, -, -, hold, -, -, -⟩ := (linkInv_iff p).mp linkInv
  have idle : SweepStatus.isRunning p.sweep.status = false := by
    by_contra running
    exact notUp (sweeps (by simpa using running)).1
  refine ⟨(linkInv_iff _).mpr
    ⟨fun f sent => ?_, fun c placed => ?_, nofun, fun _ => rfl, by simp, by simp, fun _ => rfl⟩, ?_, ?_⟩
  · simp [free] at sent
  · obtain rfl : ({ code := .ident } : Command) = c := Option.some.inj placed
    exact .inr ⟨rfl, rfl⟩
  · simpa [CoupleInv, on] using coupled
  · simpa [SweepInv, idle] using told

/-- The part that is LOST, but that sweep, fault list and bay controller are still to be told (R134). -/
def lostNow (p : Part) : Part := setSlot .keeper none { p with link := { p.link with
  state := .lost, identConfirmed := false, holdConfirmed := false, inFlight := none, recovery := none
  waitCount := 0, gathered := [], startTimer := none, keepAlive := none
  lostTimer := some (p.osc + lostPingPeriod) } }

theorem enterLost_eq (p : Part) : enterLost p = bayLinkLost (operationWaits (sweepAbort false (lostNow p))) := rfl

/-- What telling of LOST leaves of the link (R134). -/
theorem enterLost_linkKept (p : Part) : LinkKept (sweepAbort false (lostNow p)) (enterLost p) :=
  have waits : ∀ q, LinkKept q (operationWaits q) := fun q => .of_kept (by simp)
  (waits _).trans (bayLinkLost_linkKept _)

/-- Entry to LOST ends a running sweep (R134, R153). -/
theorem enterLost_keeps_linkInvs {p : Part} (h : LinkInvs p) (on : p.link.state ≠ .down) : LinkInvs (enterLost p) := by
  obtain ⟨-, coupled, -, told⟩ := h
  refine LinkInvs.of_linkKept ?_ (enterLost_linkKept p)
  refine ⟨linkInv_congr (p := lostNow p) (by simp)
    ((linkInv_iff _).mpr ⟨nofun, nofun, nofun, nofun, ?_, ?_, nofun⟩), ?_, ?_⟩
  · simp [lostNow]
  · simp [lostNow]
  · simpa [CoupleInv, lostNow, on] using coupled
  · have idle : p.heat.sweepRunning = SweepStatus.isRunning p.sweep.status := told
    refine ⟨by simp, ?_⟩
    simp [lostNow, idle]

/-! ## Answers and failures (R126 to R130, R137) -/

theorem acceptIdentity_keeps_linkInvs (d : Identity) {p : Part} (h : LinkInvs p) (up : p.link.state = .up) :
    LinkInvs (acceptIdentity d p) := by
  obtain ⟨flight, keeper, -, hold, start, lost, alive⟩ := (linkInv_iff p).mp h.1
  have confirmed : LinkInvs { p with link := { p.link with identConfirmed := true } } :=
    h.of_update ((linkInv_iff _).mpr ⟨fun f sent => ⟨(flight f sent).1, fun _ => ⟨up, fun _ => rfl⟩⟩, keeper,
      fun _ => up, hold, start, lost, alive⟩) rfl (unchanged_of_osc_link p _ _)
  unfold acceptIdentity
  extract_lets _ w
  split
  · exact confirmed.of_linkKept (firstIdentity_linkKept d w)
  · split
    · have placed : LinkKept w (place .bay .hold w) := .of_kept (by simp)
      have resumed : ∀ q, LinkKept q (operationResumes q) := fun q => .of_kept (by simp)
      exact confirmed.of_linkKept (placed.trans ((evaluate_linkKept _).trans (resumed _)))
    · exact confirmed.of_linkKept (coachChange_linkKept d w)

/-- An ACK is told of a command that was admitted, once it has left flight. -/
theorem ackOutcome_keeps_linkInvs {c : Command} {p : Part} (h : LinkInvs p) (admitted : Link.admits p.link c)
    (free : p.link.inFlight = none) : LinkInvs (ackOutcome c p) := by
  obtain ⟨on, allowed⟩ := admitted
  unfold ackOutcome
  split
  · split
    · exact h
    · next notUp => exact enterUp_keeps_linkInvs h free on notUp
  · next hold =>
    exact (setHold_keeps_linkInvs h true fun _ => (allowed (by simp [hold])).1).of_linkKept (holdOutcome_linkKept _ _)
  · exact (setHold_keeps_linkInvs h false nofun).of_linkKept (releaseOutcome_linkKept _ _)
  · exact h.of_linkKept (lampsOutcome_linkKept _ p)
  · exact h.of_linkKept (faultOutcome_linkKept _ _ p)
  all_goals exact h

theorem lastOutcome_linkKept (c : Command) (words : List Word16) (p : Part) : LinkKept p (lastOutcome c words p) := by
  unfold lastOutcome
  split
  · exact faultOutcome_linkKept _ _ p
  · exact faultOutcome_linkKept _ _ p
  · rfl

theorem refuseOutcome_keeps_linkInvs (c : Command) {p : Part} (h : LinkInvs p) : LinkInvs (refuseOutcome c p) := by
  have unheld := setHold_keeps_linkInvs h false nofun
  have told : ∀ q, LinkKept q (bayNotHeld q) := fun q => .of_kept (by unfold bayNotHeld; split <;> simp)
  unfold refuseOutcome
  split
  · exact unheld.of_linkKept (holdOutcome_linkKept _ _)
  · exact h.of_linkKept (releaseOutcome_linkKept _ p)
  · exact unheld.of_linkKept ((lampsOutcome_linkKept .notHeld _).trans (told _))
  · exact h.of_linkKept (faultOutcome_linkKept _ _ p)
  · exact h

theorem failedOutcome_linkKept (c : Command) (p : Part) : LinkKept p (failedOutcome c p) := by
  unfold failedOutcome
  split
  · exact lampsOutcome_linkKept _ p
  iterate 3 exact faultOutcome_linkKept _ _ p
  · rfl

theorem LinkKept.state {p q : Part} (kept : LinkKept p q) : q.link.state = p.link.state :=
  Link.standing_state (congrArg Prod.fst kept.1)

theorem failCommand_keeps_linkInvs {f : InFlight} {p : Part} (h : LinkInvs p) (admitted : Link.admits p.link f.command) :
    LinkInvs (failCommand f p) := by
  have left := leaveFlight_keeps_linkInvs h
  unfold failCommand
  split
  · refine h.withFlight (some { f with phase := .recovering }) (fun g sent => ?_) rfl
      (unchanged_of_osc_link p _ _)
    obtain rfl := Option.some.inj sent
    exact admitted
  · have told := failedOutcome_linkKept f.command (leaveFlight p)
    exact enterLost_keeps_linkInvs (left.of_linkKept told) (by simpa [told.state] using admitted.1)
  · exact left.of_linkKept (.of_kept ⟨rfl, rfl, rfl, rfl, rfl⟩)
  all_goals exact left

theorem takeWait_keeps_linkInvs {f : InFlight} {p : Part} (h : LinkInvs p) (admitted : Link.admits p.link f.command) :
    LinkInvs (takeWait f p) := by
  unfold takeWait
  dsimp only
  split
  · exact h.of_linkKept (.of_kept ⟨rfl, rfl, rfl, rfl, rfl⟩)
  · exact failCommand_keeps_linkInvs h admitted

@[simp] theorem answerEnds_keeps_state (p : Part) : (answerEnds p).link.state = p.link.state
    ∧ (answerEnds p).link.identConfirmed = p.link.identConfirmed := by
  unfold answerEnds
  split <;> exact ⟨rfl, rfl⟩

/-- A judged word acts on a command that the link admits. -/
theorem takeWord_keeps_linkInvs {f : InFlight} (w : CoachWord) {p : Part} (h : LinkInvs p)
    (admitted : Link.admits p.link f.command) : LinkInvs (takeWord f w p) := by
  have ended := answerEnds_keeps_linkInvs h
  have left := leaveFlight_keeps_linkInvs ended
  have admitted' : Link.admits (answerEnds p).link f.command := by simpa [Link.admits] using admitted
  have failed := failCommand_keeps_linkInvs ended admitted'
  cases w with
  | idle | wait => exact takeWait_keeps_linkInvs h admitted
  | data x =>
    unfold takeWord takeData
    dsimp only
    split
    · refine h.withFlight (some { f with phase := .answering }) (fun g sent => ?_) rfl
        (unchanged_of_osc_link p _ _)
      obtain rfl := Option.some.inj sent
      exact admitted
    · exact failCommand_keeps_linkInvs h admitted
  | last x =>
    unfold takeWord takeLast
    dsimp only
    split
    · split
      · next ident =>
        split
        · exact acceptIdentity_keeps_linkInvs _ left (admitted'.2 (by simp [ident])).1
        · exact failed
      · exact left.of_linkKept (lastOutcome_linkKept _ _ _)
    · exact failed
  | ack =>
    unfold takeWord takeAck
    dsimp only
    split
    · exact ackOutcome_keeps_linkInvs left admitted' rfl
    · exact failed
  | refuse r =>
    unfold takeWord takeRefuse
    dsimp only
    split
    · exact refuseOutcome_keeps_linkInvs _ left
    · exact failed
  | garbled => exact failCommand_keeps_linkInvs h admitted

/-! ## Beats, the arbiter and the timers (R123 to R125, R128, R132 to R135) -/

theorem beatHeard_linkKept (b : Moment) (p : Part) : LinkKept p (beatHeard b p) := .of_kept ⟨rfl, rfl, rfl, rfl, rfl⟩

theorem coachWord_keeps_linkInvs (w : CoachWord) {p : Part} (h : LinkInvs p) : LinkInvs (coachWord w p) := by
  have opened : LinkInvs (beatOpens p) := h.of_linkKept (beatHeard_linkKept _ p)
  unfold coachWord
  split
  · exact h
  · dsimp only
    split
    · next f sent =>
      split
      · exact takeWord_keeps_linkInvs w opened (opened.admits sent)
      · exact opened
    · exact opened

theorem waitCountEnds_keeps_linkInvs {p : Part} (h : LinkInvs p) : LinkInvs (waitCountEnds p) := by
  unfold waitCountEnds
  split
  · next f sent =>
    split
    · exact takeWait_keeps_linkInvs (h.of_linkKept (.of_kept ⟨rfl, rfl, rfl, rfl, rfl⟩)) (h.admits sent)
    · exact h
  · exact h

/-- The request that the arbiter finds is one that the link admits (R135). -/
theorem found_admits {p : Part} (h : LinkInvs p) (on : p.link.state ≠ .down) {who : Requester} {c : Command}
    (found : Link.found p.link = some (who, c)) : Link.admits p.link c := by
  obtain ⟨-, keeper, -⟩ := (linkInv_iff p).mp h.1
  refine ⟨on, fun notPing => ?_⟩
  unfold Link.found at found
  split at found
  · next d placed =>
    obtain ⟨-, rfl⟩ := Prod.mk.inj (Option.some.inj found)
    obtain ping | ⟨ident, up⟩ := keeper d placed
    · exact absurd ping notPing
    · exact ⟨up, fun notIdent => absurd ident notIdent⟩
  · split at found
    · next confirmed =>
      simp only [Bool.and_eq_true, decide_eq_true_eq] at confirmed
      exact ⟨confirmed.1, fun _ => confirmed.2⟩
    · cases found

theorem sendCommand_keeps_linkInvs {p : Part} (h : LinkInvs p) {who : Requester} {c : Command}
    (admitted : Link.admits p.link c) : LinkInvs (sendCommand who c p) := by
  obtain ⟨-, keeper, timed⟩ := (linkInv_iff p).mp h.1
  obtain ⟨-, coupled, swept⟩ := h
  refine ⟨(linkInv_iff _).mpr ⟨fun f sent => ?_, fun d placed => keeper d ?_, timed⟩, coupled, ?_⟩
  · obtain rfl := Option.some.inj sent
    exact admitted
  · cases who with
    | keeper => cases placed
    | bay | sweep | faults => exact placed
  · cases who <;> exact swept

theorem chosen_keeps_linkInvs (code : CommandCode) {p : Part} (h : LinkInvs p) : LinkInvs (chosen code p) := by
  unfold chosen Link.choice
  split
  · next who c choice =>
    split at choice
    · next free =>
      simp only [Bool.and_eq_true, bne_iff_ne] at free
      split
      · exact sendCommand_keeps_linkInvs h (found_admits h free.1.1 choice)
      · exact h
    · cases choice
  · exact h

theorem recoveryEnds_keeps_linkInvs {p : Part} (h : LinkInvs p) : LinkInvs (recoveryEnds p) := by
  unfold recoveryEnds
  split
  · next f _ sent =>
    refine h.withFlight (some { f with attempt := .second, phase := .awaiting }) (fun g resent => ?_) rfl
      (unchanged_of_osc_link p _ _)
    obtain rfl := Option.some.inj resent
    exact h.admits (f := f) sent
  · split
    · exact place_keeper_keeps_linkInvs (h.of_linkKept (.of_kept ⟨rfl, rfl, rfl, rfl, rfl⟩)) .ping (.inl rfl)
    · exact h
  · exact h

theorem startTimerExpires_keeps_linkInvs {p : Part} (h : LinkInvs p) : LinkInvs (startTimerExpires p) := by
  unfold startTimerExpires
  split
  · next starting =>
    exact enterLost_keeps_linkInvs (h.of_linkKept (.of_kept (by simp))) (by simp [starting])
  · exact h

theorem lostPingExpires_keeps_linkInvs {p : Part} (h : LinkInvs p) : LinkInvs (lostPingExpires p) := by
  obtain ⟨flight, keeper, ident, hold, start, -, alive⟩ := (linkInv_iff p).mp h.1
  unfold lostPingExpires
  split
  · next t _ lost =>
    obtain ⟨-, -, -, next⟩ := atNextBeat_waits p.link (max p.osc t)
    refine place_keeper_keeps_linkInvs (LinkInvs.of_update h ?_ ?_ ?_) .ping (.inl rfl)
    · simp only [advanceTo_osc, advanceTo_keeps]
      rw [next]
      exact (linkInv_iff _).mpr ⟨flight, keeper, ident, hold, start, by simp [lost], alive⟩
    · simp only [advanceTo_osc, advanceTo_keeps]
      rw [next]
    · intro b hb
      cases b <;> simp_all [agreeOn]
  · exact h

theorem keepAliveExpires_keeps_linkInvs {p : Part} (h : LinkInvs p) : LinkInvs (keepAliveExpires p) := by
  obtain ⟨flight, keeper, ident, hold, start, lost, -⟩ := (linkInv_iff p).mp h.1
  unfold keepAliveExpires
  split
  · have stopped : LinkInv { p with link := { p.link with keepAlive := none } } :=
      (linkInv_iff _).mpr ⟨flight, keeper, ident, hold, start, lost, nofun⟩
    exact place_keeper_keeps_linkInvs (h.of_update (q := advanceTo _ { p with link := { p.link with keepAlive := none } })
      stopped rfl (unchanged_of_osc_link p _ _)) .ping (.inl rfl)
  · exact h

/-! ## Couple sense, BAYRESET, the boundary and the chain status -/

/-- After an operation that leaves no sweep running the heat frame knows of none. -/
theorem LinkKept.sweepStopped {p q : Part} (kept : LinkKept p q)
    (told : p.heat.sweepRunning = SweepStatus.isRunning p.sweep.status)
    (stopped : SweepStatus.isRunning q.sweep.status = false) : SweepInv q := by
  obtain ⟨-, sweep⟩ := kept
  simp only [Part.sweepRecord, Prod.mk.injEq] at sweep
  refine ⟨by simp [stopped], ?_⟩
  obtain ⟨running, heat⟩ | ⟨running, heat⟩ := sweep
  · rw [heat, told, running]
  · rw [heat, running]

/-- Without couple sense the link is DOWN, with every item at its start-up value (R131). -/
theorem coupleFalls_keeps_linkInvs {p : Part} (h : LinkInvs p) : LinkInvs (coupleFalls p) := by
  cases couple : p.bay.couple with
  | false => simpa [coupleFalls, couple] using h
  | true =>
    obtain ⟨-, -, -, told⟩ := h
    rw [coupleFalls_eq couple]
    have torn := tearDown_linkKept (uncoupled p)
    have link : (tearDown (uncoupled p)).link = { beat := p.link.beat } := tearDown_link rfl
    refine ⟨(linkInv_iff _).mpr ?_, ?_, torn.sweepStopped told (by simp [tearDown_blocks, SweepStatus.isRunning])⟩
    · rw [link]
      exact ⟨nofun, nofun, nofun, nofun, by simp, by simp, nofun⟩
    · rw [CoupleInv, link]
      simp [uncoupled, linkDown]

/-- STARTING (R132). -/
theorem linkStart_linkInv (p : Part) : LinkInv (linkStart p) := by
  refine (linkInv_iff _).mpr ⟨nofun, fun c placed => ?_, nofun, nofun, by simp [linkStart], by simp [linkStart], nofun⟩
  obtain rfl := Option.some.inj placed
  exact .inl rfl

theorem coupleRises_keeps_linkInvs {p : Part} (h : LinkInvs p) : LinkInvs (coupleRises p) := by
  by_cases rises : p.bay.couple = false ∧ p.bay.state = .empty
  · obtain ⟨-, coupled, sweeps, told⟩ := h
    obtain ⟨low, empty⟩ := rises
    have down : p.link.state = .down := by
      by_contra on
      simp [coupled.mpr on] at low
    have idle : SweepStatus.isRunning p.sweep.status = false := by
      by_contra running
      simpa [down] using (sweeps (by simpa using running)).1
    rw [coupleRises_eq low empty]
    refine LinkInvs.of_linkKept ⟨linkStart_linkInv _, by simp [CoupleInv, linkStart], ?_⟩ (setBayState_linkKept .coupled _)
    simpa [SweepInv, idle] using told
  · rwa [coupleRises, if_neg rises]

/-- The part that a bay reset begins with: the link in STARTING where couple sense is present (R141, R187). -/
def resetBegun (p : Part) : Part := if p.bay.couple then linkStart p else p

/-- The bay that a reset leaves EMPTY, before couple sense is read again (R187). -/
def resetEmptied (p : Part) : Part :=
  let q := revocationEnd (.refused .wrongState) (jobLimit - 1) (clearBlocks (resetBegun p))
  setBayState .empty (clearRecord .none { q with bay := { q.bay with tooEarly := none, chirps := none } })

theorem bayReset_eq (p : Part) : bayReset p
    = if (resetEmptied p).bay.couple then setBayState .coupled (resetEmptied p) else resetEmptied p := rfl

/-- Clearing the bay leaves the link where the reset put it. -/
theorem resetEmptied_linkKept (p : Part) : LinkKept (resetBegun p) (resetEmptied p) := by
  have record : ∀ q, LinkKept q (clearRecord .none { q with bay := { q.bay with tooEarly := none, chirps := none } }) :=
    fun q => .of_kept ⟨rfl, rfl, rfl, rfl, rfl⟩
  exact (clearBlocks_linkKept _).trans
    ((revocationEnd_linkKept _ _ _).trans ((record _).trans (setBayState_linkKept .empty _)))

theorem bayReset_linkKept (p : Part) : LinkKept (resetBegun p) (bayReset p) := by
  rw [bayReset_eq]
  split
  · exact (resetEmptied_linkKept p).trans (setBayState_linkKept .coupled _)
  · exact resetEmptied_linkKept p

theorem bayReset_sweep (p : Part) : (bayReset p).sweep = {} := by
  have emptied : (resetEmptied p).sweep = {} := by simp [resetEmptied, clearBlocks_emptied]
  rw [bayReset_eq]
  split
  · simp [emptied]
  · exact emptied

theorem bayReset_keeps_linkInvs {p : Part} (h : LinkInvs p) : LinkInvs (bayReset p) := by
  obtain ⟨linkInv, coupled, -, told⟩ := h
  have begun : LinkInv (resetBegun p) ∧ CoupleInv (resetBegun p)
      ∧ (resetBegun p).heat.sweepRunning = SweepStatus.isRunning (resetBegun p).sweep.status := by
    unfold resetBegun
    split
    · next couple => exact ⟨linkStart_linkInv p, by simp [CoupleInv, linkStart, couple], told⟩
    · exact ⟨linkInv, coupled, told⟩
  obtain ⟨linkInv', coupled', told'⟩ := begun
  have kept := bayReset_linkKept p
  have record := kept.1
  simp only [Part.linkRecord, Prod.mk.injEq] at record
  obtain ⟨link, couple, -⟩ := record
  refine ⟨linkInv_congr link linkInv', ?_, kept.sweepStopped told' (by rw [bayReset_sweep]; rfl)⟩
  rwa [CoupleInv, couple, kept.state]

/-- The boundary starts a sweep with the link UP and the chain GOOD (R79, R145). -/
theorem judgeSweepStart_keeps_linkInvs {p : Part} (h : LinkInvs p) : LinkInvs (judgeSweepStart p).1 := by
  by_cases waits : p.sweep.status ≠ .requested ∨ Part.lampsInFlight p = true
  · rwa [judgeSweepStart_waits waits]
  · simp only [not_or, not_not, Bool.not_eq_true] at waits
    obtain ⟨requested, dark⟩ := waits
    cases bar : Part.sweepBar p with
    | some reason =>
      rw [judgeSweepStart_drops requested dark bar]
      exact h.of_linkKept (.of_kept (by simp [requested, SweepStatus.isRunning]))
    | none =>
      rw [judgeSweepStart_starts requested dark bar]
      obtain ⟨linkInv, coupled, -⟩ := h
      have standing : Link.standing (startSweep p).link = Link.standing p.link := by simp [startSweep]
      have may : p.link.state = .up ∧ p.measure.chain = .good := by
        rw [sweepBar_eq] at bar
        split_ifs at bar with _ up _ chain
        exact ⟨not_not.mp up, not_not.mp chain⟩
      refine ⟨linkInv_congr standing linkInv, ?_, ?_⟩
      · rw [CoupleInv, Link.standing_state standing]
        simpa [startSweep, CoupleInv] using coupled
      · rw [SweepInv, Link.standing_state standing]
        simp [startSweep, moveOn_running, may]

theorem boundary_keeps_linkInvs {p : Part} (h : LinkInvs p) : LinkInvs (boundary p) := by
  have begun : LinkInvs (frameBegun p) := h.of_linkKept (.of_kept ⟨rfl, rfl, rfl, rfl, rfl⟩)
  have chain : ∀ m couple starts, (accounting couple starts m).chain = m.chain := by
    intro m couple starts
    unfold accounting selfTestCheck dueSelfTest
    dsimp only
    (repeat' split) <;> rfl
  have opened : LinkKept (judgeSweepStart (frameBegun p)).1 (frameOpened p) := .of_kept (by simp [frameOpened, chain])
  have stepped : LinkKept (frameOpened p) (grantStep (frameOpened p)) := .of_kept (by simp [grantStep_eq])
  have checked := stepped.trans (shedCheck_linkKept _)
  rw [boundary_eq]
  refine (judgeSweepStart_keeps_linkInvs begun).of_linkKept (opened.trans (checked.trans (.of_kept ?_)))
  simp [dutyInForce, beginStep_keeps_measure, beginStep_heat]

/-- A self-test that fails with the chain GOOD ends a running sweep (R90, R153). -/
theorem setChain_keeps_linkInvs {p : Part} (h : LinkInvs p) {new : ChainStatus} (judged : new ≠ .untested) :
    LinkInvs (setChain new p) := by
  obtain ⟨linkInv, coupled, sweeps, told⟩ := h
  obtain ⟨good, rfl, changed⟩ | ⟨notGood, rfl, changed⟩ | ⟨same, untold⟩ := setChain_cases judged p
  · have kept := sweepAbort_linkKept true (Part.withChain .faulty p)
    have record := kept.1
    simp only [Part.linkRecord, Prod.mk.injEq] at record
    obtain ⟨link, couple, -⟩ := record
    have aborted : LinkInvs (sweepAbort true (Part.withChain .faulty p)) :=
      ⟨linkInv_congr link linkInv, by rwa [CoupleInv, couple, kept.state], kept.sweepStopped told (by simp)⟩
    rw [changed]
    exact aborted.of_linkKept (evaluate_linkKept _)
  · have good : LinkInvs (Part.withChain .good p) := ⟨linkInv, coupled, fun running => ⟨(sweeps running).1, rfl⟩, told⟩
    rw [changed]
    exact good.of_linkKept (evaluate_linkKept _)
  · rw [untold]
    refine ⟨linkInv, coupled, fun running => ?_, told⟩
    obtain ⟨up, good⟩ := sweeps running
    obtain same | ⟨untested, -⟩ := same
    · exact ⟨up, same ▸ good⟩
    · simp [untested] at good

theorem refhiEnds_keeps_linkInvs (code : Code) {p : Part} (h : LinkInvs p) : LinkInvs (refhiEnds code p) := by
  unfold refhiEnds
  split
  · next reflo q before taken =>
    have ended : LinkInvs q := h.of_linkKept (takeConversion_linkKept taken)
    refine setChain_keeps_linkInvs ?_ (by split <;> simp)
    split
    · exact ended
    · exact ended.of_linkKept (.of_kept (by simp))
  · exact h

/-! ## The commands -/

theorem orderBayreset_keeps_linkInvs (o : Order) {p : Part} (h : LinkInvs p) : LinkInvs (effect (.orderBayreset o) p) := by
  refine receive_induct (I := LinkInvs) _ _ _ (fun _ _ h => h.of_linkKept (.of_kept (by simp)))
    (fun q h => h.of_linkKept (numberClash_linkKept q)) (fun q h => ?_) h
  unfold takeOrder judgeOrder
  split
  · split
    · split
      · exact h.of_linkKept (.of_kept (by simp))
      · exact (bayReset_keeps_linkInvs h).of_linkKept (.of_kept (by simp))
    · exact h.of_linkKept (.of_kept (by simp))
  · exact h

/-- Every effect keeps the invariants of link, couple sense and sweep. -/
theorem effect_keeps_linkInvs (c : Instr) {p : Part} (h : LinkInvs p) : LinkInvs (effect c p) := by
  cases moves : movesLink c with
  | false => exact h.of_linkKept (effect_linkKept c p moves)
  | true =>
    cases c with
    | ping | ident | hold | release | lamps | fcount | fread | fclear => exact chosen_keeps_linkInvs _ h
    | idle | wait | data | last | ack | refuse | garbledWord => exact coachWord_keeps_linkInvs _ h
    | waitCountExpiry => exact waitCountEnds_keeps_linkInvs h
    | recoveryEnd => exact recoveryEnds_keeps_linkInvs h
    | startTimerExpiry => exact startTimerExpires_keeps_linkInvs h
    | lostPingTimerExpiry => exact lostPingExpires_keeps_linkInvs h
    | keepAliveExpiry => exact keepAliveExpires_keeps_linkInvs h
    | coupleSenseRise => exact coupleRises_keeps_linkInvs h
    | decouple => exact coupleFalls_keeps_linkInvs h
    | orderBayreset o => exact orderBayreset_keeps_linkInvs o h
    | heatFrameBoundary => exact boundary_keeps_linkInvs h
    | refhiConversionEnd code => exact refhiEnds_keeps_linkInvs code h
    | _ => cases moves

theorem started_linkInvs (straps : Straps) : LinkInvs (Part.started straps) := by
  have initial : ∀ p, AllInvariants p → LinkInvs p :=
    fun _ ⟨_, _, _, _, _, _, _, _, _, _, _, _, _, sweep, link, couple, _⟩ => ⟨link, couple, sweep⟩
  unfold Part.started
  split
  · exact initial _ (allInvariants_initial _)
  · exact initial _ (allInvariants_strapFault _)

/-- Settles O59, by what each command that moves the link does to it. -/
theorem everyStepKeepsTheLinkAndTheSweep : Obligations.EveryStepKeepsTheLinkAndTheSweep := by
  intro s t hs h
  refine step_keeps (I := LinkInvs) (fun p hp => ?_) started_linkInvs
    (fun _ hp => hp.of_linkKept (.of_kept ⟨rfl, rfl, rfl, rfl, rfl⟩))
    (fun c p _ hp => effect_keeps_linkInvs c hp) hs h
  unfold Part.tick
  split <;> exact hp

end Sys2Proof.Machine
end

section
/-! The beats of the coach link: the command that the arbiter sends, the ends of the recovery beats, and the timers (R123, R125,
R128, R132 to R135). -/

namespace Sys2Proof.Machine

/-! ## The arbiter (R125, R135) -/

theorem LightsOff.sent_eq (l : LightsOff) : LightsOff.sent l = if l = .waiting then .inFlight else l := by
  cases l <;> rfl

/-- The arbiter finds the keeper's request, and in UP with identity confirmed the first of the others. -/
theorem Link.found_first {l : Link} {who : Requester} {c : Command}
    (first : who = .keeper ∧ l.slots.keeper = some c
      ∨ l.state = .up ∧ l.identConfirmed = true ∧ l.slots.keeper = none
        ∧ (who = .bay ∧ l.slots.bay = some c
          ∨ who = .sweep ∧ l.slots.bay = none ∧ l.slots.sweep = some c
          ∨ who = .faults ∧ l.slots.bay = none ∧ l.slots.sweep = none ∧ l.slots.faults = some c)) :
    Link.found l = some (who, c) := by
  unfold Link.found
  obtain ⟨rfl, placed⟩ | ⟨up, confirmed, noKeeper, later⟩ := first
  · simp [placed]
  · obtain ⟨rfl, placed⟩ | ⟨rfl, noBay, placed⟩ | ⟨rfl, noBay, noSweep, placed⟩ := later
    · simp [up, confirmed, noKeeper, placed]
    · simp [up, confirmed, noKeeper, noBay, placed]
    · simp [up, confirmed, noKeeper, noBay, noSweep, placed]

/-- With the link free the command found is the one sent. -/
theorem chosen_sends {p : Part} {who : Requester} {c : Command} (on : p.link.state ≠ .down) (free : p.link.inFlight = none)
    (recovered : p.link.recovery = none) (found : Link.found p.link = some (who, c)) :
    chosen c.code p = sendCommand who c p := by
  simp [chosen, Link.choice, on, free, recovered, found]

theorem sendCommand_unchanged (who : Requester) (c : Command) (p : Part) :
    unchangedExcept [.osc, .link, .sweep] p (sendCommand who c p) := by
  intro b hb
  cases b <;> simp_all [agreeOn]

theorem effect_rowOfCommand (code : CommandCode) (p : Part) : effect (rowOfCommand code) p = chosen code p := by
  cases code <;> rfl

/-- Settles O30. -/
theorem arbiterSendsTheFirstRequest : Obligations.ArbiterSendsTheFirstRequest := by
  intro s who c mode on free recovered first
  have noReset : ∀ code, (∀ straps, rowOfCommand code ≠ .startUp straps) ∧ rowOfCommand code ≠ .resetAsserted := by
    intro code
    cases code <;> simp [rowOfCommand]
  obtain ⟨startUp, reset⟩ := noReset c.code
  refine completes_normal mode startUp reset ?_
  rw [effect_rowOfCommand, chosen_sends on free recovered (Link.found_first first)]
  refine ⟨rfl, rfl, fun other => if_neg other, fun sweep => ?_, sendCommand_unchanged who c s.part⟩
  rw [← LightsOff.sent_eq]
  exact if_pos sweep

/-! ## The recovery beats (R128, R132) -/

theorem recoveryEnds_resends {p : Part} {b : Moment} {f : InFlight} (recovering : p.link.recovery = some b)
    (flight : p.link.inFlight = some f) : recoveryEnds p = { p with
      osc := max p.osc (max p.link.beat (b + 18000))
      link := { p.link with
        recovery := none, inFlight := some { f with attempt := .second, phase := .awaiting }
        beat := max p.link.beat (b + 18000), heard := true, stationWord := cmdWord f.command } } := by
  simp [recoveryEnds, recovering, flight, recoveryBeat, beatHeard, beatPeriod]

theorem recoveryEnds_pings {p : Part} {b : Moment} (recovering : p.link.recovery = some b) (free : p.link.inFlight = none)
    (starting : p.link.state = .starting) : recoveryEnds p = { p with
      osc := max p.osc (max p.link.beat (b + 18000))
      link := { p.link with
        recovery := none, slots := { p.link.slots with keeper := some { code := .ping, arg := 0 } }
        beat := max p.link.beat (b + 18000), heard := true, stationWord := nopWord } } := by
  simp [recoveryEnds, recovering, free, starting, recoveryBeat, beatHeard, beatPeriod, place, setSlot, Slots.put]

/-! ## Entry to LOST (R134) -/

/-- Where the link stands after entry to LOST. -/
theorem enterLost_standing (p : Part) :
    Link.standing (enterLost p).link = { state := .lost, lostTimer := some (p.osc + 10000000) } := by
  have told := congrArg Prod.fst (enterLost_linkKept p).1
  simp only [Part.linkRecord, sweepAbort_standing] at told
  exact told

/-- The items of a link in LOST. -/
theorem Link.of_standing_lost {l : Link} {t : Moment} (h : Link.standing l = { state := .lost, lostTimer := some t }) :
    l.state = .lost ∧ l.inFlight = none ∧ l.holdConfirmed = false ∧ l.identConfirmed = false ∧ l.startTimer = none
      ∧ l.keepAlive = none ∧ l.lostTimer = some t ∧ l.slots.keeper = none := by
  simp only [Link.standing, Link.mk.injEq, Slots.mk.injEq] at h
  obtain ⟨state, ident, flight, -, -, -, hold, start, lost, alive, ⟨keeper, -⟩, -⟩ := h
  exact ⟨state, flight, hold, ident, start, alive, lost, keeper⟩

theorem enterLost_unchanged (p : Part) : unchangedExcept (.orders :: bayBlocks) p (enterLost p) := by
  intro b hb
  cases b <;> simp_all [agreeOn, bayBlocks]

/-! ## The timers (R132 to R134) -/

theorem startTimerExpires_eq {p : Part} {t : Moment} (timer : p.link.startTimer = some t)
    (starting : p.link.state = .starting) : startTimerExpires p = enterLost (advanceTo t p) := by
  simp [startTimerExpires, timer, starting]

theorem lostPingExpires_eq {p : Part} {t : Moment} (timer : p.link.lostTimer = some t) (lost : p.link.state = .lost) :
    lostPingExpires p = { p with
      osc := max p.osc t
      link := { p.link with
        lostTimer := some (t + 10000000), beat := (Link.atNextBeat p.link (max p.osc t)).beat
        heard := decide (max p.osc t ≤ p.link.beat) && p.link.heard
        slots := { p.link.slots with keeper := some { code := .ping, arg := 0 } } } } := by
  obtain ⟨-, -, -, next⟩ := atNextBeat_waits p.link (max p.osc t)
  have expires : lostPingExpires p = place .keeper .ping { advanceTo t p with
      link := { Link.atNextBeat p.link (max p.osc t) with lostTimer := some (t + lostPingPeriod) } } := by
    simp [lostPingExpires, timer, lost]
  rw [expires, next]
  rfl

theorem keepAliveExpires_eq {p : Part} {t : Moment} (timer : p.link.keepAlive = some t) (up : p.link.state = .up) :
    keepAliveExpires p = { p with
      osc := max p.osc t
      link := { p.link with
        keepAlive := none, slots := { p.link.slots with keeper := some { code := .ping, arg := 0 } } } } := by
  simp [keepAliveExpires, timer, up, place, setSlot, Slots.put, advanceTo]

/-- A beat that has yet to begin, or begins now, is the one waited for; else it is the first later one that begins now or later. -/
theorem atNextBeat_beat (l : Link) (now : Moment) : (Link.atNextBeat l now).beat
    = if now ≤ l.beat then l.beat else l.beat + 2000 * ((now - l.beat + 1999) / 2000) := by
  unfold Link.atNextBeat
  split <;> rfl

/-- Settles O33: each expiry as one update of the link, but that of the start timer, which enters LOST. -/
theorem recoveryAndLinkTimersEnd : Obligations.RecoveryAndLinkTimersEnd := by
  refine ⟨fun s b mode recovering => ⟨fun f flight => ?resent, fun free starting => ?pinged⟩,
    fun s t mode => ⟨fun timer starting => ?start, fun timer lost => ?lost, fun timer up => ?alive⟩⟩ <;>
    refine completes_normal mode (by simp) (by simp) ?_ <;> rw [effect]
  case resent =>
    rw [recoveryEnds_resends recovering flight]
    exact ⟨rfl, rfl, unchanged_of_osc_link s.part _ _⟩
  case pinged =>
    rw [recoveryEnds_pings recovering free starting]
    exact ⟨rfl, rfl, unchanged_of_osc_link s.part _ _⟩
  case start =>
    rw [startTimerExpires_eq timer starting]
    obtain ⟨state, flight, hold, ident, startTimer, -, lostTimer, keeper⟩ :=
      Link.of_standing_lost (enterLost_standing (advanceTo t s.part))
    have osc : (enterLost (advanceTo t s.part)).osc = max s.part.osc t := by simp
    refine ⟨osc, state, flight, startTimer, by rw [lostTimer]; simp, keeper, hold, ident, ?_⟩
    exact (unchanged_of_osc_link s.part (max s.part.osc t) s.part.link).trans (enterLost_unchanged _) (by decide) (by decide)
  case lost =>
    rw [lostPingExpires_eq timer lost]
    refine ⟨rfl, rfl, fun waits => ⟨?_, ?_⟩, fun passed => ⟨?_, ?_⟩, unchanged_of_osc_link s.part _ _⟩
    · exact (atNextBeat_beat ..).trans (if_pos waits)
    · simp [show max s.part.osc t ≤ s.part.link.beat from waits]
    · simp [Nat.not_le.mpr (show s.part.link.beat < max s.part.osc t from passed)]
    · exact (atNextBeat_beat ..).trans (if_neg (Nat.not_le.mpr passed))
  case alive =>
    rw [keepAliveExpires_eq timer up]
    exact ⟨rfl, rfl, unchanged_of_osc_link s.part _ _⟩

end Sys2Proof.Machine
end

section
/-! The words of the coach link: parity and tags, and the words that end no command (R123, R124, R126, R199). -/

namespace Sys2Proof.Machine

/-! ## Parity and tags (R124, R199) -/

/-- The ones of a number are its lowest bit and those above it. -/
theorem onesBelow_succ (n v : Nat) : onesBelow (n + 1) v = onesBelow n (v / 2) + v % 2 := by
  induction n with
  | zero => obtain even | odd := Nat.mod_two_eq_zero_or_one v <;> simp [onesBelow, *]
  | succ n ih =>
    have top : v.testBit (n + 1) = (v / 2).testBit n := Nat.testBit_succ v n
    calc onesBelow (n + 1 + 1) v = (v.testBit (n + 1)).toNat + onesBelow (n + 1) v := rfl
      _ = ((v / 2).testBit n).toNat + (onesBelow n (v / 2) + v % 2) := by rw [top, ih]
      _ = onesBelow (n + 1) (v / 2) + v % 2 := (Nat.add_assoc _ _ _).symm

/-- A tag and a payload stand in a word above its parity bit, which makes the count of ones odd. -/
theorem linkWord_spec {tag payload : Nat} (tagFits : tag < 16) (payloadFits : payload < 65536) :
    onesBelow 21 (linkWord tag payload).toNat % 2 = 1 ∧ (linkWord tag payload).toNat / 131072 = tag
      ∧ (linkWord tag payload).toNat / 2 % 65536 = payload
      ∧ (linkWord tag payload).toNat / 2 = tag * 65536 + payload := by
  obtain ⟨body, eq⟩ : ∃ body, body = tag * 65536 + payload := ⟨_, rfl⟩
  have even : tag * 131072 + payload * 2 = 2 * body := by omega
  have word : (linkWord tag payload).toNat = 2 * body + (onesBelow 20 body + 1) % 2 := by
    have ones : onesBelow 21 (2 * body) = onesBelow 20 body := by simp [onesBelow_succ 20]
    simp only [linkWord, even, ones, BitVec.toNat_ofNat]
    exact Nat.mod_eq_of_lt (by omega)
  have half : (2 * body + (onesBelow 20 body + 1) % 2) / 2 = body := by omega
  rw [word]
  refine ⟨?_, by omega, by omega, by omega⟩
  rw [onesBelow_succ 20, half]
  omega

/-- A word is garbled by its parity or by its tag alone. -/
theorem judgeWord_garbled_iff (w : LinkWord) : judgeWord w = .garbled
    ↔ onesBelow 21 w.toNat % 2 = 0 ∨ w.toNat / 131072 < 8 ∨ 13 < w.toNat / 131072 := by
  unfold judgeWord
  by_cases even : onesBelow 21 w.toNat % 2 = 0
  · simp [even]
  · simp only [even, if_false, false_or]
    split <;> simp_all
    omega

theorem cmdWord_spec (c : Command) : onesBelow 21 (cmdWord c).toNat % 2 = 1 ∧ (cmdWord c).toNat / 131072 = 1
    ∧ (cmdWord c).toNat / 2 % 65536 = commandCode c.code * 256 + c.arg.toNat := by
  have code : commandCode c.code ≤ 8 := by cases c.code <;> decide
  have arg := c.arg.isLt
  obtain ⟨odd, tag, payload, -⟩ :=
    linkWord_spec (tag := 1) (payload := commandCode c.code * 256 + c.arg.toNat) (by decide) (by omega)
  exact ⟨odd, tag, payload⟩

/-! ## Words that end no command (R123, R124, R126) -/

theorem coachWord_down {p : Part} (w : CoachWord) (down : p.link.state = .down) : coachWord w p = p := if_pos down

/-- A word that no command awaits opens its beat alone. -/
theorem coachWord_unheard {p : Part} (w : CoachWord) (on : p.link.state ≠ .down)
    (unheard : ∀ f, p.link.inFlight = some f → f.phase = .recovering) : coachWord w p = beatOpens p := by
  unfold coachWord
  rw [if_neg on]
  dsimp only [beatOpens_keeps_link]
  cases flight : p.link.inFlight with
  | none => simp [flight]
  | some f => simp [flight, InFlight.listens, unheard f flight]

/-- A word that the command in flight awaits acts on it. -/
theorem coachWord_heard {p : Part} {f : InFlight} (w : CoachWord) (on : p.link.state ≠ .down)
    (flight : p.link.inFlight = some f)    (listens : f.phase ≠ .recovering) : coachWord w p = takeWord f w (beatOpens p) := by
  simp [coachWord, on, flight, InFlight.listens, listens]

theorem beatOpens_unchanged (p : Part) : unchangedExcept [.osc, .link] p (beatOpens p) := unchanged_of_osc_link p _ _

theorem wordBeat_eq (l : Link) (now : Moment) : wordBeat l now
    = if l.heard = false ∧ now < l.beat + 2000 then l.beat else l.beat + 2000 * max 1 ((now - l.beat + 1999) / 2000) := by
  have up : ∀ n : Nat, n + 2000 - 1 = n + 1999 := by omega
  simp only [wordBeat, ceilDiv, beatPeriod, up (now - l.beat)]

theorem effect_wordRow {c : Instr} {w : CoachWord} (row : WordRow c w) (p : Part) : effect c p = coachWord w p := by
  cases row with
  | garbled v garbled => exact congrArg (coachWord · p) garbled
  | _ => rfl

theorem WordRow.acts {c : Instr} {w : CoachWord} (row : WordRow c w) :
    (∀ straps, c ≠ .startUp straps) ∧ c ≠ .resetAsserted := by
  cases row <;> simp

/-- A WAIT or IDLE before the 64th is counted. -/
theorem takeWait_counts (f : InFlight) {p : Part} (below : p.link.waitCount < 63) :
    takeWait f p = { p with link := { p.link with waitCount := p.link.waitCount + 1 } } := by
  simp [takeWait, show p.link.waitCount + 1 < 64 by omega]

/-- DATA that the command may still gather joins the gathered words. -/
theorem takeData_gathers (f : InFlight) (w : Word16) {p : Part} (room : p.link.gathered.length < mostWords f.command.code) :
    takeData f w p = { p with link := { p.link with
      waitCount := 0, gathered := p.link.gathered ++ [w], inFlight := some { f with phase := .answering } } } := by
  simp [takeData, room]

/-- Settles O31. -/
theorem wordsOfABeat : Obligations.WordsOfABeat := by
  refine ⟨⟨cmdWord_spec, by decide, by decide, judgeWord_garbled_iff⟩, fun s c w mode row => ?unjudged,
    fun s f mode on flight listens => ⟨fun below c idle => ?wait, fun w room => ?data⟩⟩
  case unjudged =>
    obtain ⟨startUp, reset⟩ := row.acts
    constructor
    · intro down
      rw [exec_normal mode startUp reset, effect_wordRow row, coachWord_down w down]
    · intro on unheard
      refine completes_normal mode startUp reset ?_
      rw [effect_wordRow row, coachWord_unheard w on unheard]
      exact ⟨rfl, wordBeat_eq _ _, rfl, beatOpens_unchanged _⟩
  case wait =>
    obtain ⟨w, row, waits⟩ : ∃ w, WordRow c w ∧ ∀ q, takeWord f w q = takeWait f q := by
      obtain rfl | rfl := idle
      · exact ⟨.idle, .idle, fun _ => rfl⟩
      · exact ⟨.wait, .wait, fun _ => rfl⟩
    obtain ⟨startUp, reset⟩ := row.acts
    refine completes_normal mode startUp reset ?_
    rw [effect_wordRow row, coachWord_heard w on flight listens, waits, takeWait_counts f (by simpa using below)]
    exact ⟨rfl, rfl, unchanged_of_osc_link s.part _ _⟩
  case data =>
    refine completes_normal mode (by simp) (by simp) ?_
    rw [effect, coachWord_heard _ on flight listens, takeWord, takeData_gathers _ _ (by simpa using room)]
    exact ⟨rfl, rfl, unchanged_of_osc_link s.part _ _⟩

end Sys2Proof.Machine
end

section
/-! The coach link's REFUSE (R126, R127, R130): what the command that it ends does (R153, R162, R163, R182, R184, R185). -/

namespace Sys2Proof.Machine

/-- A REFUSE that fits is the outcome of its command. -/
theorem coachWord_refuse {p : Part} {f : InFlight} {reason : Word16} (link : p.link.state ≠ .down)
    (flight : p.link.inFlight = some f) (listens : f.phase ≠ .recovering) (empty : p.link.gathered = [])
    (fits : takesRefuse f.command.code (refuseReasonOf reason) = true) :
    coachWord (.refuse reason) p = refuseOutcome f.command (acked p) := by
  rw [coachWord_heard _ link flight listens]
  simp [takeWord, takeRefuse, fits, empty, acked]

/-! ## HOLD (R130, R182) -/

/-- The part in which a HOLD is refused for the coach that the bay holds, the evaluation still to come (R182). -/
def holdRefused (p : Part) : Part := { p with
  bay := { p.bay with
    retry := some (p.osc + 30000000), reasons := { p.bay.reasons with yardHoldRefused := true } }
  link := { p.link with holdConfirmed := false }
  line := Line.raised .baystate (!p.bay.reasons.yardHoldRefused) p.line }

/-- A HOLD refused with a coach in the bay: YARD_HOLD_REFUSED is set, and the evaluation follows. -/
theorem holdOutcome_refused {p : Part} (held : heldCoach p.bay.state = true) :
    holdOutcome .refused (setHold false p) = evaluate (holdRefused p) := by
  have set : decide (({ p.bay.reasons with yardHoldRefused := true } : Reasons) ≠ p.bay.reasons)
      = !p.bay.reasons.yardHoldRefused := by
    obtain ⟨_, _, _, _, _, _, _, _, yard, _, _⟩ := p.bay.reasons
    cases yard <;> simp
  have refused : setReasons { p.bay.reasons with yardHoldRefused := true }
      { setHold false p with bay := { p.bay with retry := some (p.osc + holdRetryPeriod) } } = holdRefused p := by
    rw [setReasons_eq, set]
    rfl
  rw [← refused]
  cases hs : p.bay.state <;> simp_all [holdOutcome, heldCoach]

/-- YARD_HOLD_REFUSED holds the bay (R178, R179). -/
theorem evaluate_held_of_yard {p : Part} (opens : openState p.bay.state = true) (yard : p.bay.reasons.yardHoldRefused = true) :
    (evaluate p).bay.state = .held := by
  have any : Reasons.any (Part.judgedReasons p) = true := by simp [Reasons.any, Part.judgedReasons, yard]
  rw [(evaluate_placed p opens).2, if_pos any]

/-- In CLEARED it ends a REQUESTED revocation, and no other. -/
theorem holdOutcome_moving {p : Part} (cleared : p.bay.state = .cleared) : holdOutcome .refused p
    = if p.bay.revocation = .requested
      then revocationEnd (.refused .moving) jobLimit { p with bay := { p.bay with revocation := .none } } else p := by
  simp [holdOutcome, cleared]

/-! ## RELEASE (R184, R185) -/

/-- The bay's return, and with it the end of a revocation where one is under way. -/
def returnEnds (revokes : Bool) (r : ReturnReasons) (p : Part) : Part :=
  if revokes then revocationEnd .taken jobLimit (returnToHeld r p) else returnToHeld r p

theorem releaseEnds_eq (refused : Bool) (p : Part) : releaseEnds refused p
    = returnEnds (p.bay.revocation == .deferred)
      { orderHold := p.bay.revocation == .deferred, releaseRefused := refused } p := rfl

/-- The revocation's end leaves the bay as it has come back, and the reply jobs as they are where there is none. -/
theorem returnEnds_returned {revokes : Bool} {r : ReturnReasons} {p : Part}
    (returned : BayReturned r.orderHold r.releaseRefused p (returnToHeld r p)) :
    BayReturned r.orderHold r.releaseRefused p (returnEnds revokes r p)
      ∧ (revokes = true → RevocationEnded .taken [] p (returnEnds revokes r p))
      ∧ (revokes = false → (returnEnds revokes r p).orders = p.orders) := by
  unfold returnEnds
  split
  · next revokes =>
    refine ⟨bayReturned_congr rfl rfl (by simp) (by simp) returned, fun _ => ?_, by simp [revokes]⟩
    refine revocationEnded_congr (w := returnToHeld r p) (by simp) (revocationEnd_ended _ [] _ _ ?_)
    rw [List.append_nil]
    rfl
  · next none_ => exact ⟨returned, by simp [none_], by simp⟩

theorem releaseOutcome_refused {p : Part} {revocation : Revocation}
    (states : p.bay.state = .releasing ∧ revocation = .deferred ∨ p.bay.state = .cleared ∧ revocation = .requested) :
    releaseOutcome .refused p
      = returnEnds (p.bay.revocation == revocation)
        { orderHold := p.bay.revocation == revocation, releaseRefused := true } p := by
  obtain ⟨state, rfl⟩ | ⟨state, rfl⟩ := states <;> simp [releaseOutcome, state, releaseEnds_eq, returnEnds]

/-- A RELEASE refused returns the bay from RELEASING and CLEARED, and with it ends the revocation that waits there. -/
theorem releaseOutcome_returns {p : Part} {revocation : Revocation}
    (states : p.bay.state = .releasing ∧ revocation = .deferred ∨ p.bay.state = .cleared ∧ revocation = .requested) :
    BayReturned (p.bay.revocation == revocation) true p (releaseOutcome .refused (acked p))
      ∧ (p.bay.revocation = revocation → RevocationEnded .taken [] p (releaseOutcome .refused (acked p)))
      ∧ (p.bay.revocation ≠ revocation → (releaseOutcome .refused (acked p)).orders = p.orders) := by
  obtain ⟨returned, ended, kept⟩ := returnEnds_returned (revokes := p.bay.revocation == revocation)
    (returnToHeld_returned (r := { orderHold := p.bay.revocation == revocation, releaseRefused := true }) (.inr rfl) (acked p))
  rw [releaseOutcome_refused (p := acked p) (by simpa using states)]
  simp only [acked_keeps]
  refine ⟨bayReturned_congr (by simp) (by simp) rfl rfl returned, fun same => ?_, fun other => ?_⟩
  · exact revocationEnded_congr (by simp) (ended (by simp [same]))
  · exact (kept (by simp [other])).trans (by simp)

theorem releaseOutcome_unreturned {p : Part} (releasing : p.bay.state ≠ .releasing) (cleared : p.bay.state ≠ .cleared) :
    releaseOutcome .refused p = p := by
  unfold releaseOutcome
  split <;> simp_all

/-! ## LAMPS and FREAD (R153, R154, R163) -/

/-- LAMPS refused NOT_HELD aborts a running sweep; that of the lights-off request ends it alone. -/
theorem lampsOutcome_notHeld {p : Part} (waits : p.sweep.lightsOff ≠ .inFlight) :
    lampsOutcome .notHeld p = sweepAbort true p := by
  cases status : p.sweep.status with
  | running pass phase => simp [lampsOutcome, waits, status]
  | _ => simp [lampsOutcome, waits, status, sweepAbort, SweepStatus.isRunning]

theorem lampsOutcome_notHeld_bay (p : Part) : (lampsOutcome .notHeld p).bay = p.bay := by
  by_cases lightsOff : p.sweep.lightsOff = .inFlight
  · rw [lampsOutcome_lightsOff .notHeld lightsOff]
  · simp [lampsOutcome_notHeld lightsOff]

@[simp] theorem bayNotHeld_besidesSlots (p : Part) :
    Link.besidesSlots (bayNotHeld p).link = Link.besidesSlots p.link := by
  unfold bayNotHeld
  split <;> simp

/-- HOLD is placed where the bay holds a coach. -/
theorem bayNotHeld_slots (p : Part) : (bayNotHeld p).link.slots.sweep = p.link.slots.sweep
    ∧ (heldCoach p.bay.state = true → (bayNotHeld p).link.slots.bay = some { code := .hold, arg := 0 }) := by
  unfold bayNotHeld
  split <;> simp_all [Slots.put]

/-- An FREAD that its operation waits for completes the read where there is no record. -/
theorem faultOutcome_noRecord {p : Part} (reading : p.faults.status = .reading) (free : p.link.slots.faults = none) :
    faultOutcome .fread .noRecord p = completeRead p := by
  simp [faultOutcome, reading, free, OpStatus.command]

/-! ## The command's end -/

/-- Telling the outcome puts no command in flight. -/
theorem refuseOutcome_flight (c : Command) (p : Part) : (refuseOutcome c p).link.inFlight = p.link.inFlight
    ∧ (refuseOutcome c p).link.gathered = p.link.gathered ∧ (refuseOutcome c p).link.waitCount = p.link.waitCount := by
  have kept {q w : Part} (h : Link.besidesSlots q.link = Link.besidesSlots w.link) :
      q.link.inFlight = w.link.inFlight ∧ q.link.gathered = w.link.gathered ∧ q.link.waitCount = w.link.waitCount := by
    obtain ⟨-, flight, gathered, count, -⟩ := besidesSlots_fields h
    exact ⟨flight, gathered, count⟩
  unfold refuseOutcome
  split
  · exact kept (w := setHold false p) (by simp)
  · exact kept (by simp)
  · exact kept (w := setHold false p) (by simp)
  · exact kept (by simp)
  · exact ⟨rfl, rfl, rfl⟩

theorem refuseOutcome_unchanged (c : Command) (p : Part) :
    unchangedExcept ([.share, .lamps, .orders] ++ bayBlocks) p (refuseOutcome c p) := by
  intro b hb
  cases b <;> simp_all [agreeOn, bayBlocks]

/-- Settles O35. -/
theorem refuseEndsItsCommand : Obligations.RefuseEndsItsCommand := by
  intro s f reason mode link flight listens empty fits
  refine completes_normal mode (by simp) (by simp) ?_
  rw [effect, coachWord_refuse link flight listens empty fits]
  generalize hc : f.command = c at *
  refine ⟨?_, ?_, ?_, fun hold => ?_, fun release => ?_, fun fread reading free => ?_, fun lamps => ?_, ?_⟩
  · simp [refuseOutcome_flight, acked_link]
  · simp [refuseOutcome_flight, acked_link]
  · simp [refuseOutcome_flight, acked_link]
  · have told : refuseOutcome c (acked s.part) = holdOutcome .refused (setHold false (acked s.part)) := by
      simp [refuseOutcome, hold]
    rw [told]
    obtain ⟨-, -, -, -, confirmed, -⟩ :=
      besidesSlots_fields (holdOutcome_besidesSlots .refused (setHold false (acked s.part)))
    refine ⟨confirmed, fun held => ?_, fun cleared requested => ?_, fun cleared none_ => ?_, fun elsewhere => ?_⟩
    · rw [holdOutcome_refused (by simpa using held)]
      obtain ⟨latched, retry⟩ := evaluate_latched (holdRefused (acked s.part))
      refine ⟨congrArg Prod.fst latched, retry.trans (by simp [holdRefused]), fun open_ => ?_, holdRefused (acked s.part), rfl,
        ?_, rfl, ?_, ?_, ?_, ?_, fun b hb => ?_⟩
      · refine evaluate_held_of_yard ?_ rfl
        cases state : s.part.bay.state <;> simp_all [holdRefused, heldCoach, openState]
      · simp [holdRefused]
      · simp [holdRefused, acked_link]
      · simp [holdRefused, acked_link]
      · simp [holdRefused, acked_link]
      · simp [holdRefused]
      · cases b <;> simp_all [agreeOn, holdRefused]
    · rw [holdOutcome_moving (by simpa using cleared), if_pos (by simpa using requested)]
      refine ⟨by simp, revocationEnded_congr (w := { setHold false (acked s.part) with
        bay := { (setHold false (acked s.part)).bay with revocation := .none } }) (by simp) (revocationEnd_ended _ [] _ _ ?_)⟩
      rw [List.append_nil]
      rfl
    · rw [holdOutcome_moving (by simpa using cleared), if_neg (by simpa using none_)]
      simp
    · rw [holdOutcome_elsewhere .refused (by simpa using elsewhere)]
      simp
  · have told : refuseOutcome c (acked s.part) = releaseOutcome .refused (acked s.part) := by simp [refuseOutcome, release]
    rw [told]
    obtain ⟨-, -, -, -, confirmed, -⟩ := besidesSlots_fields (releaseOutcome_besidesSlots .refused (acked s.part))
    refine ⟨confirmed.trans (by simp [acked_link]), ?_, ?_, fun releasing cleared => ?_⟩
    · exact fun releasing => releaseOutcome_returns (.inl ⟨releasing, rfl⟩)
    · exact fun cleared => releaseOutcome_returns (.inr ⟨cleared, rfl⟩)
    · rw [releaseOutcome_unreturned (by simpa using releasing) (by simpa using cleared)]
      simp
  · have told : refuseOutcome c (acked s.part) = faultOutcome .fread .noRecord (acked s.part) := by simp [refuseOutcome, fread]
    rw [told, faultOutcome_noRecord (by simpa using reading) (by simpa [acked_link] using free)]
    simpa [ReadInstalled, Part.completionNow, Part.dated] using completeRead_installed (acked s.part)
  · have told : refuseOutcome c (acked s.part) = bayNotHeld (lampsOutcome .notHeld (setHold false (acked s.part))) := by
      simp [refuseOutcome, lamps]
    rw [told]
    have flagged := bayNotHeld_besidesSlots (lampsOutcome .notHeld (setHold false (acked s.part)))
    obtain ⟨-, -, -, -, confirmed, -⟩ := besidesSlots_fields (flagged.trans (lampsOutcome_besidesSlots ..))
    obtain ⟨slot, held⟩ := bayNotHeld_slots (lampsOutcome .notHeld (setHold false (acked s.part)))
    refine ⟨confirmed, fun waits => ?_, fun lightsOff => ?_, fun coach => held ?_⟩
    · rw [lampsOutcome_notHeld (by simpa using waits)] at slot ⊢
      refine sweepAborted_congr ?_ ?_ ?_ ?_ ?_ ?_ slot (sweepAbort_aborted true _)
      all_goals simp [acked_link]
    · rw [slot, lampsOutcome_lightsOff .notHeld (by simpa using lightsOff)]
      simp [acked_link]
    · simpa [lampsOutcome_notHeld_bay] using coach
  · exact (acked_unchanged s.part).trans (refuseOutcome_unchanged c _) (by decide) (by decide)

end Sys2Proof.Machine
end

section
/-! Entry to LOST (R134): what the bay controller makes of it, with LINK_LOST among its reasons (R178, R179, R184). -/

namespace Sys2Proof.Machine

/-! ## The evaluation under LINK_LOST (R178, R179) -/

/-- The blocks that an evaluation writes which aborts no check of the coach. -/
def recordBlocks : List Block := [.bay, .cache, .remarks, .line, .plan, .free]

/-- With the link LOST an evaluation takes an open bay to HELD. -/
theorem evaluate_lost {p : Part} (opens : openState p.bay.state = true) (lost : p.link.state = .lost) :
    evaluate p = setBayState .held (judge p) := by
  have any : Reasons.any (Part.judgedReasons p) = true := by simp [Reasons.any, Part.judgedReasons, lost]
  have held : (evaluate p).bay.state = .held := by rw [(evaluate_placed p opens).2, if_pos any]
  simpa [held] using evaluate_stays opens (by simp [held])

/-- It aborts no check. -/
theorem evaluate_lost_unchanged {p : Part} (lost : p.link.state = .lost) : unchangedExcept recordBlocks p (evaluate p) := by
  intro b hb
  by_cases opens : openState p.bay.state = true
  · rw [evaluate_lost opens lost]
    cases b <;> simp_all [agreeOn, recordBlocks]
  · obtain same | same | ⟨open_, -⟩ | ⟨open_, -⟩ := evaluate_cases p
    · rw [same]
      cases b <;> rfl
    · rw [same]
      cases b <;> simp_all [agreeOn, recordBlocks]
    · exact absurd open_ opens
    · exact absurd open_ opens

theorem evaluate_lost_reason {p : Part} (held : heldCoach p.bay.state = true) (lost : p.link.state = .lost) :
    (evaluate p).bay.reasons.linkLost = true := by
  cases state : p.bay.state with
  | standby => simp [evaluate_standby p state, Part.judgedReasons, lost]
  | prepare | ready | held => simp [(evaluate_placed p (by simp [state, openState])).1, Part.judgedReasons, lost]
  | empty | coupled | releasing | cleared => simp [state, heldCoach] at held

/-! ## The return under LINK_LOST (R184) -/

/-- A lookup in STANDBY leaves it, its watches as they were, or has a copy take the bay to HELD; it aborts no check. -/
theorem rosterLookup_lost {p : Part} (standby : p.bay.state = .standby) (lost : p.link.state = .lost)
    (reason : p.bay.reasons.linkLost = true) :
    ((rosterLookup p).bay.state = .standby ∧ (rosterLookup p).bay.readWatch = p.bay.readWatch
        ∧ (rosterLookup p).bay.sweepWatch = p.bay.sweepWatch ∧ (rosterLookup p).bay.windowWatch = p.bay.windowWatch
      ∨ (rosterLookup p).bay.state = .held)
    ∧ (rosterLookup p).bay.reasons.linkLost = true ∧ unchangedExcept recordBlocks p (rosterLookup p) := by
  obtain same | ⟨d, same⟩ | ⟨-, -, c, same⟩ := rosterLookup_cases p <;> rw [same]
  · exact ⟨.inl ⟨standby, rfl, rfl, rfl⟩, reason, fun b _ => by cases b <;> rfl⟩
  · refine ⟨by simp [standby], by simpa using reason, fun b hb => ?_⟩
    cases b <;> simp_all [agreeOn, recordBlocks]
  · by_cases invalid : p.clock.status = .invalid
    · rw [copyArrives, tryPrepare_waits (.inr (by simpa using invalid))]
      refine ⟨by simp [standby, stopAsking], by simpa [stopAsking] using reason, fun b hb => ?_⟩
      cases b <;> simp_all [agreeOn, recordBlocks]
    · rw [copyArrives, tryPrepare_prepares (by simp [standby, stopAsking]) (by simp [stopAsking]) (by simpa using invalid),
        evaluate_lost (by simp [openState]) (by simpa using lost)]
      refine ⟨by simp, by simp [Part.judgedReasons, lost], fun b hb => ?_⟩
      cases b <;> simp_all [agreeOn, recordBlocks]

/-- A bay back from RELEASING under LINK_LOST, in the words of the statements; its return aborts no check. -/
theorem returnToHeld_lost (r : ReturnReasons) {p : Part} (lost : p.link.state = .lost) :
    BayReturned r.orderHold r.releaseRefused p (returnToHeld r p) ∧ (returnToHeld r p).bay.reasons.linkLost = true
      ∧ unchangedExcept recordBlocks p (returnToHeld r p) := by
  obtain ⟨lasting, stale⟩ := returnToHeld_lasting r p
  simp only [Bay.lasting, Reasons.latched, Prod.mk.injEq] at lasting
  obtain ⟨identity, window, revocation, ⟨yard, order, refused⟩, -⟩ := lasting
  have unstale : p.bay.state = .cleared → (returnToHeld r p).remarks.staleClearance = false := fun cleared => by
    simp [stale, cleared]
  cases copy : p.bay.roster with
  | some c =>
    have held : returnToHeld r p = setBayState .held (judge (setBayState .held (returning r p))) := by
      rw [returnToHeld_eq, if_pos (by simp [copy]), evaluate_lost (by simp [openState]) (by simpa [returning] using lost)]
    refine ⟨⟨revocation, order, refused, yard, identity, unstale, fun _ => ⟨?_, ?_, ?_⟩, by simp [copy],
      by simp [copy], fun _ => ?_⟩,
      ?_, fun b hb => ?_⟩
    · simp [held]
    · simp [held, returning]
    · simp [held, returning, copy]
    · simp [held, returning]
    · simp [held, Part.judgedReasons, returning, lost]
    · rw [held]
      cases b <;> simp_all [agreeOn, recordBlocks, returning]
  | none =>
    have waits : returnToHeld r p = rosterLookup (standBy (returning r p)) := by simp [returnToHeld_eq, copy]
    obtain ⟨state, reason, rest⟩ := rosterLookup_lost (p := standBy (returning r p)) (by simp)
      (by simpa [returning] using lost) (by simp [standBy, Part.judgedReasons, returning, lost])
    rw [← waits] at state reason rest
    have stood : unchangedExcept recordBlocks p (standBy (returning r p)) := fun b hb => by
      cases b <;> simp_all [agreeOn, recordBlocks, returning]
    refine ⟨⟨revocation, order, refused, yard, identity, unstale, by simp [copy],
      fun _ => ⟨by simp [window, copy], state.imp_left And.left⟩, fun _ missing => ?_,
      fun standby => ?_⟩, reason, stood.trans rest (by simp) (by simp)⟩
    · rw [waits]
      cases known : p.bay.identity with
      | none => rw [rosterLookup_elsewhere (.inr (.inl (by simp [returning, known])))]; simp
      | some d =>
        rw [rosterLookup_asks (d := d) (by simp) (by simp [returning, known]) (by simp [returning, copy])]
        · simp
        · simpa [standBy, setBayState_entries, returning] using missing d known
    · obtain ⟨-, read, sweep, departure⟩ | held := state
      · simp [read, sweep, departure, returning]
      · simp [held, copy] at standby

end Sys2Proof.Machine
end

section
/-! The failure of the command in flight (R126 to R129, R132, R134): the rows at which it fails, and the entry to LOST with what sweep,
fault list and bay controller make of it. -/

namespace Sys2Proof.Machine

/-! ## The rows at which a command fails (R126 to R128, R137) -/

/-- The part at the moment of a failure, with the beat of the word that brought it. -/
def Part.failing (t b : Moment) (waits : Nat) (alive : Option Moment) (p : Part) : Part := { p with
  osc := t
  link := { p.link with beat := b, heard := true, stationWord := nopWord, waitCount := waits, keepAlive := alive } }

theorem answerEnds_failing (p : Part) : ∃ alive, answerEnds (beatOpens p)
    = Part.failing (max p.osc (wordBeat p.link p.osc)) (wordBeat p.link p.osc) p.link.waitCount alive p := by
  unfold answerEnds
  split <;> exact ⟨_, rfl⟩

theorem takeLast_fails {f : InFlight} {w : Word16} {p : Part}
    (fails : takesLast f.command.code (p.link.gathered ++ [w]) = false
      ∨ f.command.code = .ident ∧ identityOf (p.link.gathered ++ [w]) = none) :
    takeLast f w p = failCommand f (answerEnds p) := by
  obtain misfit | ⟨ident, rejected⟩ := fails
  · simp [takeLast, misfit]
  · simp [takeLast, ident, rejected]

theorem takeAck_fails {f : InFlight} {p : Part} (fails : takesAck f.command.code = false ∨ p.link.gathered ≠ []) :
    takeAck f p = failCommand f (answerEnds p) := by
  obtain misfit | gathered := fails
  · simp [takeAck, misfit]
  · simp [takeAck, gathered]

theorem takeRefuse_fails {f : InFlight} {r : Word16} {p : Part}
    (fails : takesRefuse f.command.code (refuseReasonOf r) = false ∨ p.link.gathered ≠ []) :
    takeRefuse f r p = failCommand f (answerEnds p) := by
  obtain misfit | gathered := fails
  · simp [takeRefuse, misfit]
  · simp [takeRefuse, gathered]

theorem takeWait_fails {f : InFlight} {p : Part} (last : p.link.waitCount = 63) : takeWait f p = failCommand f p := by
  simp [takeWait, last]

/-- At each of the rows the command in flight fails, with nothing but the beat, the wait count and the keep-alive timer written. -/
theorem failingRow_fails {p : Part} {f : InFlight} {c : Instr} (on : p.link.state ≠ .down) (flight : p.link.inFlight = some f)
    (listens : f.phase ≠ .recovering) (row : FailingRow p.link f c) :
    ∃ t b waits alive, effect c p = failCommand f (Part.failing t b waits alive p) := by
  have heard := fun w => coachWord_heard (p := p) w on flight listens
  obtain ⟨alive, ended⟩ := answerEnds_failing p
  have answered : ∀ w, takeWord f w (beatOpens p) = failCommand f (answerEnds (beatOpens p)) → ∃ t b waits alive,
      coachWord w p = failCommand f (Part.failing t b waits alive p) :=
    fun w told => ⟨_, _, _, _, (heard w).trans (told.trans (congrArg (failCommand f) ended))⟩
  cases row with
  | idle last | wait last => exact ⟨_, _, _, _, (heard _).trans (takeWait_fails last)⟩
  | count =>
    have counted : waitCountEnds p = takeWait f (Part.failing
        (max p.osc (wordBeat p.link p.osc + beatPeriod * (63 - p.link.waitCount)))
        (wordBeat p.link p.osc + beatPeriod * (63 - p.link.waitCount)) 63 p.link.keepAlive p) := by
      simp [waitCountEnds, flight, InFlight.listens, listens, beatHeard, Part.failing]
    exact ⟨_, _, _, _, counted.trans (takeWait_fails rfl)⟩
  | garbled v garbled => exact ⟨_, _, _, _, (congrArg (coachWord · p) garbled).trans (heard .garbled)⟩
  | data v full => exact ⟨_, _, _, _, (heard _).trans (if_neg (Nat.not_lt.mpr full))⟩
  | last v misfit => exact answered _ (takeLast_fails (p := beatOpens p) (.inl misfit))
  | identity v ident rejected => exact answered _ (takeLast_fails (p := beatOpens p) (.inr ⟨ident, rejected⟩))
  | ack misfit => exact answered _ (takeAck_fails (p := beatOpens p) misfit)
  | refuse r misfit => exact answered _ (takeRefuse_fails (p := beatOpens p) misfit)

theorem FailingRow.acts {l : Link} {f : InFlight} {c : Instr} (row : FailingRow l f c) :
    (∀ straps, c ≠ .startUp straps) ∧ c ≠ .resetAsserted := by
  cases row <;> simp

/-! ## The requester is told (R129, R153, R161) -/

/-- A LAMPS that fails aborts a running sweep; that of the lights-off request ends it alone. -/
theorem lampsOutcome_failed {p : Part} (waits : p.sweep.lightsOff ≠ .inFlight) :
    lampsOutcome .failed p = sweepAbort false p := by
  cases status : p.sweep.status with
  | running pass phase => simp [lampsOutcome, waits, status]
  | _ => simp [lampsOutcome, waits, status, sweepAbort, SweepStatus.isRunning]

/-- What the failure of a command other than LAMPS tells is a matter of the fault list. -/
theorem failedOutcome_other {c : Command} (other : c.code ≠ .lamps) (p : Part) :
    unchangedExcept [.faults] p (failedOutcome c p) := by
  have waits : ∀ code, unchangedExcept [.faults] p (faultOutcome code .failed p) := by
    intro code b hb
    unfold faultOutcome
    split <;> cases b <;> simp_all [agreeOn, waitOperation]
  unfold failedOutcome
  split
  · next lamps => exact absurd lamps other
  iterate 3 exact waits _
  · exact fun b _ => by cases b <;> rfl

theorem failedOutcome_unchanged (c : Command) (p : Part) :
    unchangedExcept [.heat, .measure, .link, .sweep, .faults] p (failedOutcome c p) := by
  by_cases lamps : c.code = .lamps
  · have told : failedOutcome c p = lampsOutcome .failed p := by simp [failedOutcome, lamps]
    rw [told]
    intro b hb
    by_cases lightsOff : p.sweep.lightsOff = .inFlight
    · rw [lampsOutcome_lightsOff .failed lightsOff]
      cases b <;> simp_all [agreeOn]
    · rw [lampsOutcome_failed lightsOff]
      cases b <;> simp_all [agreeOn]
  · exact fun b hb => failedOutcome_other lamps p b (by simp_all)

/-! ## Sweep and fault list at LOST (R134, R153, R165) -/

/-- The part in LOST, with sweep and fault list told; the bay controller is still to be told. -/
def lostTold (p : Part) : Part := operationWaits (sweepAbort false (lostNow p))

theorem enterLost_told (p : Part) : enterLost p = bayLinkLost (lostTold p) := rfl

theorem operationWaits_slots (p : Part) : (operationWaits p).link.slots.keeper = p.link.slots.keeper
    ∧ (operationWaits p).link.slots.bay = p.link.slots.bay ∧ (operationWaits p).link.slots.sweep = p.link.slots.sweep := by
  unfold operationWaits
  split <;> simp [Slots.put]

@[simp] theorem operationWaits_besidesSlots (p : Part) :
    Link.besidesSlots (operationWaits p).link = Link.besidesSlots p.link := by
  unfold operationWaits
  split <;> rfl

/-- No operation of the fault list goes on. -/
theorem operationWaits_status (p : Part) :
    (operationWaits p).faults.status = .idle ∨ (operationWaits p).faults.status = .waiting := by
  unfold operationWaits
  split <;> simp_all [waitOperation]

theorem lostTold_unchanged (p : Part) : unchangedExcept [.heat, .measure, .link, .sweep, .faults] p (lostTold p) := by
  intro b hb
  cases b <;> simp_all [agreeOn, lostTold, lostNow]

theorem lostTold_besidesSlots (p : Part) : Link.besidesSlots (lostTold p).link = Link.besidesSlots (lostNow p).link := by
  simp [lostTold]

/-- The abort at LOST, told of the part before the command failed. -/
theorem lostTold_aborted (c : Command) (p : Part) : SweepAborted false p (lostTold (failedOutcome c p)) := by
  obtain ⟨-, -, slot⟩ := operationWaits_slots (sweepAbort false (lostNow (failedOutcome c p)))
  suffices aborted : SweepAborted false p (sweepAbort false (lostNow (failedOutcome c p))) from
    sweepAborted_congr rfl rfl rfl (by simp [lostTold]) (by simp [lostTold]) (by simp [lostTold]) slot aborted
  by_cases lamps : c.code = .lamps
  · have told : failedOutcome c p = lampsOutcome .failed p := by simp [failedOutcome, lamps]
    rw [told]
    by_cases lightsOff : p.sweep.lightsOff = .inFlight
    · rw [lampsOutcome_lightsOff .failed lightsOff]
      have aborted := sweepAbort_aborted false (lostNow { p with sweep := { p.sweep with lightsOff := .notPlaced } })
      simpa [SweepAborted, lostNow, lightsOff, Slots.put] using aborted
    · rw [lampsOutcome_failed lightsOff]
      have stopped : sweepAbort false (lostNow (sweepAbort false p)) = lostNow (sweepAbort false p) := by
        rw [sweepAbort, if_neg (by simp [lostNow])]
      rw [stopped]
      exact sweepAborted_congr rfl rfl rfl rfl rfl rfl rfl (sweepAbort_aborted false p)
  · have kept := failedOutcome_other lamps p
    have sweep : p.sweep = (failedOutcome c p).sweep := kept .sweep (by simp)
    have measure : p.measure = (failedOutcome c p).measure := kept .measure (by simp)
    have link : p.link = (failedOutcome c p).link := kept .link (by simp)
    exact sweepAborted_congr sweep measure (congrArg (·.slots.sweep) link) rfl rfl rfl rfl
      (sweepAbort_aborted false (lostNow (failedOutcome c p)))

/-! ## The bay controller at LOST (R178, R179, R184) -/

theorem bayLinkLost_besidesSlots (p : Part) : Link.besidesSlots (bayLinkLost p).link = Link.besidesSlots p.link := by
  unfold bayLinkLost
  split <;> simp

theorem bayLinkLost_releasing {p : Part} (releasing : p.bay.state = .releasing) :
    bayLinkLost p = releaseEnds false (setSlot .bay none p) := by
  simp [bayLinkLost, releasing]

theorem bayLinkLost_elsewhere {p : Part} (elsewhere : p.bay.state ≠ .releasing) : bayLinkLost p = evaluate p := by
  unfold bayLinkLost
  split
  · next releasing => exact absurd releasing elsewhere
  · rfl

/-- In RELEASING the RELEASE is withdrawn and the bay returns, with a DEFERRED revocation at its end. -/
theorem bayLinkLost_returns {p : Part} (releasing : p.bay.state = .releasing) (lost : p.link.state = .lost) :
    (BayReturned (p.bay.revocation == .deferred) false p (bayLinkLost p)
        ∧ (p.bay.revocation = .deferred → RevocationEnded .taken [] p (bayLinkLost p))
        ∧ (p.bay.revocation ≠ .deferred → (bayLinkLost p).orders = p.orders))
      ∧ (bayLinkLost p).bay.reasons.linkLost = true
      ∧ unchangedExcept (.orders :: recordBlocks) (setSlot .bay none p) (bayLinkLost p) := by
  obtain ⟨returned, reason, kept⟩ := returnToHeld_lost
    { orderHold := p.bay.revocation == .deferred, releaseRefused := false } (p := setSlot .bay none p) (by simpa using lost)
  obtain ⟨bay, ended, orders⟩ := returnEnds_returned (revokes := p.bay.revocation == .deferred) returned
  have told : bayLinkLost p = returnEnds (p.bay.revocation == .deferred)
      { orderHold := p.bay.revocation == .deferred, releaseRefused := false } (setSlot .bay none p) :=
    bayLinkLost_releasing releasing
  rw [told]
  refine ⟨⟨bayReturned_congr (by simp) (by simp) rfl rfl bay, fun deferred => ?_, fun other => ?_⟩, ?_, ?_⟩
  · exact revocationEnded_congr (by simp) (ended (by simp [deferred]))
  · exact (orders (by simp [other])).trans (by simp)
  · unfold returnEnds
    split <;> simpa using reason
  · refine kept.trans (second := [.orders]) (fun b hb => ?_) (by simp +contextual) (by simp)
    unfold returnEnds
    split <;> cases b <;> simp_all [agreeOn]

/-- Whatever the bay controller makes of LOST aborts no check of the coach. -/
theorem bayLinkLost_unchanged {p : Part} (lost : p.link.state = .lost) :
    unchangedExcept (.link :: .orders :: recordBlocks) p (bayLinkLost p) := by
  by_cases releasing : p.bay.state = .releasing
  · obtain ⟨-, -, kept⟩ := bayLinkLost_returns releasing lost
    have withdrawn : unchangedExcept [.link] p (setSlot .bay none p) := fun b hb => by cases b <;> simp_all [agreeOn]
    exact withdrawn.trans kept (by simp) (by simp +contextual)
  · rw [bayLinkLost_elsewhere releasing]
    exact fun b hb => evaluate_lost_unchanged lost b (by simp_all)

theorem bayLinkLost_slots {p : Part} (lost : p.link.state = .lost) :
    (bayLinkLost p).link.slots.sweep = p.link.slots.sweep
      ∧ (p.bay.state = .releasing → (bayLinkLost p).link.slots.bay = none) := by
  by_cases releasing : p.bay.state = .releasing
  · obtain ⟨-, -, kept⟩ := bayLinkLost_returns releasing lost
    have link : (setSlot .bay none p).link = (bayLinkLost p).link := kept .link (by simp [recordBlocks])
    rw [← link]
    exact ⟨rfl, fun _ => rfl⟩
  · have link : p.link = (bayLinkLost p).link := by
      rw [bayLinkLost_elsewhere releasing]
      exact evaluate_lost_unchanged lost .link (by simp [recordBlocks])
    rw [← link]
    exact ⟨rfl, fun elsewhere => absurd elsewhere releasing⟩

theorem bayLinkLost_identity (p : Part) : (bayLinkLost p).bay.identity = p.bay.identity := by
  by_cases releasing : p.bay.state = .releasing
  · obtain ⟨lasting, -⟩ := returnToHeld_lasting
      { orderHold := p.bay.revocation == .deferred, releaseRefused := false } (setSlot .bay none p)
    have identity : (returnToHeld _ _).bay.identity = p.bay.identity := congrArg Prod.fst lasting
    rw [bayLinkLost_releasing releasing, releaseEnds]
    split <;> simpa using identity
  · rw [bayLinkLost_elsewhere releasing]
    exact congrArg Prod.fst (evaluate_lasting p)

/-- What LOST leaves of the link. -/
theorem enterLost_link {p q : Part} (told : q = enterLost p) :
    q.link.state = .lost ∧ q.link.inFlight = none ∧ q.link.recovery = none ∧ q.link.waitCount = 0
      ∧ q.link.gathered = [] ∧ q.link.holdConfirmed = false ∧ q.link.identConfirmed = false
      ∧ q.link.keepAlive = none ∧ q.link.lostTimer = some (q.osc + 10000000) ∧ q.link.slots.keeper = none := by
  subst told
  have same : Link.besidesSlots (enterLost p).link = Link.besidesSlots (lostNow p).link :=
    (bayLinkLost_besidesSlots _).trans (lostTold_besidesSlots p)
  obtain ⟨state, flight, gathered, waits, -⟩ := besidesSlots_fields same
  have recovery : (enterLost p).link.recovery = none := congrArg Link.recovery (a₁ := Link.besidesSlots _) same
  obtain ⟨-, -, hold, ident, -, alive, timer, keeper⟩ := Link.of_standing_lost (enterLost_standing p)
  exact ⟨state, flight, recovery, waits, gathered, hold, ident, alive, by rw [timer]; simp, keeper⟩

/-- What the bay controller's part in LOST leaves of the part before the failure. -/
theorem bayLinkLost_settles {p w : Part} (lost : w.link.state = .lost)
    (told : unchangedExcept [.osc, .heat, .measure, .link, .sweep, .faults] p w) (aborted : SweepAborted false p w)
    (waiting : w.faults.status = .idle ∨ w.faults.status = .waiting) :
    SweepAborted false p (bayLinkLost w)
      ∧ ((bayLinkLost w).faults.status = .idle ∨ (bayLinkLost w).faults.status = .waiting)
      ∧ (heldCoach p.bay.state = true → (bayLinkLost w).bay.reasons.linkLost = true
          ∧ ∃ v : Part, bayLinkLost w = evaluate v ∧ v.link.state = .lost ∧ SweepAborted false p v
            ∧ unchangedExcept [.osc, .heat, .measure, .link, .sweep, .faults] p v)
      ∧ (p.bay.state = .releasing → (bayLinkLost w).bay.reasons.linkLost = true ∧ (bayLinkLost w).link.slots.bay = none
          ∧ BayReturned (p.bay.revocation == .deferred) false p (bayLinkLost w)
          ∧ (p.bay.revocation = .deferred → RevocationEnded .taken [] p (bayLinkLost w))
          ∧ (p.bay.revocation ≠ .deferred → (bayLinkLost w).orders = p.orders))
      ∧ (bayLinkLost w).bay.identity = p.bay.identity
      ∧ unchangedExcept ([.osc, .orders] ++ bayBlocks) p (bayLinkLost w) := by
  have bay : p.bay = w.bay := told .bay (by decide)
  have cache : p.cache = w.cache := told .cache (by decide)
  have orders : p.orders = w.orders := told .orders (by decide)
  have kept := bayLinkLost_unchanged lost
  have sweep : w.sweep = (bayLinkLost w).sweep := kept .sweep (by decide)
  have measure : w.measure = (bayLinkLost w).measure := kept .measure (by decide)
  have heat : w.heat = (bayLinkLost w).heat := kept .heat (by decide)
  have faults : w.faults = (bayLinkLost w).faults := kept .faults (by decide)
  obtain ⟨slot, withdrawn⟩ := bayLinkLost_slots lost
  refine ⟨sweepAborted_congr rfl rfl rfl sweep.symm measure.symm heat.symm slot aborted, by rwa [← faults], fun held => ?_,
    fun releasing => ?_, (bayLinkLost_identity w).trans (by rw [bay]), told.trans kept (by decide) (by decide)⟩
  · have elsewhere : w.bay.state ≠ .releasing := by
      rw [← bay]
      rintro releasing
      simp [releasing, heldCoach] at held
    rw [bayLinkLost_elsewhere elsewhere]
    exact ⟨evaluate_lost_reason (by rwa [← bay]) lost, w, rfl, lost, aborted, told⟩
  · rw [bay] at releasing
    obtain ⟨⟨returned, ended, kept⟩, reason, -⟩ := bayLinkLost_returns releasing lost
    rw [bay, orders]
    exact ⟨reason, withdrawn releasing, bayReturned_congr bay cache rfl rfl returned,
      fun deferred => revocationEnded_congr orders.symm (ended deferred), kept⟩

/-! ## The failure of the second attempt -/

section
variable (c : Command) (p : Part)

theorem failedLost_state : (lostTold (failedOutcome c p)).link.state = .lost :=
  (besidesSlots_fields (lostTold_besidesSlots _)).1

theorem failedLost_unchanged :
    unchangedExcept [.heat, .measure, .link, .sweep, .faults] p (lostTold (failedOutcome c p)) :=
  (failedOutcome_unchanged c p).trans (lostTold_unchanged _) (by simp) (by simp)

end

/-- Settles O32. -/
theorem commandFailure : Obligations.CommandFailure := by
  intro s f c mode flight listens row
  obtain ⟨startUp, reset⟩ := row.acts
  have fails : s.part.link.state ≠ .down → ∃ t b waits alive,
      effect c s.part = failCommand f (Part.failing t b waits alive s.part) :=
    fun on => failingRow_fails on flight listens row
  refine ⟨fun up first => ?first, fun up second => ?second, fun starting => ?starting, fun lost => ?lost⟩ <;>
    refine completes_normal mode startUp reset ?_ <;> obtain ⟨t, b, waits, alive, acts⟩ := fails (by simp [*]) <;> rw [acts]
  case first =>
    have failed : failCommand f (Part.failing t b waits alive s.part) = { s.part with
        osc := t
        link := { (Part.failing t b waits alive s.part).link with
          inFlight := some { f with phase := .recovering }, waitCount := 0, gathered := [], recovery := some b } } := by
      simp [failCommand, Part.failing, up, first]
    rw [failed]
    exact ⟨rfl, rfl, rfl, rfl, up, rfl, rfl, rfl, unchanged_of_osc_link s.part _ _⟩
  case starting =>
    have failed : failCommand f (Part.failing t b waits alive s.part) = { s.part with
        osc := t
        link := { (Part.failing t b waits alive s.part).link with
          inFlight := none, waitCount := 0, gathered := [], recovery := some b } } := by
      simp [failCommand, Part.failing, starting, leaveFlight]
    rw [failed]
    exact ⟨rfl, rfl, rfl, rfl, starting, unchanged_of_osc_link s.part _ _⟩
  case lost =>
    have failed : failCommand f (Part.failing t b waits alive s.part) = leaveFlight (Part.failing t b waits alive s.part) := by
      simp [failCommand, Part.failing, lost]
    rw [failed]
    exact ⟨rfl, rfl, rfl, lost, rfl, unchanged_of_osc_link s.part _ _⟩
  case second =>
    generalize left : leaveFlight (Part.failing t b waits alive s.part) = p
    have failed : failCommand f (Part.failing t b waits alive s.part) = enterLost (failedOutcome f.command p) := by
      simp [failCommand, Part.failing, up, second, ← left]
    have since : unchangedExcept [.osc, .link] s.part p := left ▸ unchanged_of_osc_link s.part _ _
    have slots : s.part.link.slots = p.link.slots := by rw [← left]; rfl
    rw [failed]
    obtain ⟨state, flight, recovery, waits, gathered, hold, ident, alive, timer, keeper⟩ :=
      enterLost_link (p := failedOutcome f.command p) rfl
    refine ⟨state, flight, recovery, waits, gathered, hold, ident, alive, timer, keeper, ?_⟩
    rw [enterLost_told]
    have lost := failedLost_state f.command p
    have told := since.trans (failedLost_unchanged f.command p) (blocks := [.osc, .heat, .measure, .link, .sweep, .faults])
      (by simp) (by simp)
    have aborted : SweepAborted false s.part (lostTold (failedOutcome f.command p)) :=
      sweepAborted_congr (since .sweep (by decide)) (since .measure (by decide)) (congrArg Slots.sweep slots) rfl rfl rfl rfl
        (lostTold_aborted f.command p)
    have waiting := operationWaits_status (sweepAbort false (lostNow (failedOutcome f.command p)))
    change (lostTold _).faults.status = _ ∨ (lostTold _).faults.status = _ at waiting
    generalize lostTold (failedOutcome f.command p) = w at lost told aborted waiting ⊢
    exact bayLinkLost_settles lost told aborted waiting

end Sys2Proof.Machine
end

section
/-! BAYRESET (R141, R187, R190, R192 to R194): an order taken or refused, and the bay that a reset leaves. -/

namespace Sys2Proof.Machine

/-! ## An order on the line (R191, R192) -/

/-- The part in which the frame of an order has ended. -/
def orderEnds (p : Part) : Part := frameEnds 62 p

theorem orderEnds_osc (p : Part) : (orderEnds p).osc = max p.osc (Part.frameEnd p 62) := rfl

theorem orderEnds_unchanged (p : Part) : unchangedExcept [.osc, .line] p (orderEnds p) := unchanged_of_osc_line p _ _

/-- An order of another station to this one that finds room in the queue is judged. -/
theorem receive_order {o : Order} {p : Part} (r : OrderRule) (other : o.sender.toNat ≠ p.latch.station)
    (own : o.target.toNat = p.latch.station) (room : p.orders.jobs.length < 4) :
    receive o.sender 4 (takeOrder o r) p = judgeOrder o r (orderEnds p) := by
  rw [receive_other _ _ _ _ other]
  have judged : takeOrder o r (orderEnds p) = judgeOrder o r (orderEnds p) := by
    simp [takeOrder, orderEnds, own, room, jobLimit]
  exact judged

theorem judgeOrder_refused {o : Order} {r : OrderRule} {p : Part} {reason : RefusalReason} (refused : r.refused p = some reason) :
    judgeOrder o r p = queueJob (jobOf o r.kind r.show? (.refused reason)) p := by
  simp [judgeOrder, refused]

theorem judgeOrder_taken {o : Order} {r : OrderRule} {p : Part} (taken : r.refused p = none) :
    judgeOrder o r p = queueJob (jobOf o r.kind r.show? (r.taken p)) (r.effect p) := by
  simp [judgeOrder, taken]

theorem queueJob_unchanged (j : Job) (p : Part) : unchangedExcept [.orders] p (queueJob j p) := by
  intro b hb
  cases b <;> simp_all [agreeOn]

/-- A reset is refused in RELEASING, but where a HOLD ACK of the moment has led there (R190). -/
theorem resetRefusal_eq (p : Part) : Part.resetRefusal p
    = if p.bay.state = .releasing ∧ p.bay.holdAckAt ≠ some p.osc then some .wrongState else none := by
  simp [Part.resetRefusal]

/-! ## The bay that a reset leaves (R175, R187) -/

theorem resetBegun_unchanged (p : Part) : unchangedExcept [.link] p (resetBegun p) := by
  unfold resetBegun
  split <;> intro b hb <;> cases b <;> simp_all [agreeOn, linkStart]

/-- The part whose bay record and other blocks a reset has cleared, its bay still in the state that it was in. -/
def resetCleared (p : Part) : Part :=
  let q := revocationEnd (.refused .wrongState) 3 (clearBlocks (resetBegun p))
  clearRecord .none { q with bay := { q.bay with tooEarly := none, chirps := none } }

/-- A reset clears bay and blocks, and leaves EMPTY, or COUPLED with couple sense. -/
theorem bayReset_states (p : Part) : bayReset p
    = setBayState (if p.bay.couple then .coupled else .empty) (setBayState .empty (resetCleared p)) := by
  have couple : (resetEmptied p).bay.couple = p.bay.couple := by
    have same : (resetBegun p).bay = p.bay := (resetBegun_unchanged p .bay (by decide)).symm
    simp [resetEmptied, same]
  have emptied : setBayState .empty (resetEmptied p) = resetEmptied p := by
    have state : (resetEmptied p).bay.state = .empty := by simp [resetEmptied]
    rw [setBayState, if_pos state]
  rw [bayReset_eq, couple]
  split
  · rfl
  · exact emptied.symm

theorem resetCleared_bay (p : Part) : (resetCleared p).bay = {
    couple := p.bay.couple, state := p.bay.state, patternFrom := p.bay.patternFrom, clashFrom := p.bay.clashFrom
    identity := none, roster := none, reasons := {}, window := false, readWatch := .notBegun
    sweepWatch := .notBegun, windowWatch := .notBegun, lanePass := false, revocation := .none, decoupleFlag := .none
    retry := none, clearance := 0, tooEarly := none, chirps := none, openedAt := none, holdAckAt := none } := by
  have same : (resetBegun p).bay = p.bay := (resetBegun_unchanged p .bay (by decide)).symm
  simp [resetCleared, clearRecord, same]

/-- A change of bay state begins no chirps. -/
theorem setBayState_silent (new : BayState) {p : Part} (silent : p.bay.chirps = none) :
    (setBayState new p).bay.chirps = none := by
  by_cases same : p.bay.state = new
  · rw [setBayState, if_pos same, silent]
  · rw [setBayState_eq same]
    simp [Bay.chirpsLeft, silent]

/-- What a reset leaves of the bay record. -/
theorem bayReset_bay (p : Part) : (bayReset p).bay.couple = p.bay.couple
    ∧ (bayReset p).bay.state = (if p.bay.couple then .coupled else .empty) ∧ (bayReset p).bay.identity = none
    ∧ (bayReset p).bay.roster = none ∧ (bayReset p).bay.reasons = {} ∧ (bayReset p).bay.window = false
    ∧ (bayReset p).bay.readWatch = .notBegun ∧ (bayReset p).bay.sweepWatch = .notBegun
    ∧ (bayReset p).bay.windowWatch = .notBegun ∧ (bayReset p).bay.lanePass = false ∧ (bayReset p).bay.revocation = .none
    ∧ (bayReset p).bay.decoupleFlag = .none ∧ (bayReset p).bay.retry = none ∧ (bayReset p).bay.clearance = 0
    ∧ (bayReset p).bay.tooEarly = none ∧ (bayReset p).bay.chirps = none ∧ (bayReset p).bay.clashFrom = p.bay.clashFrom := by
  rw [bayReset_states]
  have silent := setBayState_silent (if p.bay.couple then .coupled else .empty)
    (setBayState_silent .empty (p := resetCleared p) (by rw [resetCleared_bay]))
  simp only [setBayState_bay, silent, resetCleared_bay, and_self]

/-- What it leaves of the other blocks (R67, R96, R142, R167). -/
theorem bayReset_blocks (p : Part) : (bayReset p).share = { p.share with ga := 0, zeroed := true }
    ∧ (bayReset p).heat.duty = 0 ∧ (bayReset p).heat.shadow = 0 ∧ (bayReset p).heat.pin = false
    ∧ (bayReset p).sweep = {} ∧ (bayReset p).lamps = clearedLamps ∧ (bayReset p).faults = {}
    ∧ (bayReset p).remarks.faultsTruncated = false ∧ (bayReset p).measure.cabin = {}
    ∧ (bayReset p).measure.owedCabin = p.measure.owedCabin ∧ (bayReset p).cache.entries = p.cache.entries := by
  have begun := resetBegun_unchanged p
  have share : (resetBegun p).share = p.share := (begun .share (by decide)).symm
  have measure : (resetBegun p).measure = p.measure := (begun .measure (by decide)).symm
  have cache : (resetBegun p).cache = p.cache := (begun .cache (by decide)).symm
  have remark := fun new q => setBayState_remark new q .faultsTruncated (by simp) (by simp)
  simp only [Remarks.get] at remark
  have owed : (clearBlocks (resetBegun p)).measure.owedCabin = p.measure.owedCabin := by
    have aborted : ∀ q : Part, (sweepAbort false q).measure.owedCabin = q.measure.owedCabin := by
      intro q
      unfold sweepAbort
      split <;> simp
    simp [clearBlocks, clearSweep, aborted, measure]
  rw [bayReset_states]
  simp [resetCleared, remark, setBayState_entries, clearBlocks_emptied, clearBlocks_measure, owed, share, cache]

/-! ## The link and the orders (R141, R193) -/

/-- Emptying an empty slot is no change. -/
theorem put_none_of_get_none {s : Slots} {who : Requester} (empty : Slots.get s who = none) : Slots.put s who none = s := by
  cases who <;> cases s <;> simp_all [Slots.get, Slots.put]

/-- With no lamp and no fault list request waiting, clearing the blocks leaves the link as it is. -/
theorem clearBlocks_keeps_link {p : Part} (lamps : p.link.slots.sweep = none) (faults : p.link.slots.faults = none) :
    (clearBlocks p).link = p.link := by
  have aborted : (sweepAbort false (immediateZero p)).link = p.link := by
    unfold sweepAbort
    split
    · simp [withdrawLamps, setSlot, put_none_of_get_none (who := .sweep) lamps]
    · simp
  have swept : (clearSweep (immediateZero p)).link = p.link := aborted
  have ended : (operationEnds (clearSweep (immediateZero p))).link = p.link := by
    simp [operationEnds, setSlot, swept, put_none_of_get_none (who := .faults) faults]
  simpa only [clearBlocks, clearFaults, resetCabin_keeps, setRemark_keeps] using ended

/-- With couple sense a reset restarts the link. -/
theorem bayReset_link {p : Part} (couple : p.bay.couple = true) : (bayReset p).link = (linkStart p).link := by
  have begun : resetBegun p = linkStart p := if_pos couple
  have cleared : (clearBlocks (linkStart p)).link = (linkStart p).link := clearBlocks_keeps_link rfl rfl
  rw [bayReset_states]
  simp [resetCleared, begun, cleared]

/-- The reset's link begins its beats with the one after that in progress. -/
theorem followingBeat_follows {beat now : Moment} (begun : beat ≤ now) :
    now < followingBeat beat now ∧ followingBeat beat now ≤ now + 2000 ∧ (followingBeat beat now - beat) % 2000 = 0 := by
  have next : ∀ b n : Nat, b ≤ n → n < b + 2000 * ((n - b) / 2000) + 2000
      ∧ b + 2000 * ((n - b) / 2000) + 2000 ≤ n + 2000
      ∧ (b + 2000 * ((n - b) / 2000) + 2000 - b) % 2000 = 0 := by omega
  have follows : followingBeat beat now = beat + 2000 * ((now - beat) / 2000) + 2000 := if_neg (Nat.not_lt.mpr begun)
  rw [follows]
  exact next _ _ begun

/-- The reset ends a revocation, with room kept for its own job. -/
theorem bayReset_orders (j : Job) (p : Part) : RevocationEnded (.refused .wrongState) [j] p (queueJob j (bayReset p))
    ∧ (bayReset p).orders.dropped = p.orders.dropped := by
  have orders : (resetBegun p).orders = p.orders := (resetBegun_unchanged p .orders (by decide)).symm
  have ended : (bayReset p).orders = (revocationEnd (.refused .wrongState) 3 (clearBlocks (resetBegun p))).orders := by
    rw [bayReset_states]
    simp [resetCleared]
  refine ⟨revocationEnded_congr (w := clearBlocks (resetBegun p)) (by simp [orders]) (revocationEnd_ended _ [j] _ _ ?_), ?_⟩
  · rw [queueJob, ended]
    rfl
  · rw [ended, revocationEnd_dropped]
    simp [orders]

theorem bayReset_unchanged (p : Part) : unchangedExcept ([.share, .lamps, .orders] ++ bayBlocks) p (bayReset p) := by
  have begun := resetBegun_unchanged p
  have free : (resetBegun p).free = p.free := (begun .free (by decide)).symm
  intro b hb
  cases b <;> simp_all [agreeOn, bayBlocks]

/-- What the reset leaves of the link, at the moment of the order's end (R141). -/
theorem bayReset_restarts {p : Part} (couple : p.bay.couple = true) :
    (bayReset p).link.state = .starting ∧ (bayReset p).link.inFlight = none ∧ (bayReset p).link.holdConfirmed = false
      ∧ (bayReset p).link.identConfirmed = false ∧ (bayReset p).link.heard = false
      ∧ (bayReset p).link.startTimer = some ((bayReset p).osc + 5000000)
      ∧ (p.link.state ≠ .down → p.link.beat ≤ (bayReset p).osc →
          (bayReset p).osc < (bayReset p).link.beat ∧ (bayReset p).link.beat ≤ (bayReset p).osc + 2000
          ∧ ((bayReset p).link.beat - p.link.beat) % 2000 = 0)
      ∧ (bayReset p).link.slots
        = { keeper := some { code := .ping, arg := 0 }, bay := none, sweep := none, faults := none } := by
  have osc : (bayReset p).osc = p.osc := by simp
  rw [bayReset_link couple, osc]
  refine ⟨rfl, rfl, rfl, rfl, rfl, rfl, fun on begun => ?_, rfl⟩
  have beat : (linkStart p).link.beat = followingBeat p.link.beat p.osc := if_neg on
  rw [beat]
  exact followingBeat_follows begun

/-- Settles O52. -/
theorem bayResetClearsTheBay : Obligations.BayResetClearsTheBay := by
  intro s o refused mode other own room refusal
  have since := orderEnds_unchanged s.part
  have bay : (orderEnds s.part).bay = s.part.bay := (since .bay (by decide)).symm
  have takes : Part.resetRefusal (orderEnds s.part) = none ↔ ¬refused := by
    rw [resetRefusal_eq, bay, orderEnds_osc, refusal]
    simp
  refine ⟨fun isRefused => ?_, fun taken => ?_⟩ <;> refine completes_normal mode (by simp) (by simp) ?_ <;>
    rw [effect, receive_order _ other own room]
  · have reason : bayresetRule.refused (orderEnds s.part) = some .wrongState := by
      have judged := refusal.mp isRefused
      exact (resetRefusal_eq _).trans (if_pos (by rwa [bay, orderEnds_osc]))
    rw [judgeOrder_refused reason]
    exact ⟨rfl, since.trans (queueJob_unchanged _ _) (by decide) (by decide)⟩
  · rw [judgeOrder_taken (r := bayresetRule) (takes.mpr taken)]
    have orders : (orderEnds s.part).orders = s.part.orders := (since .orders (by decide)).symm
    have link : (orderEnds s.part).link = s.part.link := (since .link (by decide)).symm
    have counts : Line.counts (bayReset (orderEnds s.part)).line = Line.counts s.part.line := by simp [orderEnds]
    have clashes : (bayReset (orderEnds s.part)).remarks.numberClash = s.part.remarks.numberClash :=
      (numberClash_of_yard (bayReset_keeps_yard _)).trans rfl
    obtain ⟨-, faultsKept, mutedKept, corruptKept⟩ := (counts_eq_iff _ _).mp counts
    obtain ⟨couple, state, identity, roster, reasons, window, read, sweep, departure, pass, revocation, flag, retry, clearance,
      tooEarly, chirps, clash⟩ := bayReset_bay (orderEnds s.part)
    obtain ⟨share, duty, shadow, pin, sweeps, lamps, faults, truncated, cabin, owed, entries⟩ :=
      bayReset_blocks (orderEnds s.part)
    obtain ⟨ended, dropped⟩ := bayReset_orders (jobOf o 7 none .taken) (orderEnds s.part)
    have unchanged := (since.trans (bayReset_unchanged (orderEnds s.part))
      (blocks := [.osc, .share, .lamps, .orders] ++ bayBlocks) (by decide) (by decide)).trans
        (queueJob_unchanged (jobOf o 7 none .taken) _) (blocks := [.osc, .share, .lamps, .orders] ++ bayBlocks)
        (by decide) (by decide)
    refine ⟨couple, state, identity, roster, reasons, window, read, sweep, departure, pass, revocation, flag, retry, clearance,
      tooEarly, chirps, clash, share, duty, shadow, pin, fun coupled => ?_, fun uncoupled => ?_,
      congrArg Sweep.status sweeps, congrArg Sweep.last sweeps, lamps, congrArg Faults.coach faults,
      congrArg Faults.bay faults, congrArg Faults.status faults, truncated, clashes, cabin, owed, entries, mutedKept,
      faultsKept, corruptKept, dropped, revocationEnded_congr orders ended, unchanged⟩
    · obtain ⟨state, flight, hold, ident, heard, timer, beat, slots⟩ :=
        bayReset_restarts (p := orderEnds s.part) (by rwa [bay])
      rw [link] at beat
      exact ⟨state, flight, hold, ident, heard, timer, beat, slots⟩
    · have begun : resetBegun (orderEnds s.part) = orderEnds s.part := by rw [resetBegun, bay, uncoupled]; rfl
      have kept := (bayReset_linkKept (orderEnds s.part)).state
      rw [begun, link] at kept
      exact kept

end Sys2Proof.Machine
end

section
/-! The identity record and the lamp table that is set up from it (R137, R142). -/

namespace Sys2Proof.Machine

/-! ## The record (R137) -/

/-- The ones of a number are its set bits. -/
theorem onesBelow_eq_length (n v : Nat) : onesBelow n v = ((List.range n).filter fun k => v.testBit k).length := by
  induction n with
  | zero => rfl
  | succ n ih =>
    rw [List.range_succ, List.filter_append, List.length_append, ← ih, onesBelow, Nat.add_comm]
    cases bit : v.testBit n <;> simp [bit]

/-- The positions that a mask names. -/
theorem onesBelow_mask (mask : Word16) :
    onesBelow 16 mask.toNat = ((List.range 16).filter fun k => mask.getLsbD k).length :=
  onesBelow_eq_length 16 mask.toNat

/-- When a record is rejected, and its fields where it is not. -/
theorem identityOf_record (w0 w1 w2 fitted led : Word16) (ns : List Word16) (n : Nat)
    (count : n = ((List.range 16).filter fun k => fitted.getLsbD k).length) :
    identityOf (w0 :: w1 :: w2 :: fitted :: led :: ns)
      = if ns.length ≠ n ∨ w0 = 0 ∨ 63 < w1.toNat / 256 ∨ w2.toNat / 256 = 0
          ∨ (∃ v ∈ ns, v.toNat = 0 ∨ 1000 < v.toNat) then none
        else some { coach := w0.toNat, ih := w1.toNat / 256, memory := w1.toNat % 256, h := w2.toNat / 256
                    c := w2.toNat % 256, fitted := fitted, led := led, nominals := ns.map BitVec.toNat } := by
  subst count
  have coach : w0.toNat = 0 ↔ w0 = 0 := by rw [← BitVec.toNat_inj]; simp
  have currents : (∀ v ∈ ns, 1 ≤ v.toNat ∧ v.toNat ≤ 1000) ↔ ¬∃ v ∈ ns, v.toNat = 0 ∨ 1000 < v.toNat := by
    push Not
    exact forall₂_congr fun v _ => by omega
  have good : ((ns.map BitVec.toNat).length = onesBelow 16 fitted.toNat && w0.toNat != 0 && decide (w1.toNat / 256 ≤ 63)
        && w2.toNat / 256 != 0 && (ns.map BitVec.toNat).all fun v => 1 ≤ v && v ≤ 1000) = true
      ↔ ¬(ns.length ≠ ((List.range 16).filter fun k => fitted.getLsbD k).length ∨ w0 = 0 ∨ 63 < w1.toNat / 256
          ∨ w2.toNat / 256 = 0 ∨ ∃ v ∈ ns, v.toNat = 0 ∨ 1000 < v.toNat) := by
    rw [← coach, onesBelow_mask]
    simp only [Bool.and_eq_true, decide_eq_true_eq, bne_iff_ne, List.all_eq_true, List.mem_map, forall_exists_index, and_imp,
      forall_apply_eq_imp_iff₂, List.length_map, not_or, ne_eq, not_not, not_lt, and_assoc]
    rw [currents]
  unfold identityOf
  dsimp only
  by_cases bad : ns.length ≠ ((List.range 16).filter fun k => fitted.getLsbD k).length ∨ w0 = 0 ∨ 63 < w1.toNat / 256
      ∨ w2.toNat / 256 = 0 ∨ ∃ v ∈ ns, v.toNat = 0 ∨ 1000 < v.toNat
  · rw [if_pos bad, if_neg fun h => good.mp h bad]
  · rw [if_neg bad, if_pos (good.mpr bad)]

/-- Fewer than five words are no record. -/
theorem identityOf_short {words : List Word16} (short : words.length < 5) : identityOf words = none := by
  match words with
  | [] | [_] | [_, _] | [_, _, _] | [_, _, _, _] => rfl
  | _ :: _ :: _ :: _ :: _ :: _ => exact absurd short (by simp)

/-! ## The lamp table (R142) -/

/-- The lamp of a position: fitted where the mask names it, with its nominal current, and not yet checked. -/
def lampOf (fitted led : Word16) (nominals : List Nat) (k : Nat) : Lamp where
  position := k
  fit := if fitted.getLsbD k then some (if led.getLsbD k then .led else .filament,
    nominals.getD ((List.range k).filter fun i => fitted.getLsbD i).length 0) else none
  verdict := if fitted.getLsbD k then .unknown else .notFitted
  reading := none
  minute := none

/-- From a position on, the lamps take the nominals that those below have left. -/
theorem lampRecords_eq (fitted led : Word16) (nominals : List Nat) (n k : Nat) :
    lampRecords fitted led n k (nominals.drop ((List.range k).filter fun i => fitted.getLsbD i).length)
      = (List.range' k n).map (lampOf fitted led nominals) := by
  induction n generalizing k with
  | zero => rfl
  | succ n ih =>
    have below : ((List.range (k + 1)).filter fun i => fitted.getLsbD i).length
        = ((List.range k).filter fun i => fitted.getLsbD i).length + (if fitted.getLsbD k then 1 else 0) := by
      rw [List.range_succ, List.filter_append, List.length_append]
      cases fits : fitted.getLsbD k <;> simp [fits]
    rw [List.range'_succ, List.map_cons, ← ih (k + 1), below]
    cases fits : fitted.getLsbD k <;> simp [lampRecords, lampOf, fits]

end Sys2Proof.Machine
end

section
/-! A first identity and a coach change (R138, R140, R174, R177): the bay in STANDBY, what is requested and looked up. -/

namespace Sys2Proof.Machine

/-! ## The request for an entry (R174) -/

/-- Nothing but BAYSTATE requests have been raised. -/
def RaisesBaystate (p q : Part) : Prop := ∃ due, q.line = Line.raised .baystate due p.line

theorem RaisesBaystate.trans {p w q : Part} (first : RaisesBaystate p w) (second : RaisesBaystate w q) : RaisesBaystate p q := by
  obtain ⟨a, first⟩ := first
  obtain ⟨b, second⟩ := second
  exact ⟨b || a, by rw [second, first, raised_raised]⟩

theorem RaisesBaystate.of_kept {p q : Part} (kept : q.line = p.line) : RaisesBaystate p q := ⟨false, kept⟩

theorem setBayState_raises (new : BayState) (p : Part) : RaisesBaystate p (setBayState new p) := by
  by_cases same : p.bay.state = new
  · exact .of_kept (by rw [setBayState, if_pos same])
  · exact ⟨true, setBayState_line new p same⟩

theorem setRemark_raises (k : Remark) (v : Bool) (p : Part) : RaisesBaystate p (setRemark k v p) := ⟨_, by rw [setRemark_eq]⟩

theorem clearBlocks_raises (p : Part) : RaisesBaystate p (clearBlocks p) := by
  have raised := setRemark_raises .faultsTruncated false
  obtain ⟨due, same⟩ := raised { operationEnds (clearSweep (immediateZero p)) with faults := {} }
  exact ⟨due, by simpa [clearBlocks, clearFaults] using same⟩

theorem standBy_raisesBaystate (p : Part) : RaisesBaystate p (standBy p) :=
  RaisesBaystate.trans (w := { p with bay := { p.bay with window := false } }) (.of_kept rfl)
    ((setBayState_raises .standby _).trans (judge_raises _))

theorem tearDown_raises (p : Part) : RaisesBaystate p (tearDown p) := by
  have forgotten : RaisesBaystate p (forgetDeparted p) := .of_kept (by simp)
  have recorded : ∀ flag q, RaisesBaystate q
      (clearRecord flag (revocationEnd (.refused .wrongState) jobLimit (cabinNotOwed q))) := fun flag q => .of_kept (by simp)
  have told : ∀ flag q, RaisesBaystate q (unplannedChirps flag q) := fun flag q => .of_kept (by simp)
  exact forgotten.trans ((clearBlocks_raises _).trans ((recorded _ _).trans ((setBayState_raises .empty _).trans (told _ _))))

/-- Raising ASK then gives the ASK request that it would have given before. -/
theorem raised_ask_of_baystate {p q : Part} (raises : RaisesBaystate p q) :
    (Line.raised .ask true q.line).flags.ask = (Line.raised .ask true p.line).flags.ask
      ∧ (Line.raised .ask true q.line).marks.ask = (Line.raised .ask true p.line).marks.ask := by
  obtain ⟨due, same⟩ := raises
  rw [same]
  cases due
  · exact ⟨rfl, rfl⟩
  · simp only [Line.raised, if_true]
    by_cases baystate : p.line.tx.map (·.kind) = some .baystate <;> by_cases ask : p.line.tx.map (·.kind) = some .ask <;>
      simp [baystate, ask, SendFlags.put]

/-! ## The evaluation with the window closed (R179) -/

theorem held_of_open {b : BayState} (opens : openState b = true) : heldCoach b = true := by
  cases b <;> simp_all [openState, heldCoach]

/-- With its window closed an open bay is placed in HELD, PREPARE or READY. -/
theorem evaluate_closed {p : Part} (opens : openState p.bay.state = true) (closed : p.bay.window = false) :
    openState (evaluate p).bay.state = true ∧ evaluate p = setBayState (evaluate p).bay.state (judge p) := by
  have stays := evaluate_stays_open p opens closed
  exact ⟨stays, evaluate_stays opens (by rintro releasing; simp [releasing, openState] at stays)⟩

/-- A change of bay state asks for nothing. -/
theorem setBayState_unasked (new : BayState) {p : Part} (unasked : p.cache.want = none ∧ p.cache.askCount = 0) :
    (setBayState new p).cache.want = none ∧ (setBayState new p).cache.askCount = 0 := by
  by_cases same : p.bay.state = new
  · rwa [setBayState, if_pos same]
  · rw [setBayState_eq same]
    simp only [recompute_keeps]
    split
    · exact ⟨rfl, rfl⟩
    · exact unasked

/-- The bay that a copy finds in STANDBY enters PREPARE with its watches ARMED, the evaluation still to come (R177). -/
def preparedBy (c : RosterCopy) (p : Part) : Part :=
  setBayState .prepare (setWatches .armed (stopAsking { p with bay := { p.bay with roster := some c } }))

theorem copyArrives_prepares (c : RosterCopy) {p : Part} (standby : p.bay.state = .standby)
    (dated : p.clock.status ≠ .invalid) : copyArrives c p = recompute (.roster none) (evaluate (preparedBy c p)) := by
  rw [copyArrives, tryPrepare_prepares (by simpa using standby) (by simp) (by simpa using dated), preparedBy]

/-- A copy that arrives in STANDBY takes a bay with a dated clock to PREPARE, READY or HELD, its watches ARMED; it aborts no check. -/
theorem copyArrives_closed (c : RosterCopy) {p : Part} (standby : p.bay.state = .standby) (closed : p.bay.window = false) :
    (heldCoach (copyArrives c p).bay.state = true ∧ unchangedExcept recordBlocks p (copyArrives c p)
        ∧ (copyArrives c p).bay.couple = p.bay.couple ∧ (copyArrives c p).bay.decoupleFlag = p.bay.decoupleFlag)
      ∧ ((copyArrives c p).cache.want = none ∧ (copyArrives c p).cache.askCount = 0)
      ∧ (p.clock.status ≠ .invalid → openState (copyArrives c p).bay.state = true
          ∧ (copyArrives c p).bay.readWatch = .armed ∧ (copyArrives c p).bay.sweepWatch = .armed
          ∧ (copyArrives c p).bay.windowWatch = .armed) := by
  by_cases invalid : p.clock.status = .invalid
  · rw [copyArrives, tryPrepare_waits (.inr (by simpa using invalid))]
    refine ⟨⟨by simp [standby, stopAsking, heldCoach], fun b hb => ?_, by simp [stopAsking], by simp [stopAsking]⟩,
      by simp [stopAsking], fun dated => absurd invalid dated⟩
    cases b <;> simp_all [agreeOn, recordBlocks]
  · have opens : openState (preparedBy c p).bay.state = true := by simp [preparedBy, openState]
    obtain ⟨placed, row⟩ := evaluate_closed opens (by simp [preparedBy, closed])
    have unasked : (preparedBy c p).cache.want = none ∧ (preparedBy c p).cache.askCount = 0 :=
      setBayState_unasked .prepare ⟨rfl, rfl⟩
    have begun : unchangedExcept recordBlocks p (preparedBy c p) := fun b hb => by
      cases b <;> simp_all [agreeOn, recordBlocks, preparedBy]
    have evaluated : unchangedExcept recordBlocks (preparedBy c p) (evaluate (preparedBy c p)) := fun b hb => by
      rw [row]
      clear row
      cases b <;> simp_all [agreeOn, recordBlocks]
    have recomputed := recompute_unchanged (.roster none) (evaluate (preparedBy c p))
    rw [copyArrives_prepares c standby invalid]
    simp only [recompute_keeps]
    refine ⟨⟨?_, ?_, ?_, ?_⟩, ?_, fun _ => ⟨placed, ?_⟩⟩
    · exact held_of_open placed
    · exact begun.trans (evaluated.trans recomputed (blocks := recordBlocks) (by simp) (by decide)) (by simp) (by simp)
    · simp [preparedBy]
    · rw [evaluate_bay_eq opens]
      simp [preparedBy]
    · simpa using unasked
    · simp [preparedBy]

/-- A lookup with the window closed leaves a coach held and aborts no check. -/
theorem rosterLookup_closed {p : Part} (standby : p.bay.state = .standby) (closed : p.bay.window = false) :
    heldCoach (rosterLookup p).bay.state = true ∧ unchangedExcept recordBlocks p (rosterLookup p)
      ∧ (rosterLookup p).bay.couple = p.bay.couple ∧ (rosterLookup p).bay.decoupleFlag = p.bay.decoupleFlag := by
  obtain same | ⟨d, same⟩ | ⟨-, -, c, same⟩ := rosterLookup_cases p <;> rw [same]
  · exact ⟨by simp [standby, heldCoach], fun b _ => by cases b <;> rfl, rfl, rfl⟩
  · refine ⟨by simp [standby, heldCoach], fun b hb => ?_, by simp, by simp⟩
    cases b <;> simp_all [agreeOn, recordBlocks]
  · exact (copyArrives_closed c standby closed).1

/-! ## A first identity (R138, R142, R177) -/

/-- A request for a read or clear starts an operation, or has no part in the link, the entries and the fault memory size. -/
theorem faultRequest_cases (kind : OpKind) (p : Part) : faultRequest kind p = startOperation kind p
    ∨ (faultRequest kind p).link = p.link ∧ (faultRequest kind p).faults.memory = p.faults.memory
      ∧ (faultRequest kind p).faults.coach = p.faults.coach ∧ (faultRequest kind p).faults.bay = p.faults.bay := by
  unfold faultRequest
  (repeat' split) <;> simp [waitOperation]

/-- It leaves the other requesters' slots, the entries and the fault memory size. -/
theorem faultRequest_leaves (kind : OpKind) (p : Part) :
    (faultRequest kind p).link.slots = { p.link.slots with faults := (faultRequest kind p).link.slots.faults }
      ∧ (faultRequest kind p).faults.memory = p.faults.memory ∧ (faultRequest kind p).faults.coach = p.faults.coach
      ∧ (faultRequest kind p).faults.bay = p.faults.bay := by
  obtain started | ⟨link, faults⟩ := faultRequest_cases kind p
  · rw [started]
    cases kind <;> exact ⟨rfl, rfl, rfl, rfl⟩
  · exact ⟨by rw [link], faults⟩

/-- With the link UP an idle fault list starts the operation (R161). -/
theorem faultRequest_starts {kind : OpKind} {p : Part} (idle : p.faults.status = .idle)
    (open_ : closedToChecks p.bay.state = false) (up : p.link.state = .up) : faultRequest kind p = startOperation kind p := by
  simp [faultRequest, idle, open_, up]

/-- The part in which an identity is held, its coach still to be looked up. -/
def identityHeld (d : Identity) (p : Part) : Part :=
  place .bay .hold (toStandby { p with
    bay := { p.bay with identity := some d }
    lamps := lampRecords d.fitted d.led 16 0 d.nominals
    faults := { p.faults with memory := some d.memory } })

theorem firstIdentity_eq (d : Identity) (p : Part) :
    firstIdentity d p = rosterLookup (faultRequest .read (identityHeld d p)) := rfl

section
variable (d : Identity) (p : Part)

@[simp] theorem identityHeld_bay : (identityHeld d p).bay.state = .standby ∧ (identityHeld d p).bay.window = false
    ∧ (identityHeld d p).bay.identity = some d ∧ (identityHeld d p).bay.roster = p.bay.roster
    ∧ (identityHeld d p).bay.couple = p.bay.couple ∧ (identityHeld d p).bay.decoupleFlag = p.bay.decoupleFlag := by
  simp [identityHeld, toStandby, standBy]

@[simp] theorem identityHeld_keeps : (identityHeld d p).clock = p.clock ∧ (identityHeld d p).heat = p.heat
    ∧ (identityHeld d p).sweep = p.sweep ∧ (identityHeld d p).cache.entries = p.cache.entries
    ∧ (identityHeld d p).lamps = lampRecords d.fitted d.led 16 0 d.nominals
    ∧ (identityHeld d p).faults = { p.faults with memory := some d.memory }
    ∧ (identityHeld d p).link = { p.link with slots := { p.link.slots with bay := some { code := .hold, arg := 0 } } } := by
  simp [identityHeld, place, setSlot, Slots.put]

theorem identityHeld_raises : RaisesBaystate p (identityHeld d p) := by
  have placed : ∀ q, RaisesBaystate q (place .bay .hold q) := fun q => .of_kept (by simp)
  obtain ⟨due, same⟩ := (standBy_raisesBaystate (setWatches .notBegun { p with
    bay := { p.bay with identity := some d }
    lamps := lampRecords d.fitted d.led 16 0 d.nominals
    faults := { p.faults with memory := some d.memory } })).trans (placed _)
  exact ⟨due, same⟩

/-- What a first identity leaves of the bay and of what the coach's checks use. -/
theorem firstIdentity_holds : (firstIdentity d p).bay.identity = some d ∧ heldCoach (firstIdentity d p).bay.state = true
    ∧ (firstIdentity d p).bay.couple = p.bay.couple ∧ (firstIdentity d p).bay.decoupleFlag = p.bay.decoupleFlag
    ∧ (firstIdentity d p).heat = p.heat ∧ (firstIdentity d p).sweep = p.sweep
    ∧ (firstIdentity d p).lamps = lampRecords d.fitted d.led 16 0 d.nominals
    ∧ (firstIdentity d p).faults = (faultRequest .read (identityHeld d p)).faults
    ∧ (firstIdentity d p).link = (faultRequest .read (identityHeld d p)).link := by
  obtain ⟨lasting, -⟩ := rosterLookup_lasting (faultRequest .read (identityHeld d p))
  obtain ⟨held, kept, couple, flag⟩ := rosterLookup_closed (p := faultRequest .read (identityHeld d p)) (by simp) (by simp)
  have identity : (firstIdentity d p).bay.identity = (faultRequest .read (identityHeld d p)).bay.identity :=
    congrArg Prod.fst lasting
  have heat : _ = (firstIdentity d p).heat := kept .heat (by decide)
  have sweep : _ = (firstIdentity d p).sweep := kept .sweep (by decide)
  have lamps : _ = (firstIdentity d p).lamps := kept .lamps (by decide)
  refine ⟨identity.trans (by simp), held, couple.trans (by simp), flag.trans (by simp), ?_, ?_, ?_,
    (kept .faults (by decide)).symm, (kept .link (by decide)).symm⟩
  · simp [← heat]
  · simp [← sweep]
  · simp [← lamps]

theorem firstIdentity_requests : (firstIdentity d p).faults.memory = some d.memory
    ∧ (firstIdentity d p).faults.coach = p.faults.coach ∧ (firstIdentity d p).faults.bay = p.faults.bay
    ∧ (firstIdentity d p).link.slots = { p.link.slots with
      bay := some { code := .hold, arg := 0 }, faults := (firstIdentity d p).link.slots.faults } := by
  obtain ⟨-, -, -, -, -, -, -, faults, link⟩ := firstIdentity_holds d p
  obtain ⟨slots, memory, coach, bay⟩ := faultRequest_leaves .read (identityHeld d p)
  rw [faults, link]
  exact ⟨memory.trans (by simp), coach.trans (by simp), bay.trans (by simp), slots.trans (by simp)⟩

end

section
variable {d : Identity} {p : Part}

/-- With the link UP and the fault list idle the full read begins. -/
theorem firstIdentity_reads (idle : p.faults.status = .idle) (up : p.link.state = .up) :
    (firstIdentity d p).faults = { p.faults with
        status := .counting, kind := some .read, toRead := none, nextIndex := none, staging := [], rejected := 0
        memory := some d.memory }
      ∧ (firstIdentity d p).link.slots = { p.link.slots with
        bay := some { code := .hold, arg := 0 }, faults := some { code := .fcount, arg := 0 } } := by
  obtain ⟨-, -, -, -, -, -, -, faults, link⟩ := firstIdentity_holds d p
  rw [faults, link, faultRequest_starts (by simpa using idle) (by simp [closedToChecks]) (by simpa using up)]
  simp [startOperation, place, setSlot, Slots.put]

/-- A coach without an entry is asked for (R174). -/
theorem firstIdentity_asks (noCopy : p.bay.roster = none) (missing : ∀ x ∈ p.cache.entries, x.coach ≠ d.coach) :
    (firstIdentity d p).bay.state = .standby ∧ (firstIdentity d p).bay.roster = none
      ∧ (firstIdentity d p).cache.want = some d.coach ∧ (firstIdentity d p).cache.askCount = 0
      ∧ (firstIdentity d p).line.flags.ask = (Line.raised .ask true p.line).flags.ask
      ∧ (firstIdentity d p).line.marks.ask = (Line.raised .ask true p.line).marks.ask := by
  obtain ⟨flag, mark⟩ := raised_ask_of_baystate ((identityHeld_raises d p).trans (q := faultRequest .read (identityHeld d p))
    (.of_kept (by simp)))
  rw [firstIdentity_eq, rosterLookup_asks (d := d) (by simp) (by simp) (by simpa using noCopy) (by simpa using missing)]
  refine ⟨by simp, by simpa using noCopy, by simp, by simp, ?_, ?_⟩
  · rw [raise_eq_raised]
    exact flag
  · rw [raise_eq_raised]
    exact mark

/-- The copy of an entry that is held arrives (R174, R177). -/
theorem firstIdentity_finds (noCopy : p.bay.roster = none) (held : ∃ x ∈ p.cache.entries, x.coach = d.coach) :
    (firstIdentity d p).bay.roster.isSome ∧ (firstIdentity d p).cache.want = none ∧ (firstIdentity d p).cache.askCount = 0
      ∧ (p.clock.status ≠ .invalid → openState (firstIdentity d p).bay.state = true
        ∧ (firstIdentity d p).bay.readWatch = .armed ∧ (firstIdentity d p).bay.sweepWatch = .armed
        ∧ (firstIdentity d p).bay.windowWatch = .armed) := by
  obtain ⟨e, found⟩ : ∃ e, p.cache.entries.find? (fun x => x.coach == d.coach) = some e := by
    rw [← Option.isSome_iff_exists, List.find?_isSome]
    simpa using held
  rw [firstIdentity_eq, rosterLookup_finds (d := d) (e := e) (by simp) (by simp) (by simpa using noCopy) (by simpa using found)]
  obtain ⟨-, ⟨want, count⟩, prepared⟩ :=
    copyArrives_closed (RosterEntry.copy e) (p := faultRequest .read (identityHeld d p)) (by simp) (by simp)
  exact ⟨by simp, want, count, by simpa using prepared⟩

end

end Sys2Proof.Machine
end

section
/-! The coach link's LAST that completes an identity record (R137 to R140, R177): a first identity, the same coach, or another. -/

namespace Sys2Proof.Machine

/-! ## Another coach (R140, R177) -/

/-- The part from which the coach held before has gone, the new one still to be taken up. -/
def bayVacated (p : Part) : Part :=
  setBayState .coupled (tearDown (withdrawLamps (setSlot .faults none (setSlot .bay none p))))

theorem coachChange_eq (d : Identity) (p : Part) : coachChange d p = firstIdentity d (bayVacated p) := rfl

/-- Tearing down with no lamp and no fault list request waiting leaves the link as it is. -/
theorem tearDown_keeps_link {p : Part} (lamps : p.link.slots.sweep = none) (faults : p.link.slots.faults = none) :
    (tearDown p).link = p.link := by
  have cleared : (clearBlocks (forgetDeparted p)).link = p.link :=
    (clearBlocks_keeps_link (by simpa using lamps) (by simpa using faults)).trans (by simp)
  simp [tearDown, cleared]

section
variable (p : Part)

theorem bayVacated_bay : (bayVacated p).bay.identity = none ∧ (bayVacated p).bay.roster = none
    ∧ (bayVacated p).bay.couple = p.bay.couple ∧ (bayVacated p).bay.decoupleFlag = decoupleFlagOf p.bay.state := by
  simp [bayVacated]

theorem bayVacated_blocks : (bayVacated p).share = { p.share with ga := 0, zeroed := true } ∧ (bayVacated p).heat.duty = 0
    ∧ (bayVacated p).sweep = {} ∧ (bayVacated p).faults = {} ∧ (bayVacated p).clock = p.clock := by
  simp [bayVacated, tearDown_blocks]

/-- Of the requests the keeper's alone is left. -/
theorem bayVacated_link : (bayVacated p).link = { p.link with slots := { keeper := p.link.slots.keeper } } := by
  have emptied := tearDown_keeps_link (p := withdrawLamps (setSlot .faults none (setSlot .bay none p))) rfl rfl
  simp only [bayVacated, setBayState_keeps, emptied]
  rfl

/-- The cache loses no entry but that of the coach that has gone. -/
theorem bayVacated_entries {held : Identity} (identity : p.bay.identity = some held) {e : RosterEntry}
    (other : e.coach ≠ held.coach) : e ∈ (bayVacated p).cache.entries ↔ e ∈ p.cache.entries := by
  rw [bayVacated, setBayState_entries]
  by_cases cleared : p.bay.state = .cleared
  · rw [tearDown_entries_departed (d := held) (by simpa using cleared) (by simpa using identity)]
    simp [other]
  · rw [tearDown_entries_kept (by simp [cleared])]
    simp

theorem bayVacated_raises : RaisesBaystate p (bayVacated p) := by
  have withdrawn : RaisesBaystate p (withdrawLamps (setSlot .faults none (setSlot .bay none p))) := .of_kept (by simp)
  exact withdrawn.trans ((tearDown_raises _).trans (setBayState_raises .coupled _))

theorem bayVacated_orders : RevocationEnded (.refused .wrongState) [] p (bayVacated p) := by
  obtain ⟨ended, -⟩ := tearDown_orders (withdrawLamps (setSlot .faults none (setSlot .bay none p)))
  have orders : (bayVacated p).orders = (tearDown (withdrawLamps (setSlot .faults none (setSlot .bay none p)))).orders := by
    simp [bayVacated]
  have same := revocationEnded_congr (p := p) (by simp) ended
  unfold RevocationEnded at same ⊢
  rwa [orders]

end

/-- What the vacated bay and its blocks leave to the coach that is taken up. -/
theorem firstIdentity_vacated (d : Identity) (p : Part) :
    let q := firstIdentity d (bayVacated p)
    q.share = { p.share with ga := 0, zeroed := true } ∧ q.heat.duty = 0 ∧ q.link.slots.keeper = p.link.slots.keeper
      ∧ q.link.slots.sweep = none ∧ q.sweep = {} ∧ q.faults.coach = [] ∧ q.faults.bay = []
      ∧ (p.link.state = .up → q.faults.status = .counting ∧ q.faults.kind = some .read
          ∧ q.link.slots.faults = some { code := .fcount, arg := 0 })
      ∧ q.bay.decoupleFlag = decoupleFlagOf p.bay.state ∧ q.bay.couple = p.bay.couple
      ∧ RevocationEnded (.refused .wrongState) [] p q := by
  intro q
  obtain ⟨-, -, couple, flag, heat, sweep, -⟩ := firstIdentity_holds d (bayVacated p)
  obtain ⟨-, coach, own, slots⟩ := firstIdentity_requests d (bayVacated p)
  obtain ⟨share, duty, noSweep, noFaults, -⟩ := bayVacated_blocks p
  obtain ⟨-, -, couple', flag'⟩ := bayVacated_bay p
  have link := bayVacated_link p
  have orders : q.orders = (bayVacated p).orders := by simp [q]
  have ended := bayVacated_orders p
  refine ⟨?_, by rw [heat, duty], by rw [slots, link], by rw [slots, link], sweep.trans noSweep, by rw [coach, noFaults],
    by rw [own, noFaults], fun up => ?_, flag.trans flag', couple.trans couple', ?_⟩
  · simpa [q] using share
  · obtain ⟨faults, placed⟩ := firstIdentity_reads (d := d) (p := bayVacated p) (by rw [noFaults]) (by rw [link, up])
    rw [faults, placed]
    exact ⟨rfl, rfl, rfl⟩
  · unfold RevocationEnded at ended ⊢
    rwa [orders]

/-! ## The answer to IDENT -/

/-- The part in which identity is confirmed. -/
def identConfirmed (p : Part) : Part := { p with link := { p.link with identConfirmed := true } }

/-- A LAST that completes a good record has its identity taken up. -/
theorem coachWord_identity {p : Part} {f : InFlight} {w : Word16} {d : Identity} (link : p.link.state ≠ .down)
    (flight : p.link.inFlight = some f) (listens : f.phase ≠ .recovering) (ident : f.command.code = .ident)
    (record : identityOf (p.link.gathered ++ [w]) = some d) (short : p.link.gathered.length ≤ 20) :
    coachWord (.last w) p = acceptIdentity d (acked p) := by
  have long : 5 ≤ (p.link.gathered ++ [w]).length := by
    by_contra few
    rw [identityOf_short (by omega)] at record
    cases record
  have fits : takesLast .ident (p.link.gathered ++ [w]) = true := by
    simp only [List.length_append, List.length_singleton] at long
    simp only [takesLast, List.length_append, List.length_singleton, Bool.and_eq_true, decide_eq_true_eq]
    omega
  rw [coachWord_heard _ link flight listens]
  simp only [takeWord, takeLast, beatOpens_keeps_link, ident, fits, if_true, record]
  rfl

theorem acceptIdentity_first {d : Identity} {p : Part} (none_ : p.bay.identity = none) :
    acceptIdentity d p = firstIdentity d (identConfirmed p) := by
  simp [acceptIdentity, none_, identConfirmed]

theorem acceptIdentity_same {d held : Identity} {p : Part} (identity : p.bay.identity = some held)
    (same : held.coach = d.coach) :
    acceptIdentity d p = operationResumes (evaluate (place .bay .hold (identConfirmed p))) := by
  simp [acceptIdentity, identity, same, identConfirmed]

theorem acceptIdentity_another {d held : Identity} {p : Part} (identity : p.bay.identity = some held)
    (other : held.coach ≠ d.coach) : acceptIdentity d p = firstIdentity d (bayVacated (identConfirmed p)) := by
  simp [acceptIdentity, identity, other, identConfirmed, coachChange_eq]

/-! ## The link -/

theorem startOperation_besidesSlots (k : OpKind) (p : Part) :
    Link.besidesSlots (startOperation k p).link = Link.besidesSlots p.link := by
  cases k <;> rfl

theorem firstIdentity_besidesSlots (d : Identity) (p : Part) :
    Link.besidesSlots (firstIdentity d p).link = Link.besidesSlots p.link := by
  obtain ⟨-, -, -, -, -, -, -, -, link⟩ := firstIdentity_holds d p
  have requested : ∀ q, Link.besidesSlots (faultRequest .read q).link = Link.besidesSlots q.link := by
    intro q
    obtain started | ⟨link, -⟩ := faultRequest_cases .read q
    · rw [started, startOperation_besidesSlots]
    · rw [link]
  obtain ⟨-, -, -, -, -, -, held⟩ := identityHeld_keeps d p
  rw [link, requested, held]
  rfl

theorem operationResumes_besidesSlots (p : Part) :
    Link.besidesSlots (operationResumes p).link = Link.besidesSlots p.link := by
  unfold operationResumes
  split
  · exact startOperation_besidesSlots _ _
  · rfl

/-- Taking up an identity confirms it, and writes nothing else of the link but its requests. -/
theorem acceptIdentity_besidesSlots (d : Identity) (p : Part) :
    Link.besidesSlots (acceptIdentity d p).link = { Link.besidesSlots p.link with identConfirmed := true } := by
  cases identity : p.bay.identity with
  | none =>
    rw [acceptIdentity_first identity, firstIdentity_besidesSlots]
    rfl
  | some held =>
    by_cases same : held.coach = d.coach
    · rw [acceptIdentity_same identity same, operationResumes_besidesSlots, evaluate_besidesSlots, place_besidesSlots]
      rfl
    · rw [acceptIdentity_another identity same, firstIdentity_besidesSlots, bayVacated_link]
      rfl

theorem acceptIdentity_unchanged (d : Identity) (p : Part) :
    unchangedExcept ([.share, .lamps, .orders] ++ bayBlocks) p (acceptIdentity d p) := by
  intro b hb
  cases b <;> simp_all [agreeOn, bayBlocks]

/-! ## The same coach (R139, R166) -/

/-- A WAITING operation begins anew; any other is left as it is. -/
theorem operationResumes_eq (p : Part) : operationResumes p
    = if p.faults.status = .waiting then (match p.faults.kind with | some kind => startOperation kind p | none => p) else p := by
  unfold operationResumes
  split
  · next status kind => simp [status, kind]
  · next other =>
    split
    · next waiting =>
      cases kind : p.faults.kind with
      | some k => exact absurd kind (other k waiting)
      | none => rfl
    · rfl

/-- An evaluation without a confirmed hold aborts no check. -/
theorem evaluate_unheld {p : Part} (unheld : p.link.holdConfirmed = false) :
    (evaluate p).link = p.link ∧ (evaluate p).faults = p.faults := by
  obtain same | same | ⟨-, new, -, same⟩ | ⟨opens, same⟩ := evaluate_cases p
  · simp [same]
  · simp [same]
  · simp [same]
  · have notReleasing : (evaluate p).bay.state ≠ .releasing := by
      rw [(evaluate_placed p opens).2, unheld]
      (repeat' split) <;> simp_all
    exact absurd (by simp [same]) notReleasing

theorem operationResumes_leaves (p : Part) :
    (operationResumes p).link.slots = { p.link.slots with faults := (operationResumes p).link.slots.faults }
      ∧ (operationResumes p).faults.coach = p.faults.coach ∧ (operationResumes p).faults.bay = p.faults.bay := by
  unfold operationResumes
  split
  · next kind _ _ => cases kind <;> exact ⟨rfl, rfl, rfl⟩
  · exact ⟨rfl, rfl, rfl⟩

/-- The same coach is in the bay again: the record is kept, HOLD placed, and a WAITING operation resumed. -/
theorem sameCoach_kept {held : Identity} {p v q : Part} (identity : p.bay.identity = some held)
    (resumed : q = operationResumes (evaluate v)) (since : unchangedExcept [.osc, .link] p v)
    (slots : v.link.slots = { p.link.slots with bay := some { code := .hold, arg := 0 } })
    (confirmed : v.link.holdConfirmed = p.link.holdConfirmed) :
    (q.bay.identity = some held ∧ q.bay.roster = p.bay.roster ∧ q.lamps = p.lamps ∧ q.faults.coach = p.faults.coach
      ∧ q.faults.bay = p.faults.bay)
    ∧ (p.link.holdConfirmed = false →
        q.link.slots = { p.link.slots with bay := some { code := .hold, arg := 0 }, faults := q.link.slots.faults }
        ∧ (p.faults.status ≠ .waiting → q.faults = p.faults ∧ q.link.slots.faults = p.link.slots.faults)
        ∧ (∀ kind, p.faults.status = .waiting → p.faults.kind = some kind →
            q.faults = { p.faults with
              status := (match kind with | .read => .counting | .clearAndRead => .clearing)
              toRead := none, nextIndex := none, staging := [], rejected := 0 }
            ∧ q.link.slots.faults = some {
              code := (match kind with | .read => .fcount | .clearAndRead => .fclear), arg := 0 })) := by
  have bay : p.bay = v.bay := since .bay (by decide)
  have lamps : p.lamps = v.lamps := since .lamps (by decide)
  have faults : p.faults = v.faults := since .faults (by decide)
  obtain ⟨others, coach, own⟩ := operationResumes_leaves (evaluate v)
  obtain ⟨coach', own', -⟩ := evaluate_faults v
  subst resumed
  refine ⟨⟨by simp [← bay, identity], by simp [← bay], by simp [← lamps], ?_, ?_⟩, fun unheld => ?_⟩
  · rw [coach, coach', faults]
  · rw [own, own', faults]
  · obtain ⟨link, kept⟩ := evaluate_unheld (confirmed.trans unheld)
    refine ⟨by rw [others, link, slots], fun idle => ?_, fun kind waiting known => ?_⟩
    · rw [operationResumes_eq, kept, ← faults, if_neg idle, link, kept, slots]
      exact ⟨faults.symm, rfl⟩
    · rw [operationResumes_eq, kept, ← faults, if_pos waiting, known]
      cases kind <;> simp [startOperation, kept, ← faults, known, Slots.put]

/-! ## The settlement -/

/-- A first identity, or another coach's, is taken up in the part as it is or in the bay just vacated. -/
theorem acceptIdentity_begins {d : Identity} {p : Part} {another fresh : Prop}
    (changes : another ↔ ∃ held, p.bay.identity = some held ∧ held.coach ≠ d.coach)
    (begins : fresh ↔ another ∨ (p.bay.identity = none ∧ p.bay.roster = none)) (first : another ∨ p.bay.identity = none) :
    ∃ y, acceptIdentity d p = firstIdentity d y ∧ RaisesBaystate p y ∧ y.clock = p.clock ∧ (fresh → y.bay.roster = none)
      ∧ ∀ e : RosterEntry, e.coach = d.coach → (e ∈ y.cache.entries ↔ e ∈ p.cache.entries) := by
  cases identity : p.bay.identity with
  | none =>
    refine ⟨_, acceptIdentity_first identity, .of_kept rfl, rfl, fun isFresh => ?_, fun _ _ => Iff.rfl⟩
    obtain changed | ⟨-, noCopy⟩ := begins.mp isFresh
    · obtain ⟨held, known, -⟩ := changes.mp changed
      simp [identity] at known
    · exact noCopy
  | some held =>
    obtain ⟨held', known, other⟩ := changes.mp (first.resolve_right (by simp [identity]))
    obtain rfl : held = held' := Option.some.inj (identity.symm.trans known)
    obtain ⟨-, roster, -⟩ := bayVacated_bay (identConfirmed p)
    obtain ⟨-, -, -, -, clock⟩ := bayVacated_blocks (identConfirmed p)
    refine ⟨_, acceptIdentity_another identity other,
      RaisesBaystate.trans (.of_kept rfl) (bayVacated_raises (identConfirmed p)), clock, fun _ => roster, fun e same => ?_⟩
    exact bayVacated_entries (identConfirmed p) identity (by rw [same]; exact Ne.symm other)

/-- The lamp table of the statement is the one set up (R142). -/
theorem lampRecords_table (fitted led : Word16) (nominals : List Nat) :
    lampRecords fitted led 16 0 nominals = (List.range 16).map (lampOf fitted led nominals) := by
  rw [List.range_eq_range', ← lampRecords_eq]
  rfl

/-- Settles O36. -/
theorem lastAcceptsAnIdentity : Obligations.LastAcceptsAnIdentity := by
  refine ⟨?_, identityOf_record, fun words short => identityOf_short short⟩
  intro s f w d fresh another mode link flight listens ident record short changes begins
  refine completes_normal mode (by simp) (by simp) ?_
  rw [effect, coachWord_identity link flight listens ident record short]
  have since := acked_unchanged s.part
  have bay : (acked s.part).bay = s.part.bay := by simp
  have cache : (acked s.part).cache = s.part.cache := by simp
  have line : (acked s.part).line = s.part.line := by simp
  rw [← bay] at changes begins
  have taken := fun first => acceptIdentity_begins (d := d) (p := acked s.part) changes begins first
  have fields {α : Type} (g : Link → α) := congrArg g (acceptIdentity_besidesSlots d (acked s.part))
  refine ⟨?confirmed, ?flight, ?gathered, ?state, fun first => ?identity, fun isFresh missing => ?asks,
    fun isFresh held => ?finds, fun none_ idle up => ?reads, fun held identity same => ?same, fun changed => ?another, ?unchanged⟩
  case confirmed => exact fields Link.identConfirmed
  case flight => exact (fields Link.inFlight).trans (by simp [Link.besidesSlots, acked_link])
  case gathered => exact (fields Link.gathered).trans (by simp [Link.besidesSlots, acked_link])
  case state => exact (fields Link.state).trans (by simp [Link.besidesSlots, acked_link])
  case identity =>
    obtain ⟨y, told, -⟩ := taken (by rwa [bay])
    obtain ⟨identity, held, -, -, -, -, lamps, -⟩ := firstIdentity_holds d y
    obtain ⟨memory, -, -, slots⟩ := firstIdentity_requests d y
    rw [told]
    exact ⟨identity, memory, held, congrArg Slots.bay slots, lamps.trans (lampRecords_table ..)⟩
  case asks =>
    obtain ⟨y, told, raises, -, noCopy, entries⟩ := taken (begins.mp isFresh |>.imp_right And.left)
    obtain ⟨flag, mark⟩ := raised_ask_of_baystate raises
    obtain ⟨state, roster, want, count, flag', mark'⟩ := firstIdentity_asks (d := d) (noCopy isFresh)
      fun x stored same => missing x (cache ▸ (entries x same).mp stored) same
    rw [line] at flag mark
    rw [told]
    exact ⟨state, roster, want, count, flag'.trans flag, mark'.trans mark⟩
  case finds =>
    obtain ⟨y, told, -, clock, noCopy, entries⟩ := taken (begins.mp isFresh |>.imp_right And.left)
    obtain ⟨x, stored, same⟩ := held
    rw [told, ← show (acked s.part).clock = s.part.clock by simp, ← clock]
    exact firstIdentity_finds (noCopy isFresh) ⟨x, (entries x same).mpr (cache ▸ stored), same⟩
  case reads =>
    rw [acceptIdentity_first (by rwa [bay])]
    obtain ⟨faults, slots⟩ := firstIdentity_reads (d := d) (p := identConfirmed (acked s.part))
      (by simpa [identConfirmed] using idle) (by simpa [identConfirmed, acked_link] using up)
    exact ⟨faults.trans (by simp [identConfirmed]), slots.trans (by simp [identConfirmed, acked_link])⟩
  case same =>
    have told := acceptIdentity_same (d := d) (p := acked s.part) (by rwa [bay]) same
    have kept : unchangedExcept [.osc, .link] s.part (place .bay .hold (identConfirmed (acked s.part))) :=
      since.trans (fun b hb => by cases b <;> simp_all [agreeOn, identConfirmed]) (by decide) (by decide)
        (second := [.osc, .link])
    have slots : (place .bay .hold (identConfirmed (acked s.part))).link.slots
        = { s.part.link.slots with bay := some { code := .hold, arg := 0 } } := by
      simp [identConfirmed, acked_link, Slots.put]
    have confirmed : (place .bay .hold (identConfirmed (acked s.part))).link.holdConfirmed = s.part.link.holdConfirmed := by
      simp [identConfirmed, acked_link]
    obtain ⟨⟨held, roster, lamps, coach, own⟩, unheld⟩ := sameCoach_kept identity told kept slots confirmed
    exact ⟨held, roster, lamps, coach, own,
      ⟨_, told, by simp [identConfirmed], rfl, by simp [identConfirmed, acked_link], confirmed, slots, kept⟩, unheld⟩
  case another =>
    obtain ⟨held, identity, other⟩ := changes.mp changed
    rw [acceptIdentity_another identity other]
    obtain ⟨share, duty, keeper, slot, sweep, coach, own, reads, flag, couple, ended⟩ :=
      firstIdentity_vacated d (identConfirmed (acked s.part))
    refine ⟨share.trans (by simp [identConfirmed]), duty, keeper.trans (by simp [identConfirmed, acked_link]),
      slot, sweep, coach, own, fun up => reads (by simpa [identConfirmed, acked_link] using up), ?_, couple.trans (by simp [identConfirmed]),
      revocationEnded_congr (by simp [identConfirmed]) ended⟩
    rw [flag, decoupleFlagOf_eq]
    simp [identConfirmed]
  case unchanged => exact since.trans (acceptIdentity_unchanged d _) (by decide) (by decide)

end Sys2Proof.Machine
end

section
/-! What the invariants of clearance, fault list and roster cache read, and the operations that leave it as it was: the relation by which
every effect is shown to keep them (R142, R152, R157 to R163, R171, R183). -/

namespace Sys2Proof.Machine

/-! ## The invariants, taken apart -/

/-- The staging set stands in coach order, no two records of one key, below the index being read (R157, R162). -/
def Staged.inOrder (bound : Nat) (rs : List Staged) : Prop :=
  rs.Pairwise (fun a b => Staged.sameKey a b = false) ∧ rs.Pairwise (fun a b => a.order < b.order)
    ∧ ∀ r ∈ rs, r.order < bound

theorem Staged.inOrder_nil (bound : Nat) : Staged.inOrder bound [] := ⟨.nil, .nil, by simp⟩

/-- What an operation of the fault list holds: something staged in READING alone, where an index is being read (R157, R162). -/
def Faults.readInOrder (f : Faults) : Prop :=
  Staged.inOrder (f.nextIndex.getD 0) f.staging ∧ (f.status ≠ .reading → f.staging = [])
    ∧ (f.status = .reading → f.nextIndex.isSome)

/-- COACH entries in coach order, no two of one key, within the list's size and each of its record's class (R159, R160). -/
def Faults.coachInOrder (es : List CoachEntry) : Prop :=
  es.length ≤ coachLimit ∧ es.Pairwise (fun a b => Staged.sameKey a.record b.record = false)
    ∧ (∀ e ∈ es, e.cls = classOf e.record)
    ∧ (es.map FaultEntry.coach).Pairwise (fun a b => FaultEntry.before a b = true)

/-- BAY entries in ascending position (R160). -/
def Faults.bayInOrder (es : List BayEntry) : Prop := es.Pairwise (fun a b => a.position < b.position)

theorem FaultEntry.before_of_rank {a b : FaultEntry}
    (h : FaultClass.rank (FaultEntry.cls a) < FaultClass.rank (FaultEntry.cls b)) : FaultEntry.before a b = true := by
  simp [FaultEntry.before, h]

theorem Faults.cls_of_mem_ofClass {f : Faults} {c : FaultClass} {e : FaultEntry} (h : e ∈ Faults.ofClass f c) :
    FaultEntry.cls e = c := by
  simp only [Faults.ofClass, List.mem_append, List.mem_map, List.mem_filter, beq_iff_eq] at h
  obtain ⟨x, ⟨-, cls⟩, rfl⟩ | ⟨x, ⟨-, cls⟩, rfl⟩ := h
  · exact cls
  · exact cls

/-- The entries of one class stand in the list's order where the COACH entries and the BAY entries each do. -/
theorem Faults.ofClass_pairwise {f : Faults}
    (coach : (f.coach.map FaultEntry.coach).Pairwise (fun a b => FaultEntry.before a b = true))
    (bay : Faults.bayInOrder f.bay) (c : FaultClass) :
    (Faults.ofClass f c).Pairwise (fun a b => FaultEntry.before a b = true) := by
  refine List.pairwise_append.mpr ⟨?_, ?_, ?_⟩
  · exact coach.sublist (List.filter_sublist.map _)
  · rw [List.pairwise_map]
    refine (List.Pairwise.filter _ bay).imp_of_mem fun {a b} ha hb rises => ?_
    have clsA : a.cls = c := by simpa using (List.mem_filter.mp ha).2
    have clsB : b.cls = c := by simpa using (List.mem_filter.mp hb).2
    simp [FaultEntry.before, FaultEntry.cls, clsA, clsB, rises]
  · simp only [List.mem_map, List.mem_filter, beq_iff_eq]
    rintro _ ⟨a, ⟨-, clsA⟩, rfl⟩ _ ⟨b, ⟨-, clsB⟩, rfl⟩
    simp [FaultEntry.before, FaultEntry.cls, clsA, clsB]

/-- So the list as reported stands in its order (R160). -/
theorem Faults.listed_pairwise {f : Faults}
    (coach : (f.coach.map FaultEntry.coach).Pairwise (fun a b => FaultEntry.before a b = true))
    (bay : Faults.bayInOrder f.bay) : (Faults.listed f).Pairwise (fun a b => FaultEntry.before a b = true) := by
  have apart {c d : FaultClass} (rank : FaultClass.rank c < FaultClass.rank d) :
      ∀ a ∈ Faults.ofClass f c, ∀ b ∈ Faults.ofClass f d, FaultEntry.before a b = true := fun a ha b hb =>
    FaultEntry.before_of_rank (by rwa [Faults.cls_of_mem_ofClass ha, Faults.cls_of_mem_ofClass hb])
  have within := Faults.ofClass_pairwise coach bay
  refine List.pairwise_append.mpr ⟨List.pairwise_append.mpr ⟨within _, within _, apart (by decide)⟩, within _, ?_⟩
  intro a ha b hb
  obtain ha | ha := List.mem_append.mp ha
  · exact apart (by decide) a ha b hb
  · exact apart (by decide) a ha b hb

/-- The fault list's invariant: COACH entries, BAY entries, the operation in progress, the remark of a truncated list, and the lamp
table. -/
theorem faultListInv_iff (p : Part) : FaultListInv p ↔ Faults.coachInOrder p.faults.coach ∧ Faults.bayInOrder p.faults.bay
    ∧ Faults.readInOrder p.faults ∧ (p.remarks.faultsTruncated = true ↔ 0 < p.faults.lastDropped)
    ∧ p.lamps.map (·.position) = List.range 16 := by
  constructor
  · rintro ⟨size, keys, cls, staged, cut, -, coach, bay, rises, below, empty, index, lamps⟩
    exact ⟨⟨size, keys, cls, coach⟩, bay, ⟨⟨staged, rises, below⟩, empty, index⟩, cut, lamps⟩
  · rintro ⟨⟨size, keys, cls, coach⟩, bay, ⟨⟨staged, rises, below⟩, empty, index⟩, cut, lamps⟩
    exact ⟨size, keys, cls, staged, cut, Faults.listed_pairwise coach bay, coach, bay, rises, below, empty, index, lamps⟩

/-! ## The relation -/

/-- The invariants of clearance and of the BAY entries, which every step keeps together (R152, R183). -/
abbrev ClearanceInvs (p : Part) : Prop := ClearanceInv p ∧ BayEntryInv p

/-- What holds of the checks in `p` holds in `q`: clearance with the BAY entries, the fault list, and the roster cache. -/
def ChecksKept (p q : Part) : Prop :=
  (ClearanceInvs p → ClearanceInvs q) ∧ (FaultListInv p → FaultListInv q) ∧ (RosterInv p → RosterInv q)

@[refl] theorem ChecksKept.refl (p : Part) : ChecksKept p p := ⟨id, id, id⟩

theorem ChecksKept.trans {p w q : Part} (first : ChecksKept p w) (second : ChecksKept w q) : ChecksKept p q := by
  obtain ⟨clear, faults, roster⟩ := first
  obtain ⟨clear', faults', roster'⟩ := second
  exact ⟨clear' ∘ clear, faults' ∘ faults, roster' ∘ roster⟩

/-- What the invariants read of lamps and fault list, but for the bay state, the operation in progress and the sweep. -/
def Part.checksRecord (p : Part) :
    List Lamp × List CoachEntry × List BayEntry × Nat × Option Identity × Bool :=
  (p.lamps, p.faults.coach, p.faults.bay, p.faults.lastDropped, p.bay.identity, p.remarks.faultsTruncated)

/-- The bay is closed to checks in `q` only where it was in `p`, and there begins neither an operation nor a sweep (R145, R161). -/
def Part.admitsNone (p q : Part) : Prop :=
  closedToChecks q.bay.state = true → closedToChecks p.bay.state = true
    ∧ (p.faults.status = .idle → q.faults.status = .idle)
    ∧ (SweepStatus.isRunning p.sweep.status = false → SweepStatus.isRunning q.sweep.status = false)

theorem rosterInv_congr {p q : Part} (entries : q.cache.entries = p.cache.entries) (minute : q.clock.minute = p.clock.minute)
    (h : RosterInv p) : RosterInv q := by
  rwa [RosterInv, entries, minute]

/-- An operation that leaves the record, and roster cache and fault list operation in order. -/
theorem ChecksKept.of_record {p q : Part} (record : Part.checksRecord q = Part.checksRecord p)
    (roster : RosterInv p → RosterInv q) (read : Faults.readInOrder p.faults → Faults.readInOrder q.faults)
    (closed : Part.admitsNone p q) : ChecksKept p q := by
  simp only [Part.checksRecord, Prod.mk.injEq] at record
  obtain ⟨lamps, coach, bay, dropped, identity, cut⟩ := record
  refine ⟨?_, ?_, roster⟩
  · rintro ⟨clear, shown, empty⟩
    refine ⟨fun shut => ?_, ?_⟩
    · obtain ⟨was, status, running⟩ := closed shut
      obtain ⟨noCoach, noBay, sound, idle, stopped⟩ := clear was
      rw [coach, bay, lamps]
      exact ⟨noCoach, noBay, sound, status idle, running stopped⟩
    · rw [BayEntryInv, bay, lamps, identity]
      exact ⟨shown, empty⟩
  · rw [faultListInv_iff, faultListInv_iff, coach, bay, cut, dropped, lamps]
    rintro ⟨coachOrder, bayOrder, readOrder, truncated, positions⟩
    exact ⟨coachOrder, bayOrder, read readOrder, truncated, positions⟩

/-- An operation that writes the roster cache or the minute, and leaves the rest as it was. -/
theorem ChecksKept.of_roster {p q : Part} (kept : q.lamps = p.lamps ∧ q.faults = p.faults ∧ q.bay.identity = p.bay.identity
    ∧ q.remarks.faultsTruncated = p.remarks.faultsTruncated
    ∧ (closedToChecks q.bay.state = true → closedToChecks p.bay.state = true)
    ∧ (SweepStatus.isRunning p.sweep.status = false → SweepStatus.isRunning q.sweep.status = false))
    (roster : RosterInv p → RosterInv q) : ChecksKept p q := by
  obtain ⟨lamps, faults, identity, cut, closed, running⟩ := kept
  refine .of_record ?_ roster (by rw [faults]; exact id) fun shut => ⟨closed shut, by rw [faults]; exact id, running⟩
  simp [Part.checksRecord, lamps, faults, identity, cut]

/-- An operation that leaves all this as it was, or opens the bay, or stops a sweep. -/
theorem ChecksKept.of_kept {p q : Part} (kept : q.lamps = p.lamps ∧ q.faults = p.faults ∧ q.bay.identity = p.bay.identity
    ∧ q.remarks.faultsTruncated = p.remarks.faultsTruncated ∧ q.cache.entries = p.cache.entries
    ∧ q.clock.minute = p.clock.minute ∧ (closedToChecks q.bay.state = true → closedToChecks p.bay.state = true)
    ∧ (SweepStatus.isRunning p.sweep.status = false → SweepStatus.isRunning q.sweep.status = false)) : ChecksKept p q := by
  obtain ⟨lamps, faults, identity, cut, entries, minute, closed, running⟩ := kept
  exact .of_roster ⟨lamps, faults, identity, cut, closed, running⟩ (rosterInv_congr entries minute)

/-- An operation of the fault list that leaves its entries, and staging and index in order. -/
theorem ChecksKept.of_operation {p q : Part} (faults : q.faults.coach = p.faults.coach ∧ q.faults.bay = p.faults.bay
    ∧ q.faults.lastDropped = p.faults.lastDropped)
    (same : unchangedExcept [.osc, .link, .faults] p q) (read : Faults.readInOrder p.faults → Faults.readInOrder q.faults)
    (idle : p.faults.status = .idle → closedToChecks p.bay.state = true → q.faults.status = .idle) : ChecksKept p q := by
  have lamps : p.lamps = q.lamps := same .lamps (by decide)
  have bay : p.bay = q.bay := same .bay (by decide)
  have remarks : p.remarks = q.remarks := same .remarks (by decide)
  have cache : p.cache = q.cache := same .cache (by decide)
  have clock : p.clock = q.clock := same .clock (by decide)
  have sweep : p.sweep = q.sweep := same .sweep (by decide)
  refine .of_record ?_ (rosterInv_congr (by rw [cache]) (by rw [clock])) read fun shut => ?_
  · simp [Part.checksRecord, faults, lamps, bay, remarks]
  · rw [← bay] at shut
    exact ⟨shut, fun was => idle was shut, by rw [sweep]; exact id⟩

/-- An operation that writes none of the blocks that hold this. -/
theorem ChecksKept.of_unchanged {blocks : List Block} {p q : Part} (same : unchangedExcept blocks p q)
    (apart : ∀ b ∈ [Block.lamps, .faults, .bay, .remarks, .cache, .clock, .sweep], b ∉ blocks) : ChecksKept p q := by
  have lamps : p.lamps = q.lamps := same .lamps (apart _ (by simp))
  have faults : p.faults = q.faults := same .faults (apart _ (by simp))
  have bay : p.bay = q.bay := same .bay (apart _ (by simp))
  have remarks : p.remarks = q.remarks := same .remarks (apart _ (by simp))
  have cache : p.cache = q.cache := same .cache (apart _ (by simp))
  have clock : p.clock = q.clock := same .clock (apart _ (by simp))
  have sweep : p.sweep = q.sweep := same .sweep (apart _ (by simp))
  exact .of_kept (by simp [lamps, faults, bay, remarks, cache, clock, sweep])

/-- What the fault list's operation writes while it is in progress: the bay is then open to checks (R161, R183). -/
theorem ClearanceInvs.open_of_busy {p : Part} (h : ClearanceInvs p)
    (busy : p.faults.status ≠ .idle ∨ SweepStatus.isRunning p.sweep.status = true) : closedToChecks p.bay.state = false := by
  obtain ⟨clear, -⟩ := h
  refine Bool.eq_false_iff.mpr fun shut => ?_
  obtain ⟨-, -, -, idle, stopped⟩ := clear shut
  obtain acts | runs := busy
  · exact acts idle
  · rw [stopped] at runs
    cases runs

/-! ## The remark of a truncated list (R163) -/

@[simp] theorem setRemark_keeps_truncated (k : Remark) (v : Bool) (p : Part) (h : .faultsTruncated ≠ k) :
    (setRemark k v p).remarks.faultsTruncated = p.remarks.faultsTruncated :=
  setRemark_get_other .faultsTruncated k v p h

@[simp] theorem recompute_keeps_truncated (t : Trigger) (p : Part) :
    (recompute t p).remarks.faultsTruncated = p.remarks.faultsTruncated :=
  recompute_remark t p .faultsTruncated (by decide)

@[simp] theorem setBayState_keeps_truncated (new : BayState) (p : Part) :
    (setBayState new p).remarks.faultsTruncated = p.remarks.faultsTruncated :=
  setBayState_remark new p .faultsTruncated (by decide) (by decide)

end Sys2Proof.Machine
end

section
/-! What the requests for checks and the bay controller leave of clearance, the fault list and the roster cache (R160 to R166, R171,
R174, R177 to R187). -/

namespace Sys2Proof.Machine

/-! ## Requests (R144, R161, R165, R166) -/

theorem Faults.readInOrder_of_empty {f : Faults} (staging : f.staging = []) (status : f.status ≠ .reading) :
    Faults.readInOrder f := by
  refine ⟨?_, fun _ => staging, fun reading => absurd reading status⟩
  rw [staging]
  exact Staged.inOrder_nil _

/-- An operation starts where one is in progress, or the bay is open to checks. -/
theorem startOperation_checksKept (k : OpKind) (p : Part)
    (open_ : p.faults.status = .idle → closedToChecks p.bay.state = false) : ChecksKept p (startOperation k p) := by
  refine .of_operation (by cases k <;> exact ⟨rfl, rfl, rfl⟩) ?_ (fun _ => ?_) fun was shut => ?_
  · intro b hb
    cases b <;> simp_all [agreeOn]
  · cases k <;> exact Faults.readInOrder_of_empty rfl nofun
  · simp [open_ was] at shut

theorem waitOperation_checksKept (k : Option OpKind) (p : Part)
    (open_ : p.faults.status = .idle → closedToChecks p.bay.state = false) : ChecksKept p (waitOperation k p) := by
  refine .of_operation ⟨rfl, rfl, rfl⟩ ?_ (fun _ => Faults.readInOrder_of_empty rfl nofun) fun was shut => ?_
  · intro b hb
    cases b <;> simp_all [agreeOn]
  · simp [open_ was] at shut

theorem operationEnds_checksKept (p : Part) : ChecksKept p (operationEnds p) := by
  refine .of_operation ⟨rfl, rfl, rfl⟩ ?_ (fun _ => Faults.readInOrder_of_empty rfl nofun) fun _ _ => rfl
  intro b hb
  cases b <;> simp_all [agreeOn]

/-- A request starts nothing in RELEASING and CLEARED (R161). -/
theorem faultRequest_checksKept (k : OpKind) (p : Part) : ChecksKept p (faultRequest k p) := by
  unfold faultRequest
  split
  · split
    · rfl
    · next open_ =>
      have open_ : closedToChecks p.bay.state = false := Bool.eq_false_iff.mpr open_
      split
      · rfl
      · exact startOperation_checksKept k p fun _ => open_
      · exact waitOperation_checksKept _ p fun _ => open_
      · exact waitOperation_checksKept _ p fun _ => open_
  · split
    · rfl
    · refine .of_operation ⟨rfl, rfl, rfl⟩ ?_ id fun was _ => was
      intro b hb
      cases b <;> simp_all [agreeOn]
  all_goals rfl

theorem operationWaits_checksKept (p : Part) : ChecksKept p (operationWaits p) := by
  unfold operationWaits
  split
  iterate 3
    next busy =>
      exact (waitOperation_checksKept p.faults.kind p (by simp [busy])).trans (.of_kept (by simp))
  all_goals rfl

theorem operationResumes_checksKept (p : Part) : ChecksKept p (operationResumes p) := by
  unfold operationResumes
  split
  · next waits _ => exact startOperation_checksKept _ p (by simp [waits])
  · rfl

theorem sweepRequest_checksKept (p : Part) : ChecksKept p (sweepRequest p) := .of_kept (by simp)

/-! ## The roster cache in order (R171) -/

/-- The entries of the cache at a minute: within its size, of distinct coaches, in order and none overdue (R171). -/
def rosterInOrder (now : Nat) (es : List RosterEntry) : Prop :=
  es.length ≤ rosterLimit ∧ es.Pairwise (fun a b => a.coach ≠ b.coach ∧ RosterEntry.before now a b = true)
    ∧ ∀ e ∈ es, e.departure < 1440 ∧ -30 ≤ RosterEntry.minutes now e

theorem rosterInv_iff (p : Part) : RosterInv p ↔ rosterInOrder p.clock.minute p.cache.entries := .rfl

theorem rosterInOrder_sublist {now : Nat} {es fs : List RosterEntry} (h : rosterInOrder now es) (sub : fs.Sublist es) :
    rosterInOrder now fs := by
  obtain ⟨size, order, due⟩ := h
  exact ⟨sub.length_le.trans size, order.sublist sub, fun e he => due e (sub.subset he)⟩

theorem insertRoster_perm (now : Nat) (e : RosterEntry) (es : List RosterEntry) :
    (insertRoster now e es).Perm (e :: es) := by
  induction es with
  | nil => exact .refl _
  | cons x xs ih =>
    unfold insertRoster
    split
    · exact .refl _
    · exact (ih.cons x).trans (.swap e x xs)

theorem sortRoster_perm (now : Nat) (es : List RosterEntry) : (sortRoster now es).Perm es := by
  induction es with
  | nil => exact .refl _
  | cons x xs ih => exact (insertRoster_perm now x _).trans (ih.cons x)

/-- Entries of distinct coaches in the order of the cache. -/
theorem pairwise_coach_and_before {now : Nat} {es : List RosterEntry} :
    es.Pairwise (fun a b => a.coach ≠ b.coach ∧ RosterEntry.before now a b = true)
      ↔ (es.map (·.coach)).Nodup ∧ es.Pairwise (fun a b => RosterEntry.before now a b = true) := by
  rw [List.pairwise_and_iff, List.Nodup, List.pairwise_map]

/-- An entry of a coach that is not held, and not overdue, takes its place where there is room. -/
theorem rosterInOrder_insert {now : Nat} {e : RosterEntry} {es : List RosterEntry} (h : rosterInOrder now es)
    (room : es.length < rosterLimit) (new : ∀ x ∈ es, x.coach ≠ e.coach) (departure : e.departure < 1440)
    (due : -30 ≤ RosterEntry.minutes now e) : rosterInOrder now (insertRoster now e es) := by
  obtain ⟨-, order, dues⟩ := h
  obtain ⟨coaches, sorted⟩ := pairwise_coach_and_before.mp order
  have perm := insertRoster_perm now e es
  refine ⟨by rw [perm.length_eq]; exact room, pairwise_coach_and_before.mpr ⟨?_, ?_⟩, fun x hx => ?_⟩
  · rw [(perm.map _).nodup_iff, List.map_cons, List.nodup_cons]
    refine ⟨fun held => ?_, coaches⟩
    obtain ⟨x, hx, same⟩ := List.mem_map.mp held
    exact new x hx same
  · exact insertRoster_pairwise sorted fun x hx => (new x hx).symm
  · obtain rfl | hx := (mem_insertRoster now e x es).mp hx
    · exact ⟨departure, due⟩
    · exact dues x hx

/-- A ROSTER frame leaves the cache in order (R172). -/
theorem rosterInOrder_takeRoster {now : Nat} {e : RosterEntry} {es : List RosterEntry} (h : rosterInOrder now es)
    (departure : e.departure < 1440) : rosterInOrder now (takeRoster now e es).1 := by
  have removed : rosterInOrder now (removeRoster e.coach es) := rosterInOrder_sublist h List.filter_sublist
  by_cases due : -30 ≤ minutesTo now e.departure
  · by_cases held : ∃ x ∈ es, x.coach = e.coach
    · rw [takeRoster_replaced held due]
      obtain ⟨x, hx, same⟩ := held
      have fewer : (removeRoster e.coach es).length < es.length :=
        List.length_filter_lt_length_iff_exists.mpr ⟨x, hx, by simp [same]⟩
      exact rosterInOrder_insert removed (fewer.trans_le h.1) (fun y hy => ((mem_removeRoster _ y es).mp hy).2) departure due
    · have new : ∀ x ∈ es, x.coach ≠ e.coach := fun x hx same => held ⟨x, hx, same⟩
      by_cases room : es.length < 16
      · rw [takeRoster_room new due room]
        exact rosterInOrder_insert h room new departure due
      · by_cases last : ∀ x ∈ es, RosterEntry.before now x e = true
        · rwa [takeRoster_last new due (Nat.not_lt.mp room) last]
        · rw [takeRoster_displaces new due (Nat.not_lt.mp room) (by simpa using last)]
          have size : es.length ≤ 16 := h.1
          refine rosterInOrder_insert (rosterInOrder_sublist h (List.dropLast_sublist es)) ?_
            (fun y hy => new y (List.dropLast_subset es hy)) departure due
          rw [List.length_dropLast, rosterLimit]
          omega
  · have overdue := Int.not_le.mp due
    by_cases held : ∃ x ∈ es, x.coach = e.coach
    · rwa [takeRoster_removed held overdue]
    · rwa [takeRoster_overdue (fun x hx same => held ⟨x, hx, same⟩) overdue]

/-- Sorted and purged for another minute the cache is in order again (R173). -/
theorem rosterInOrder_shift {now minute : Nat} {es : List RosterEntry} (h : rosterInOrder now es) :
    rosterInOrder minute (purgeRoster minute (sortRoster minute es)) := by
  obtain ⟨size, order, dues⟩ := h
  obtain ⟨coaches, -⟩ := pairwise_coach_and_before.mp order
  have perm := sortRoster_perm minute es
  have sub : (purgeRoster minute (sortRoster minute es)).Sublist (sortRoster minute es) := List.filter_sublist
  refine ⟨(sub.length_le.trans_eq perm.length_eq).trans size, ?_, fun e he => ?_⟩
  · refine (pairwise_coach_and_before.mpr ⟨?_, sortRoster_pairwise minute coaches⟩).sublist sub
    rwa [(perm.map _).nodup_iff]
  · obtain ⟨he, due⟩ := (mem_purgeRoster minute e _).mp he
    exact ⟨(dues e ((mem_sortRoster minute e es).mp he)).1, due⟩

/-- M falls by one with the minute while it is above its lowest value (R11). -/
theorem minutesTo_next {now d : Nat} (h : -60 < minutesTo now d) :
    minutesTo ((now + 1) % 1440) d = minutesTo now d - 1 := by
  simp only [minutesTo] at *
  split_ifs at * <;> omega

/-- The purge of the next minute leaves the cache in order: every M has fallen by one (R6, R173). -/
theorem rosterInOrder_next {now : Nat} {es : List RosterEntry} (h : rosterInOrder now es) :
    rosterInOrder ((now + 1) % 1440) (purgeRoster ((now + 1) % 1440) es) := by
  obtain ⟨size, order, dues⟩ := h
  have sub : (purgeRoster ((now + 1) % 1440) es).Sublist es := List.filter_sublist
  have falls : ∀ e ∈ es, RosterEntry.minutes ((now + 1) % 1440) e = RosterEntry.minutes now e - 1 := fun e he =>
    minutesTo_next (lt_of_lt_of_le (by decide) (dues e he).2)
  refine ⟨sub.length_le.trans size, (order.imp_of_mem fun {a b} ha hb distinct => ?_).sublist sub, fun e he => ?_⟩
  · obtain ⟨coach, before⟩ := distinct
    refine ⟨coach, ?_⟩
    simp only [RosterEntry.before, falls a ha, falls b hb, Bool.or_eq_true, Bool.and_eq_true, decide_eq_true_eq,
      beq_iff_eq] at before ⊢
    omega
  · obtain ⟨he, due⟩ := (mem_purgeRoster _ e _).mp he
    exact ⟨(dues e he).1, due⟩

end Sys2Proof.Machine
end

section
/-! What the operations of the bay controller leave of clearance, the fault list and the roster cache (R160, R171, R174, R177 to R187). -/

namespace Sys2Proof.Machine

/-! ## The clearance evaluation (R179, R183) -/

theorem setBayState_checksKept {new : BayState} (opens : closedToChecks new = false) (p : Part) :
    ChecksKept p (setBayState new p) :=
  .of_kept (by simp [opens, setBayState_entries])

theorem judge_checksKept (p : Part) : ChecksKept p (judge p) := .of_kept (by simp [judge])

theorem recompute_checksKept (t : Trigger) (p : Part) : ChecksKept p (recompute t p) := .of_kept (by simp)

/-- The checks of the bay's coach allow no BLOCK entry and no fitted lamp failing or UNKNOWN (R183). -/
def Part.checksPass (p : Part) : Prop := Part.coachBlock p = false ∧ p.lamps.any Lamp.failing = false
  ∧ p.lamps.any Lamp.unknown = false

theorem checksPass_congr {p q : Part} (coach : q.faults.coach = p.faults.coach) (lamps : q.lamps = p.lamps)
    (h : Part.checksPass p) : Part.checksPass q := by
  rwa [Part.checksPass, Part.coachBlock, coach, lamps]

/-- A BAY entry of class BLOCK stands for a lamp that fails (R152). -/
theorem BayEntryInv.no_block {p : Part} (h : BayEntryInv p) (sound : p.lamps.any Lamp.failing = false) :
    ∀ e ∈ p.faults.bay, e.cls ≠ .block := by
  obtain ⟨shown, -⟩ := h
  intro e he block
  have shows : (e.position, e.cls) ∈ p.faults.bay.map (fun e => (e.position, e.cls)) := List.mem_map_of_mem he
  rw [shown, List.mem_filterMap] at shows
  obtain ⟨l, hl, instructed⟩ := shows
  have cls : Lamp.bayClass l = some .block := by
    obtain ⟨c, hc, same⟩ := Option.map_eq_some_iff.mp instructed
    obtain ⟨-, rfl⟩ := Prod.mk.inj same
    rw [hc, block]
  have fails : Lamp.failing l = true := by
    unfold Lamp.bayClass at cls
    split_ifs at cls with fitted
    cases verdict : l.verdict <;> simp_all [instructionOf, Lamp.failing]
  rw [List.any_eq_false] at sound
  exact sound l hl fails

/-- A closed bay whose checks pass, with neither operation nor sweep (R183). -/
theorem ClearanceInvs.of_checksPass {p : Part} (h : BayEntryInv p) (pass : Part.checksPass p)
    (idle : p.faults.status = .idle) (stopped : SweepStatus.isRunning p.sweep.status = false) : ClearanceInvs p := by
  obtain ⟨coach, sound, known⟩ := pass
  refine ⟨fun _ => ⟨?_, h.no_block sound, fun l hl fitted => ?_, idle, stopped⟩, h⟩
  · simpa [Part.coachBlock] using coach
  · have fails := List.any_eq_false.mp sound l hl
    have unknown := List.any_eq_false.mp known l hl
    simp_all [Lamp.failing, Lamp.unknown]

/-- A bay whose checks pass may close once neither operation nor sweep is in progress (R183). -/
theorem setBayState_checksKept_of_pass {p : Part} (new : BayState) (pass : Part.checksPass p)
    (idle : p.faults.status = .idle) (stopped : SweepStatus.isRunning p.sweep.status = false) :
    ChecksKept p (setBayState new p) := by
  refine ⟨fun h => ?_, fun h => ?_, rosterInv_congr (setBayState_entries new p) (by simp)⟩
  · have shown : BayEntryInv (setBayState new p) := by
      obtain ⟨-, shown⟩ := h
      simpa [BayEntryInv] using shown
    exact .of_checksPass shown (checksPass_congr (by simp) (by simp) pass) (by simpa using idle) (by simpa using stopped)
  · rw [faultListInv_iff] at h ⊢
    simpa using h

/-- A part that has placed RELEASE, and whose sweep and operation have ended (R183). -/
def releasePlaced (p : Part) : Part :=
  operationEnds (sweepAbort true (place .bay .release { p with bay := { p.bay with lanePass := false } }))

theorem enterReleasing_eq (p : Part) : enterReleasing p = setBayState .releasing (releasePlaced p) := rfl

/-- The entry to RELEASING with checks that pass (R183). -/
theorem enterReleasing_checksKept {p : Part} (pass : Part.checksPass p) : ChecksKept p (enterReleasing p) := by
  have aborted : ChecksKept p (sweepAbort true (place .bay .release { p with bay := { p.bay with lanePass := false } })) :=
    .of_kept (by simp)
  rw [enterReleasing_eq]
  refine (aborted.trans (operationEnds_checksKept _)).trans (setBayState_checksKept_of_pass _ ?_ rfl ?_)
  · exact checksPass_congr (by simp) (by simp) pass
  · simp

/-- An evaluation that finds no hold reason and the checks done passes them. -/
theorem checksPass_of_releases {p : Part} (opens : openState p.bay.state = true)
    (releases : (evaluate p).bay.state = .releasing) : Part.checksPass p := by
  rw [(evaluate_placed p opens).2] at releases
  have none : Reasons.any (Part.judgedReasons p) = false := by
    refine Bool.eq_false_iff.mpr fun held => ?_
    simp [held] at releases
  have done : Part.sweepPending p = false := by
    refine Bool.eq_false_iff.mpr fun pending => ?_
    simp [none, pending] at releases
  have judged : Part.coachBlock p = false ∧ p.lamps.any Lamp.failing = false := by
    simp only [Reasons.any, Part.judgedReasons, Bool.or_eq_false_iff] at none
    simp only [none, and_self]
  obtain ⟨coach, sound⟩ := judged
  refine ⟨coach, sound, ?_⟩
  rw [Part.sweepPending, Bool.or_eq_false_iff] at done
  exact done.2

/-- An evaluation judges and places the bay; it enters RELEASING only with checks that pass (R179, R183). -/
theorem evaluate_checksKept (p : Part) : ChecksKept p (evaluate p) := by
  obtain same | same | ⟨-, new, opens, same⟩ | ⟨opens, same⟩ := evaluate_cases p
  · rw [same]
  · rw [same]
    exact judge_checksKept p
  · rw [same]
    exact (judge_checksKept p).trans (setBayState_checksKept (by cases new <;> simp_all [openState, closedToChecks]) _)
  · have pass := checksPass_of_releases opens (by simp [same])
    rw [same]
    refine ((judge_checksKept p).trans (setBayState_checksKept (new := .ready) rfl _)).trans (enterReleasing_checksKept ?_)
    exact checksPass_congr (by simp) (by simp) pass

/-! ## The roster copy and the lookup (R172, R174, R177) -/

theorem tryPrepare_checksKept (p : Part) : ChecksKept p (tryPrepare p) := by
  unfold tryPrepare
  split
  · have armed : ChecksKept p (setWatches .armed p) := .of_kept ⟨rfl, rfl, rfl, rfl, rfl, rfl, id, id⟩
    exact armed.trans ((setBayState_checksKept rfl _).trans (evaluate_checksKept _))
  · rfl

theorem copyArrives_checksKept (c : RosterCopy) (p : Part) : ChecksKept p (copyArrives c p) := by
  have held : ChecksKept p (stopAsking { p with bay := { p.bay with roster := some c } }) :=
    .of_kept ⟨rfl, rfl, rfl, rfl, rfl, rfl, id, id⟩
  exact held.trans ((tryPrepare_checksKept _).trans (recompute_checksKept _ _))

theorem rosterLookup_checksKept (p : Part) : ChecksKept p (rosterLookup p) := by
  obtain same | ⟨d, same⟩ | ⟨-, -, c, same⟩ := rosterLookup_cases p <;> rw [same]
  · exact .of_kept (by simp)
  · exact copyArrives_checksKept c p

theorem standBy_checksKept (p : Part) : ChecksKept p (standBy p) := by
  have closed : ChecksKept p { p with bay := { p.bay with window := false } } :=
    .of_kept ⟨rfl, rfl, rfl, rfl, rfl, rfl, id, id⟩
  exact closed.trans ((setBayState_checksKept rfl _).trans (judge_checksKept _))

theorem toStandby_checksKept (p : Part) : ChecksKept p (toStandby p) := by
  have unwatched : ChecksKept p (setWatches .notBegun p) := .of_kept ⟨rfl, rfl, rfl, rfl, rfl, rfl, id, id⟩
  exact unwatched.trans (standBy_checksKept _)

theorem requestReadIf_checksKept (due : Bool) (p : Part) : ChecksKept p (requestReadIf due p) := by
  cases due with
  | true => exact faultRequest_checksKept .read p
  | false => rfl

theorem requestSweepIf_checksKept (due : Bool) (p : Part) : ChecksKept p (requestSweepIf due p) := by
  cases due with
  | true => exact sweepRequest_checksKept p
  | false => rfl

/-- The watches write watches and window, and ask for checks (R180). -/
theorem runWatches_checksKept (p : Part) : ChecksKept p (runWatches p) := by
  unfold runWatches
  split
  · rfl
  · refine ChecksKept.trans ?_ ((requestReadIf_checksKept _ _).trans (requestSweepIf_checksKept _ _))
    exact .of_kept ⟨rfl, rfl, rfl, rfl, rfl, rfl, id, id⟩

theorem setCopy_checksKept (c : RosterCopy) (p : Part) : ChecksKept p (setCopy c p) := by
  have copied : ChecksKept p { p with bay := { p.bay with roster := some c } } :=
    .of_kept ⟨rfl, rfl, rfl, rfl, rfl, rfl, id, id⟩
  have closed : ∀ q, ChecksKept q (closeWindowIfEarly q) := fun q => .of_kept (by
    unfold closeWindowIfEarly
    (repeat' split) <;> simp)
  unfold setCopy
  split
  · split
    · exact copyArrives_checksKept c p
    · exact copied.trans (recompute_checksKept _ _)
  · split
    · rfl
    · dsimp only
      refine copied.trans (ChecksKept.trans (w := if openState p.bay.state then _ else _) ?_ (recompute_checksKept _ _))
      split
      · exact (closed _).trans ((runWatches_checksKept _).trans (evaluate_checksKept _))
      · exact evaluate_checksKept _

theorem removeCopy_checksKept (p : Part) : ChecksKept p (removeCopy p) := by
  have removed : ChecksKept p { p with bay := { p.bay with roster := none } } :=
    .of_kept ⟨rfl, rfl, rfl, rfl, rfl, rfl, id, id⟩
  unfold removeCopy
  split
  · rfl
  · dsimp only
    refine removed.trans (ChecksKept.trans (w := if openState p.bay.state then _ else _) ?_ (recompute_checksKept _ _))
    split
    · exact (toStandby_checksKept _).trans (rosterLookup_checksKept _)
    · rfl

theorem takeCancel_checksKept (coach : Nat) (p : Part) : ChecksKept p (takeCancel coach p) := by
  have gone : ChecksKept p { p with cache := { p.cache with entries := removeRoster coach p.cache.entries } } :=
    .of_roster ⟨rfl, rfl, rfl, rfl, id, id⟩ fun h => rosterInOrder_sublist h List.filter_sublist
  unfold takeCancel
  dsimp only
  split
  · exact gone.trans (removeCopy_checksKept _)
  · exact gone

theorem takeEntry_checksKept {e : RosterEntry} (departure : e.departure < 1440) (p : Part) :
    ChecksKept p (takeEntry e p) := by
  unfold takeEntry
  extract_lets taken _ w looked
  have stored : ChecksKept p w :=
    .of_roster ⟨rfl, rfl, rfl, rfl, id, id⟩ fun h => rosterInOrder_takeRoster h departure
  have lookedUp : ChecksKept p looked := by
    unfold looked
    split
    · exact stored.trans (rosterLookup_checksKept w)
    · exact stored
  split
  · exact lookedUp.trans (setCopy_checksKept _ _)
  · exact lookedUp

theorem takeRosterFrame_checksKept (b : RosterPayload) (p : Part) : ChecksKept p (takeRosterFrame b p) := by
  unfold takeRosterFrame
  split
  · rfl
  · split
    · exact takeCancel_checksKept _ p
    · split
      · next inDay => exact takeEntry_checksKept (Nat.lt_succ_of_le inDay) p
      · rfl

/-! ## Release, clearance and revocation (R182 to R186) -/

theorem returnToHeld_checksKept (r : ReturnReasons) (p : Part) : ChecksKept p (returnToHeld r p) := by
  have begun : ChecksKept p (returning r p) := .of_kept ⟨rfl, rfl, rfl, rfl, rfl, rfl, id, id⟩
  rw [returnToHeld_eq]
  split
  · exact begun.trans ((setBayState_checksKept (new := .held) rfl _).trans (evaluate_checksKept _))
  · exact begun.trans ((standBy_checksKept _).trans (rosterLookup_checksKept _))

theorem laneViewChanged_checksKept (p : Part) : ChecksKept p (laneViewChanged p) := by
  have withdrawn : ChecksKept p (setSlot .bay none p) := .of_kept (by simp)
  unfold laneViewChanged
  split
  · exact withdrawn.trans (returnToHeld_checksKept {} _)
  · exact evaluate_checksKept p

/-- The end of a revocation writes the reply jobs alone (R193). -/
theorem revocationEnd_checksKept (final : JobOutcome) (limit : Nat) (p : Part) :
    ChecksKept p (revocationEnd final limit p) := .of_kept (by simp)

theorem releaseEnds_checksKept (refused : Bool) (p : Part) : ChecksKept p (releaseEnds refused p) := by
  have returned := fun r => returnToHeld_checksKept r p
  unfold releaseEnds
  dsimp only
  split
  · exact (returned _).trans (revocationEnd_checksKept _ _ _)
  · exact returned _

/-- CLEARED is entered from RELEASING, where the checks have passed (R185). -/
theorem enterCleared_checksKept {p : Part} (releasing : p.bay.state = .releasing) : ChecksKept p (enterCleared p) := by
  have closed : closedToChecks p.bay.state = true := by rw [releasing]; rfl
  simp only [enterCleared]
  split <;> exact .of_kept (by simp [closed, setBayState_entries])

theorem holdOutcome_checksKept (o : BayOutcome) (p : Part) : ChecksKept p (holdOutcome o p) := by
  unfold holdOutcome
  split
  iterate 8 exact ChecksKept.trans (w := setReasons _ { p with bay := _ }) (.of_kept (by simp)) (evaluate_checksKept _)
  · split
    · exact (returnToHeld_checksKept _ p).trans (revocationEnd_checksKept _ _ _)
    · exact .of_kept (by simp)
  · split
    · refine ChecksKept.trans ?_ (revocationEnd_checksKept _ _ _)
      exact .of_kept ⟨rfl, rfl, rfl, rfl, rfl, rfl, id, id⟩
    · rfl
  all_goals rfl

theorem releaseOutcome_checksKept (o : BayOutcome) (p : Part) : ChecksKept p (releaseOutcome o p) := by
  unfold releaseOutcome
  split
  · next releasing => exact enterCleared_checksKept releasing
  · exact releaseEnds_checksKept true p
  · have returned := fun r => returnToHeld_checksKept r p
    dsimp only
    split
    · exact (returned _).trans (revocationEnd_checksKept _ _ _)
    · exact returned _
  · rfl

theorem bayLinkLost_checksKept (p : Part) : ChecksKept p (bayLinkLost p) := by
  have withdrawn : ChecksKept p (setSlot .bay none p) := .of_kept (by simp)
  unfold bayLinkLost
  split
  · exact withdrawn.trans (releaseEnds_checksKept false _)
  · exact evaluate_checksKept p

theorem bayNotHeld_checksKept (p : Part) : ChecksKept p (bayNotHeld p) := by
  unfold bayNotHeld
  split
  · exact .of_kept (by simp)
  · rfl

theorem departPress_checksKept (p : Part) : ChecksKept p (departPress p) := by
  unfold departPress
  extract_lets late _ opened swept read _ cleared _ held
  split
  · rfl
  · split
    · have asked : ChecksKept p read :=
        ChecksKept.trans (w := opened) (.of_kept ⟨rfl, rfl, rfl, rfl, rfl, rfl, id, id⟩)
          ((requestSweepIf_checksKept _ _).trans (requestReadIf_checksKept _ _))
      have judged : ChecksKept read cleared := .of_kept (by simp +zetaDelta)
      have placed : ChecksKept cleared held := by
        unfold held
        split
        · exact .of_kept ⟨rfl, rfl, rfl, rfl, rfl, rfl, id, id⟩
        · rfl
      exact asked.trans (judged.trans (placed.trans (evaluate_checksKept _)))
    · exact .of_kept ⟨rfl, rfl, rfl, rfl, rfl, rfl, id, id⟩

/-! ## Minutes (R6, R173, R180, R185) -/

theorem clearanceCheck_checksKept (p : Part) : ChecksKept p (clearanceCheck p) := by
  unfold clearanceCheck
  split
  · exact .of_kept (by simp)
  · rfl

theorem bayMinute_checksKept (p : Part) : ChecksKept p (bayMinute p) := by
  have noted : ChecksKept (runWatches p) (noteOpening p.bay.window (runWatches p)) := by
    unfold noteOpening
    split
    · exact .of_kept ⟨rfl, rfl, rfl, rfl, rfl, rfl, id, id⟩
    · rfl
  have watched := (runWatches_checksKept p).trans (noted.trans (evaluate_checksKept _))
  unfold bayMinute
  split
  · exact evaluate_checksKept p
  iterate 3 exact watched
  · unfold clearanceMinute
    split
    · refine ChecksKept.trans ?_ (clearanceCheck_checksKept _)
      exact .of_kept ⟨rfl, rfl, rfl, rfl, rfl, rfl, id, id⟩
    · rfl
  all_goals rfl

/-- A minute event purges the cache (R173). -/
theorem rosterInv_cacheMinute (p : Part) : RosterInv (cacheMinute p)
    ↔ rosterInOrder p.clock.minute (purgeRoster p.clock.minute p.cache.entries) := by
  simp only [rosterInv_iff, cacheMinute_keeps, cacheMinute_cache]

theorem minuteEvent_checksKept (p : Part) : ChecksKept p (minuteEvent p) := by
  have purged (q : Part) : ChecksKept q (cacheMinute q) :=
    .of_roster (by simp) fun h => (rosterInv_cacheMinute q).mpr (rosterInOrder_sublist h List.filter_sublist)
  exact (recompute_checksKept .minute p).trans ((purged _).trans (bayMinute_checksKept _))

end Sys2Proof.Machine
end

section
/-! What the clearing of the bay, a new identity, the clock, the peers and the measurement unit leave of clearance, the fault list and the
roster cache (R6 to R9, R140, R142, R167, R173, R176, R177, R187). -/

namespace Sys2Proof.Machine

/-! ## The clearing of the bay (R142, R143, R167, R176, R187) -/

/-- No lamp fitted stands for a BAY entry (R152). -/
theorem clearedLamps_bayClass : clearedLamps.filterMap (fun l => (Lamp.bayClass l).map fun c => (l.position, c)) = [] := by
  decide

/-- What a bay without a coach leaves of the checks: lamp table, fault list and sweep with their values of start-up. -/
def Part.checksEmpty (p : Part) : Prop :=
  p.lamps = clearedLamps ∧ p.faults = {} ∧ p.sweep = {} ∧ p.remarks.faultsTruncated = false

theorem ChecksKept.of_empty {p q : Part} (empty : Part.checksEmpty q) (minute : q.clock.minute = p.clock.minute)
    (entries : q.cache.entries.Sublist p.cache.entries) : ChecksKept p q := by
  obtain ⟨lamps, faults, sweep, cut⟩ := empty
  refine ⟨fun _ => ⟨fun _ => ?_, ?_⟩, fun _ => ?_, fun h => ?_⟩
  · obtain ⟨-, unfitted⟩ := clearedLamps_unfitted
    rw [lamps, faults, sweep]
    exact ⟨by simp, by simp, fun l hl fitted => by simp [unfitted l hl] at fitted, rfl, rfl⟩
  · rw [BayEntryInv, lamps, faults]
    exact ⟨clearedLamps_bayClass.symm, fun _ => rfl⟩
  · rw [faultListInv_iff, lamps, faults, cut]
    exact ⟨⟨by simp, .nil, by simp, .nil⟩, .nil, Faults.readInOrder_of_empty rfl nofun, by simp, clearedLamps_positions⟩
  · rw [rosterInv_iff, minute]
    exact rosterInOrder_sublist h entries

theorem tearDown_entries_sublist (p : Part) : (tearDown p).cache.entries.Sublist p.cache.entries := by
  by_cases departed : ∃ d, p.bay.state = .cleared ∧ p.bay.identity = some d
  · obtain ⟨d, state, identity⟩ := departed
    rw [tearDown_entries_departed state identity]
    exact List.filter_sublist
  · rw [tearDown_entries_kept fun d state identity => departed ⟨d, state, identity⟩]

theorem tearDown_checksEmpty (p : Part) : Part.checksEmpty (tearDown p) := by
  obtain ⟨-, -, -, -, -, -, -, sweep, lamps, faults, -⟩ := tearDown_blocks p
  exact ⟨lamps, faults, sweep, tearDown_remark p⟩

theorem tearDown_checksKept (p : Part) : ChecksKept p (tearDown p) :=
  .of_empty (tearDown_checksEmpty p) (by simp) (tearDown_entries_sublist p)

theorem coupleFalls_checksKept (p : Part) : ChecksKept p (coupleFalls p) := by
  cases couple : p.bay.couple with
  | false => rw [coupleFalls, couple]; rfl
  | true =>
    have alone : ChecksKept p (uncoupled p) := .of_kept ⟨rfl, rfl, rfl, rfl, rfl, rfl, id, id⟩
    rw [coupleFalls_eq couple]
    exact alone.trans (tearDown_checksKept _)

theorem coupleRises_checksKept (p : Part) : ChecksKept p (coupleRises p) := by
  unfold coupleRises
  split
  · refine ChecksKept.trans ?_ (setBayState_checksKept (new := .coupled) rfl _)
    exact .of_kept ⟨rfl, rfl, rfl, rfl, rfl, rfl, id, id⟩
  · rfl

theorem resetEmptied_checksKept (p : Part) : ChecksKept p (resetEmptied p) := by
  have begun : (resetBegun p).clock = p.clock ∧ (resetBegun p).cache = p.cache := by
    unfold resetBegun
    split <;> exact ⟨rfl, rfl⟩
  obtain ⟨clock, cache⟩ := begun
  have emptied : Part.checksEmpty (resetEmptied p) := by
    simp [Part.checksEmpty, resetEmptied, clearBlocks_emptied, clearRecord]
  have entries : (resetEmptied p).cache.entries = p.cache.entries := by
    simp [resetEmptied, setBayState_entries, clearRecord, cache]
  exact .of_empty emptied (by simp [resetEmptied, clearRecord, clock]) (by rw [entries])

theorem bayReset_checksKept (p : Part) : ChecksKept p (bayReset p) := by
  rw [bayReset_eq]
  split
  · exact (resetEmptied_checksKept p).trans (setBayState_checksKept rfl _)
  · exact resetEmptied_checksKept p

/-! ## Identity (R137 to R142, R177) -/

/-- The lamp table of a first identity, position by position. -/
theorem lampRecords_first (d : Identity) :
    lampRecords d.fitted d.led 16 0 d.nominals = (List.range 16).map (lampOf d.fitted d.led d.nominals) := by
  have table := lampRecords_eq d.fitted d.led d.nominals 16 0
  rwa [List.range_zero, List.filter_nil, List.length_nil, List.drop_zero, ← List.range_eq_range'] at table

/-- A lamp not yet checked stands for no BAY entry. -/
theorem lampOf_bayClass (fitted led : Word16) (nominals : List Nat) (k : Nat) :
    Lamp.bayClass (lampOf fitted led nominals k) = none := by
  cases fits : fitted.getLsbD k <;> simp [Lamp.bayClass, lampOf, fits, instructionOf]

theorem identityHeld_keeps_truncated (d : Identity) (p : Part) :
    (identityHeld d p).remarks.faultsTruncated = p.remarks.faultsTruncated := by
  simp [identityHeld, toStandby, standBy, judge]

/-- A first identity finds a bay without BAY entries, and no lamp of its coach has been checked (R142, R177). -/
theorem identityHeld_checksKept (d : Identity) {p : Part} (fresh : p.bay.identity = none) :
    ChecksKept p (identityHeld d p) := by
  refine ⟨fun ⟨_, shown, cleared⟩ => ⟨fun shut => ?_, ?_, fun noIdentity => ?_⟩, fun h => ?_,
    rosterInv_congr (by simp) (by simp)⟩
  · simp [closedToChecks] at shut
  · rw [cleared fresh, clearedLamps_bayClass] at shown
    simp only [identityHeld_keeps, shown, lampRecords_first]
    symm
    rw [List.filterMap_eq_nil_iff]
    intro l hl
    obtain ⟨k, -, rfl⟩ := List.mem_map.mp hl
    simp [lampOf_bayClass]
  · simp at noIdentity
  · rw [faultListInv_iff] at h ⊢
    obtain ⟨coach, bay, read, cut, -⟩ := h
    simp only [identityHeld_keeps, identityHeld_keeps_truncated]
    refine ⟨coach, bay, read, cut, ?_⟩
    rw [lampRecords_first, List.map_map]
    exact List.map_id _

theorem firstIdentity_checksKept (d : Identity) {p : Part} (fresh : p.bay.identity = none) :
    ChecksKept p (firstIdentity d p) := by
  rw [firstIdentity_eq]
  exact (identityHeld_checksKept d fresh).trans ((faultRequest_checksKept .read _).trans (rosterLookup_checksKept _))

theorem bayVacated_checksKept (p : Part) : ChecksKept p (bayVacated p) := by
  have withdrawn : ChecksKept p (withdrawLamps (setSlot .faults none (setSlot .bay none p))) := .of_kept (by simp)
  exact withdrawn.trans ((tearDown_checksKept _).trans (setBayState_checksKept rfl _))

theorem coachChange_checksKept (d : Identity) (p : Part) : ChecksKept p (coachChange d p) := by
  obtain ⟨vacant, -⟩ := bayVacated_bay p
  rw [coachChange_eq]
  exact (bayVacated_checksKept p).trans (firstIdentity_checksKept d vacant)

theorem acceptIdentity_checksKept (d : Identity) (p : Part) : ChecksKept p (acceptIdentity d p) := by
  unfold acceptIdentity
  extract_lets _ w
  have confirmed : ChecksKept p w := .of_kept ⟨rfl, rfl, rfl, rfl, rfl, rfl, id, id⟩
  split
  · next fresh => exact confirmed.trans (firstIdentity_checksKept d fresh)
  · split
    · have placed : ChecksKept w (place .bay .hold w) := .of_kept (by simp)
      exact confirmed.trans (placed.trans ((evaluate_checksKept _).trans (operationResumes_checksKept _)))
    · exact confirmed.trans (coachChange_checksKept d w)

/-! ## The clock (R6 to R9) -/

theorem statusChanged_checksKept (p : Part) : ChecksKept p (statusChanged p) :=
  (recompute_checksKept .clockStatus p).trans (tryPrepare_checksKept _)

theorem secondEnds_checksKept (p : Part) : ChecksKept p (secondEnds p) := by
  have minute : (secondEnds p).clock.minute = if p.clock.second < 59 then p.clock.minute else (p.clock.minute + 1) % 1440 :=
    congrArg Clock.minute (secondEnds_clock p)
  rw [secondEnds_eq]
  split
  · next within =>
    rw [if_pos within] at minute
    exact .of_kept ⟨rfl, rfl, rfl, rfl, rfl, minute, id, id⟩
  · next past =>
    rw [if_neg past] at minute
    refine ChecksKept.trans (.of_roster ?_ fun h => ?_) (bayMinute_checksKept _)
    · simp
    · rw [rosterInv_cacheMinute]
      simp only [recompute_keeps, minute]
      exact rosterInOrder_next h

theorem timeSilenceExpires_checksKept (p : Part) : ChecksKept p (timeSilenceExpires p) := by
  unfold timeSilenceExpires
  split
  · rfl
  · refine ChecksKept.trans ?_ (statusChanged_checksKept _)
    exact .of_kept ⟨rfl, rfl, rfl, rfl, rfl, rfl, id, id⟩

/-- The cache follows the minute that the clock adopts (R9, R173). -/
theorem timeSet_checksKept (minute second : Nat) (p : Part) : ChecksKept p (timeSet minute second p) := by
  unfold timeSet
  split
  · exact .of_roster ⟨rfl, rfl, rfl, rfl, id, id⟩ rosterInOrder_shift
  · next same =>
    rw [bne_iff_ne, ne_eq, not_not] at same
    exact .of_kept ⟨rfl, rfl, rfl, rfl, rfl, same.symm, id, id⟩

theorem takeTime_checksKept (t : TimePayload) (p : Part) : ChecksKept p (takeTime t p) := by
  have told (minute second : Nat) : ChecksKept p (statusTold (p.clock.status != .valid) (timeSet minute second p)) := by
    unfold statusTold
    split
    · exact (timeSet_checksKept minute second p).trans (statusChanged_checksKept _)
    · exact timeSet_checksKept minute second p
  unfold takeTime
  split
  · rw [adoptTime_eq]
    split
    · exact (told _ _).trans (minuteEvent_checksKept _)
    · exact told _ _
  · rfl

/-! ## Peers and the yard line -/

theorem judgePeers_checksKept (p : Part) : ChecksKept p (judgePeers p) := .of_kept (by simp [judgePeers])

theorem afterPeers_checksKept (before : List Position) (p : Part) : ChecksKept p (afterPeers before p) := by
  rw [afterPeers_eq]
  split
  · exact judgePeers_checksKept p
  · exact (judgePeers_checksKept p).trans (laneViewChanged_checksKept _)

theorem writePeer_checksKept (e : Peer) (p : Part) : ChecksKept p (writePeer e p) := by
  refine ChecksKept.trans ?_ (afterPeers_checksKept _ (setEntries (storePeer e p.peers.entries) p))
  exact .of_kept (by simp)

theorem overflowEnds_checksKept (p : Part) : ChecksKept p (overflowEnds p) := by
  unfold overflowEnds
  split
  · exact .of_kept (by simp)
  · rfl

theorem overflowBegins_checksKept (p : Part) : ChecksKept p (overflowBegins p) := by
  unfold overflowBegins
  split
  · rfl
  · exact .of_kept (by simp)

theorem setEntries_checksKept (es : List Peer) (p : Part) : ChecksKept p (setEntries es p) := .of_kept (by simp)

theorem deletionOf_checksKept (n : Nat) (p : Part) : ChecksKept p (deletionOf n p) :=
  (setEntries_checksKept _ p).trans ((overflowEnds_checksKept _).trans (afterPeers_checksKept _ _))

theorem arrivesIfGood_checksKept (f : Option PeerFields) (p : Part) : ChecksKept p (arrivesIfGood f p) := by
  unfold arrivesIfGood
  split
  · unfold peerArrives
    split
    · exact writePeer_checksKept _ p
    · exact deletionOf_checksKept _ p
    · split
      · exact writePeer_checksKept _ p
      · split
        · exact (setEntries_checksKept _ p).trans (afterPeers_checksKept _ _)
        · exact overflowBegins_checksKept p
    · rfl
  · rfl

theorem advanceTo_checksKept (t : Moment) (p : Part) : ChecksKept p (advanceTo t p) :=
  .of_kept ⟨rfl, rfl, rfl, rfl, rfl, rfl, id, id⟩

theorem peerAges_checksKept (n : Nat) (p : Part) : ChecksKept p (peerAges n p) := by
  unfold peerAges
  split
  · split
    · dsimp only
      split
      · exact (advanceTo_checksKept _ p).trans (writePeer_checksKept _ _)
      · exact (advanceTo_checksKept _ p).trans (deletionOf_checksKept n _)
    · rfl
  · rfl

theorem ghostAges_checksKept (n : Nat) (p : Part) : ChecksKept p (ghostAges n p) := by
  unfold ghostAges
  split
  · split
    · exact (advanceTo_checksKept _ p).trans (deletionOf_checksKept n _)
    · rfl
  · rfl

theorem numberClash_checksKept (p : Part) : ChecksKept p (numberClash p) := by
  unfold numberClash
  split
  · rfl
  · exact .of_kept (by simp)

theorem completion_checksKept (k : SendKind) (p : Part) : ChecksKept p (completion k (completionNotice k) p) := by
  obtain same | ⟨t, -, done⟩ := completion_cases k (completionNotice k) p
  · rw [same]
  · rw [done]
    have completed : ChecksKept p (frameCompletes t p) := .of_kept (by simp)
    exact completed.trans (.of_unchanged (completionNotice_unchanged k t _).1 (by decide))

/-! ## Measurement -/

theorem takeConversion_checksKept {kind : Conversion → Bool} {p q : Part} {c : Conversion} {before : Bool}
    (h : takeConversion kind p = some (c, q, before)) : ChecksKept p q := by
  have kept := takeConversion_keeps h
  exact .of_kept (by simp [kept])

theorem refloEnds_checksKept (code : Code) (p : Part) : ChecksKept p (refloEnds code p) := by
  unfold refloEnds
  split
  case h_1 taken =>
    refine (takeConversion_checksKept taken).trans ?_
    exact .of_kept ⟨rfl, rfl, rfl, rfl, rfl, rfl, id, id⟩
  · rfl

theorem temperatureEnds_checksKept (code : Code) (p : Part) : ChecksKept p (temperatureEnds code p) := by
  unfold temperatureEnds
  split
  case h_1 taken =>
    refine (takeConversion_checksKept taken).trans ?_
    (repeat' split) <;> exact .of_kept (by simp)
  · rfl

end Sys2Proof.Machine
end

section
/-! What the fault list's reads and the lamp sweep's completion leave of clearance, the fault list and the roster cache: merging in coach
order, the list in class order, and the BAY entries of the verdicts (R150 to R152, R157 to R163, R168). -/

namespace Sys2Proof.Machine

/-! ## Merging (R162) -/

/-- What the order of the staging set is read from: the key of a record and its place. -/
def Staged.keyAndOrder (r : Staged) : Nat × Nat × Nat := (r.system, r.code, r.order)

theorem Staged.inOrder_congr {bound : Nat} {rs ss : List Staged} (same : ss.map Staged.keyAndOrder = rs.map Staged.keyAndOrder)
    (h : Staged.inOrder bound rs) : Staged.inOrder bound ss := by
  have read (ts : List Staged) : Staged.inOrder bound ts ↔
      (ts.map Staged.keyAndOrder).Pairwise (fun a b => (a.1 == b.1 && a.2.1 == b.2.1) = false)
        ∧ (ts.map Staged.keyAndOrder).Pairwise (fun a b => a.2.2 < b.2.2) ∧ ∀ a ∈ ts.map Staged.keyAndOrder, a.2.2 < bound := by
    simp only [Staged.inOrder, List.pairwise_map, List.forall_mem_map]
    rfl
  rw [read] at h ⊢
  rwa [same]

theorem Staged.inOrder_mono {bound above : Nat} {rs : List Staged} (h : Staged.inOrder bound rs) (le : bound ≤ above) :
    Staged.inOrder above rs := by
  obtain ⟨keys, rises, below⟩ := h
  exact ⟨keys, rises, fun r hr => (below r hr).trans_le le⟩

/-- A record of a new key is staged last. -/
theorem mergeStaged_new {r : Staged} {rs : List Staged} (new : ∀ x ∈ rs, Staged.sameKey x r = false) :
    mergeStaged r rs = rs ++ [r] := by
  induction rs with
  | nil => rfl
  | cons x xs ih =>
    obtain ⟨here, rest⟩ := List.forall_mem_cons.mp new
    rw [mergeStaged, if_neg (by simp [here]), ih rest, List.cons_append]

/-- One of a key that is staged joins that record, which keeps key and place. -/
theorem mergeStaged_keyAndOrder {r : Staged} {rs : List Staged} (staged : ∃ x ∈ rs, Staged.sameKey x r = true) :
    (mergeStaged r rs).map Staged.keyAndOrder = rs.map Staged.keyAndOrder := by
  induction rs with
  | nil => simp at staged
  | cons x xs ih =>
    unfold mergeStaged
    split
    · rfl
    · next other =>
      have later : ∃ y ∈ xs, Staged.sameKey y r = true := by simpa [other] using staged
      rw [List.map_cons, List.map_cons, ih later]

/-- A record read at an index joins the staging set in coach order (R162). -/
theorem Staged.inOrder_mergeStaged {r : Staged} {rs : List Staged} (h : Staged.inOrder r.order rs) :
    Staged.inOrder (r.order + 1) (mergeStaged r rs) := by
  by_cases staged : ∃ x ∈ rs, Staged.sameKey x r = true
  · exact Staged.inOrder_congr (mergeStaged_keyAndOrder staged) (Staged.inOrder_mono h (Nat.le_succ _))
  · have new : ∀ x ∈ rs, Staged.sameKey x r = false := by simpa using staged
    obtain ⟨keys, rises, below⟩ := h
    rw [mergeStaged_new new]
    refine ⟨?_, ?_, fun x hx => ?_⟩
    · exact List.pairwise_append.mpr ⟨keys, List.pairwise_singleton _ r, by simpa using new⟩
    · exact List.pairwise_append.mpr ⟨rises, List.pairwise_singleton _ r, by simpa using below⟩
    · obtain hx | hx := List.mem_append.mp hx
      · exact Nat.lt_succ_of_lt (below x hx)
      · rw [List.mem_singleton.mp hx]
        exact Nat.lt_succ_self _

/-- A taken record stands at the index read (R158). -/
theorem recordOf_order {order : Nat} {words : List Word16} {r : Staged} (h : recordOf order words = some r) :
    r.order = order := by
  unfold recordOf at h
  split at h
  · dsimp only at h
    split at h
    · obtain ⟨state, -, rfl⟩ := Option.map_eq_some_iff.mp h
      rfl
    · cases h
  · cases h

/-! ## The list in class order (R160, R163) -/

/-- A relation of two staged records holds through the class order where it holds within each class and from a class to a later one. -/
theorem inClassOrder_pairwise {R : Staged → Staged → Prop} {rs : List Staged}
    (within : ∀ c, (rs.filter fun r => classOf r == c).Pairwise R)
    (apart : ∀ a ∈ rs, ∀ b ∈ rs, FaultClass.rank (classOf a) < FaultClass.rank (classOf b) → R a b) :
    (inClassOrder rs).Pairwise R := by
  have across {c d : FaultClass} (rank : FaultClass.rank c < FaultClass.rank d) :
      ∀ a ∈ rs.filter (fun r => classOf r == c), ∀ b ∈ rs.filter (fun r => classOf r == d), R a b := by
    simp only [List.mem_filter, beq_iff_eq]
    rintro a ⟨ha, rfl⟩ b ⟨hb, rfl⟩
    exact apart a ha b hb rank
  unfold inClassOrder
  refine List.pairwise_append.mpr ⟨List.pairwise_append.mpr ⟨within _, within _, across (by decide)⟩, within _, ?_⟩
  intro a ha b hb
  obtain ha | ha := List.mem_append.mp ha
  · exact across (by decide) a ha b hb
  · exact across (by decide) a ha b hb

theorem Staged.sameKey_comm (a b : Staged) : Staged.sameKey a b = Staged.sameKey b a :=
  congrArg₂ (· && ·) BEq.comm BEq.comm

/-- No two records in class order have one key where no two staged have. -/
theorem inClassOrder_keys {rs : List Staged} (keys : rs.Pairwise (fun a b => Staged.sameKey a b = false)) :
    (inClassOrder rs).Pairwise (fun a b => Staged.sameKey a b = false) := by
  have : Std.Symm fun a b => Staged.sameKey a b = false := ⟨fun a b other => (Staged.sameKey_comm b a).trans other⟩
  refine inClassOrder_pairwise (fun c => keys.filter _) fun a ha b hb rank => ?_
  refine keys.forall ha hb fun same => ?_
  simp [same] at rank

/-- The entries of a read stand in the order of the list (R160, R163). -/
theorem inClassOrder_before {rs : List Staged} (rises : rs.Pairwise (fun a b => a.order < b.order)) (minute : Nat)
    (held : List CoachEntry) : (inClassOrder rs).Pairwise
      (fun a b => FaultEntry.before (.coach (entryOf minute held a)) (.coach (entryOf minute held b)) = true) := by
  refine inClassOrder_pairwise (fun c => ?_) fun a _ b _ rank => FaultEntry.before_of_rank rank
  refine (rises.filter _).imp_of_mem fun {a b} ha hb before => ?_
  have clsA : classOf a = c := by simpa using (List.mem_filter.mp ha).2
  have clsB : classOf b = c := by simpa using (List.mem_filter.mp hb).2
  simp [FaultEntry.before, FaultEntry.cls, entryOf, clsA, clsB, before]

/-- What a read installs is in order: the first 24 of its records in class order (R160, R163). -/
theorem coachInOrder_of_staged {bound : Nat} {rs : List Staged} (h : Staged.inOrder bound rs) (minute : Nat)
    (held : List CoachEntry) :
    Faults.coachInOrder (((inClassOrder rs).take coachLimit).map (entryOf minute held)) := by
  obtain ⟨keys, rises, -⟩ := h
  have first : ((inClassOrder rs).take coachLimit).Sublist (inClassOrder rs) := List.take_sublist _ _
  refine ⟨?_, ?_, ?_, ?_⟩
  · rw [List.length_map]
    exact List.length_take_le _ _
  · exact List.pairwise_map.mpr ((inClassOrder_keys keys).sublist first)
  · simp only [List.forall_mem_map]
    exact fun _ _ => rfl
  · rw [List.map_map]
    exact List.pairwise_map.mpr ((inClassOrder_before rises minute held).sublist first)

/-! ## The completion of a read (R163) -/

/-- The part whose read has completed, before the bay controller is told. -/
def readCompleted (p : Part) : Part :=
  let f := p.faults
  setRemark .faultsTruncated (0 < f.staging.length - coachLimit) { p with faults := { f with
    coach := ((inClassOrder f.staging).take coachLimit).map (entryOf p.clock.minute f.coach)
    lastRead := some (Part.completionNow p), lastRejected := f.rejected, lastDropped := f.staging.length - coachLimit
    staging := [], toRead := none, nextIndex := none, status := .idle, kind := none } }

theorem completeRead_eq (p : Part) : completeRead p = evaluate (readCompleted p) := rfl

/-- A read in progress completes while the bay is open to checks (R161, R163). -/
theorem completeRead_checksKept {p : Part} (busy : p.faults.status ≠ .idle) : ChecksKept p (completeRead p) := by
  rw [completeRead_eq]
  refine ChecksKept.trans ⟨fun h => ⟨fun shut => ?_, ?_⟩, fun h => ?_, rosterInv_congr ?_ ?_⟩ (evaluate_checksKept _)
  · have open_ := h.open_of_busy (.inl busy)
    simp [readCompleted, open_] at shut
  · obtain ⟨-, shown⟩ := h
    simpa [readCompleted, BayEntryInv] using shown
  · rw [faultListInv_iff] at h ⊢
    obtain ⟨-, bay, ⟨staged, -⟩, -, positions⟩ := h
    have cut : (readCompleted p).remarks.faultsTruncated = decide (0 < p.faults.staging.length - coachLimit) :=
      setRemark_get .faultsTruncated _ _
    rw [cut]
    simp only [readCompleted, setRemark_keeps, decide_eq_true_eq]
    exact ⟨coachInOrder_of_staged staged _ _, bay, Faults.readInOrder_of_empty rfl nofun, trivial, positions⟩
  · simp [readCompleted]
  · simp [readCompleted]

/-! ## The answers of a read (R158, R162, R164, R165) -/

/-- FREAD is placed for an index above every record staged. -/
theorem placeRead_checksKept {index : Nat} {p : Part} (busy : p.faults.status ≠ .idle)
    (staged : Faults.readInOrder p.faults → Staged.inOrder index p.faults.staging) : ChecksKept p (placeRead index p) := by
  refine .of_operation ⟨rfl, rfl, rfl⟩ ?_ (fun h => ⟨staged h, fun other => absurd rfl other, fun _ => rfl⟩)
    fun idle => absurd idle busy
  intro b hb
  cases b <;> simp_all [agreeOn]

/-- The part whose record of the index being read has been judged (R158). -/
def recordStaged (words : List Word16) (p : Part) : Part :=
  match recordOf (p.faults.nextIndex.getD 0) words with
  | some r => { p with faults := { p.faults with staging := mergeStaged r p.faults.staging } }
  | none => { p with faults := { p.faults with rejected := min 255 (p.faults.rejected + 1) } }

theorem takeRecord_eq (words : List Word16) (p : Part) : takeRecord words p = nextRecord (recordStaged words p) := rfl

/-- The part that has gone on to the next index. -/
def indexRaised (p : Part) : Part :=
  { p with faults := { p.faults with nextIndex := some (p.faults.nextIndex.getD 0 + 1) } }

/-- The next record is read, or the read completes: neither looks at the index held. -/
theorem nextRecord_eq (p : Part) : nextRecord p
    = if p.faults.toRead.getD 0 ≤ p.faults.nextIndex.getD 0 + 1 then completeRead (indexRaised p)
      else placeRead (p.faults.nextIndex.getD 0 + 1) (indexRaised p) := rfl

/-- The part that has handled a record. -/
def recordHandled (words : List Word16) (p : Part) : Part := indexRaised (recordStaged words p)

theorem recordHandled_keeps (words : List Word16) (p : Part) :
    unchangedExcept [.faults] p (recordHandled words p) ∧ (recordHandled words p).faults.status = p.faults.status
      ∧ (recordHandled words p).faults.nextIndex = some (p.faults.nextIndex.getD 0 + 1)
      ∧ (recordHandled words p).faults.coach = p.faults.coach ∧ (recordHandled words p).faults.bay = p.faults.bay
      ∧ (recordHandled words p).faults.lastDropped = p.faults.lastDropped := by
  unfold recordHandled recordStaged
  cases recordOf (p.faults.nextIndex.getD 0) words <;> refine ⟨fun b hb => ?_, rfl, rfl, rfl, rfl, rfl⟩
  all_goals cases b <;> simp_all [agreeOn, indexRaised]

theorem recordHandled_staging {words : List Word16} {p : Part} (h : Staged.inOrder (p.faults.nextIndex.getD 0) p.faults.staging) :
    Staged.inOrder (p.faults.nextIndex.getD 0 + 1) (recordHandled words p).faults.staging := by
  unfold recordHandled recordStaged
  split
  · next r taken =>
    rw [← recordOf_order taken] at h ⊢
    exact Staged.inOrder_mergeStaged h
  · exact Staged.inOrder_mono h (Nat.le_succ _)

theorem recordHandled_checksKept (words : List Word16) {p : Part} (reading : p.faults.status = .reading) :
    ChecksKept p (recordHandled words p) := by
  obtain ⟨only, status, index, coach, bay, dropped⟩ := recordHandled_keeps words p
  refine .of_operation ⟨coach, bay, dropped⟩ (fun b hb => only b (by simp_all)) (fun ⟨staged, _⟩ => ⟨?_, ?_, ?_⟩)
    (by simp [reading])
  · rw [index]
    exact recordHandled_staging staged
  · exact fun other => absurd (status.trans reading) other
  · simp [index]

theorem takeRecord_checksKept (words : List Word16) {p : Part} (reading : p.faults.status = .reading) :
    ChecksKept p (takeRecord words p) := by
  obtain ⟨-, status, -⟩ := recordHandled_keeps words p
  have busy : (recordHandled words p).faults.status ≠ .idle := by simp [status, reading]
  rw [takeRecord_eq, nextRecord_eq]
  refine (recordHandled_checksKept words reading).trans ?_
  split
  · exact completeRead_checksKept busy
  · exact placeRead_checksKept busy fun ⟨staged, _⟩ => staged

/-- The outcome that each command of the fault list may have (R162, R164). -/
def FaultOutcome.answers (code : CommandCode) : FaultOutcome → Prop
  | .erased => code = .fclear
  | .count _ => code = .fcount
  | .record _ => code = .fread
  | .noRecord => code = .fread
  | .failed => True

theorem status_of_command {status : OpStatus} {code : CommandCode} (h : OpStatus.command status = some code) :
    status ≠ .idle ∧ (code = .fclear → status = .clearing) ∧ (code = .fcount → status = .counting)
      ∧ (code = .fread → status = .reading) := by
  cases status with
  | idle | waiting => cases h
  | clearing | counting | reading =>
    obtain rfl := Option.some.inj h
    simp

theorem faultOutcome_checksKept {code : CommandCode} {o : FaultOutcome} (answers : FaultOutcome.answers code o) (p : Part) :
    ChecksKept p (faultOutcome code o p) := by
  unfold faultOutcome
  split
  · next waits =>
    obtain ⟨busy, clearing, counting, reading⟩ := status_of_command waits.1
    have emptied : p.faults.status ≠ .reading → Faults.readInOrder p.faults → p.faults.staging = [] :=
      fun other ⟨_, empty, _⟩ => empty other
    split
    · have status := clearing answers
      refine .of_operation ⟨rfl, rfl, rfl⟩ ?_
        (fun h => Faults.readInOrder_of_empty (emptied (by simp [status]) h) nofun) fun idle => absurd idle busy
      intro b hb
      cases b <;> simp_all [agreeOn]
    · next n =>
      have status := counting answers
      have counted : ChecksKept p { p with faults := { p.faults with toRead := some (Part.recordsToRead p n) } } := by
        refine .of_operation ⟨rfl, rfl, rfl⟩ ?_ id fun idle => absurd idle busy
        intro b hb
        cases b <;> simp_all [agreeOn]
      dsimp only
      split
      · exact counted.trans (completeRead_checksKept busy)
      · refine counted.trans (placeRead_checksKept busy fun h => ?_)
        have none : p.faults.staging = [] := emptied (by simp [status]) h
        exact none ▸ Staged.inOrder_nil 0
    · exact takeRecord_checksKept _ (reading answers)
    · exact completeRead_checksKept busy
    · exact waitOperation_checksKept _ p fun idle => absurd idle busy
  · rfl

end Sys2Proof.Machine
end

section
/-! What the lamp sweep, the coach link's answers and the orders leave of clearance, the fault list and the roster cache: every step keeps
them (R142, R152, R157, R159, R160, R162, R163, R171, R183). -/

namespace Sys2Proof.Machine

/-! ## The completion of a sweep (R150 to R152, R168) -/

/-- The lamp table after the completion. -/
def Part.lampsWritten (p : Part) : List Lamp := p.lamps.map (writeLamp p.sweep.work p.clock.minute)

/-- The part whose sweep has completed, before the bay controller is told. -/
def sweepCompleted (p : Part) : Part :=
  { p with
    lamps := Part.lampsWritten p
    sweep := { p.sweep with status := .complete, settle := none, work := [], last := some (Part.completionNow p) }
    faults := { p.faults with bay := bayEntries p.clock.minute p.faults.bay (Part.lampsWritten p) }
    heat := { p.heat with sweepRunning := false } }

theorem completeSweep_eq (p : Part) : completeSweep p = evaluate (sweepCompleted p) := rfl

/-- An unfitted position keeps its record (R151). -/
theorem writeLamp_unfitted {work : List Work} {minute : Nat} {l : Lamp} (unfitted : l.fit = none) :
    writeLamp work minute l = l := by
  simp [writeLamp, unfitted]

theorem writeLamp_keeps (work : List Work) (minute : Nat) (l : Lamp) :
    (writeLamp work minute l).position = l.position ∧ (writeLamp work minute l).fit = l.fit := by
  unfold writeLamp
  split <;> exact ⟨rfl, rfl⟩

theorem lampsWritten_position (p : Part) : (Part.lampsWritten p).map (·.position) = p.lamps.map (·.position) := by
  rw [Part.lampsWritten, List.map_map]
  exact List.map_congr_left fun l _ => (writeLamp_keeps _ _ l).1

theorem lampsWritten_cleared {p : Part} (cleared : p.lamps = clearedLamps) : Part.lampsWritten p = clearedLamps := by
  obtain ⟨-, unfitted⟩ := clearedLamps_unfitted
  rw [Part.lampsWritten, cleared]
  refine (List.map_congr_left fun l hl => ?_).trans (List.map_id _)
  obtain ⟨fit, -⟩ := unfitted l hl
  exact writeLamp_unfitted fit

/-- An instruction's entry is at the lamp's position, of the class of its verdict (R152, R168). -/
theorem bayEntryOf_shown (minute : Nat) (held : List BayEntry) (l : Lamp) :
    (bayEntryOf minute held l).map (fun e => (e.position, e.cls)) = (Lamp.bayClass l).map fun c => (l.position, c) := by
  unfold bayEntryOf Lamp.bayClass
  cases fit : l.fit <;> cases instructionOf l.verdict <;> simp

/-- The BAY entries after a completion are those of the verdicts (R152). -/
theorem bayEntries_shown (minute : Nat) (held : List BayEntry) (lamps : List Lamp) :
    (bayEntries minute held lamps).map (fun e => (e.position, e.cls))
      = lamps.filterMap (fun l => (Lamp.bayClass l).map fun c => (l.position, c)) := by
  rw [bayEntries, List.map_filterMap]
  exact congrArg (List.filterMap · lamps) (funext (bayEntryOf_shown minute held))

theorem bayEntryOf_position {minute : Nat} {held : List BayEntry} {l : Lamp} {e : BayEntry}
    (h : bayEntryOf minute held l = some e) : e.position = l.position := by
  unfold bayEntryOf at h
  split at h
  · obtain rfl := Option.some.inj h
    rfl
  · cases h

/-- They stand in ascending position (R160). -/
theorem bayEntries_inOrder {minute : Nat} {held : List BayEntry} {lamps : List Lamp}
    (positions : lamps.map (·.position) = List.range 16) : Faults.bayInOrder (bayEntries minute held lamps) := by
  have rises : lamps.Pairwise (fun a b => a.position < b.position) := by
    rw [← List.pairwise_map (R := (· < ·)), positions]
    exact List.pairwise_lt_range
  refine rises.filterMap _ fun a b lt x hx y hy => ?_
  rwa [bayEntryOf_position hx, bayEntryOf_position hy]

/-- A running sweep completes while the bay is open to checks (R145, R183). -/
theorem completeSweep_checksKept {p : Part} (running : SweepStatus.isRunning p.sweep.status = true) :
    ChecksKept p (completeSweep p) := by
  refine ChecksKept.trans (w := sweepCompleted p) ⟨fun h => ⟨fun shut => ?_, ?_, fun fresh => ?_⟩, fun h => ?_, id⟩
    (evaluate_checksKept _)
  · have open_ := h.open_of_busy (.inr running)
    simp [sweepCompleted, open_] at shut
  · exact bayEntries_shown _ _ _
  · obtain ⟨-, -, cleared⟩ := h
    exact lampsWritten_cleared (cleared fresh)
  · rw [faultListInv_iff] at h ⊢
    obtain ⟨coach, -, read, cut, positions⟩ := h
    have written := (lampsWritten_position p).trans positions
    exact ⟨coach, bayEntries_inOrder written, read, cut, written⟩

/-! ## The sweep's course (R144 to R149, R153, R154) -/

theorem sweepAbort_checksKept (lightsOff : Bool) (p : Part) : ChecksKept p (sweepAbort lightsOff p) := .of_kept (by simp)

theorem lampsOutcome_checksKept (o : LampsOutcome) (p : Part) : ChecksKept p (lampsOutcome o p) := by
  unfold lampsOutcome
  split
  · exact .of_kept ⟨rfl, rfl, rfl, rfl, rfl, rfl, id, id⟩
  · split
    · next running => exact .of_kept (by simp [running, SweepStatus.isRunning])
    · next running => exact completeSweep_checksKept (by rw [running]; rfl)
    · exact sweepAbort_checksKept true p
    · exact sweepAbort_checksKept false p
    · rfl

theorem takeLampCode_checksKept (position code : Nat) (p : Part) : ChecksKept p (takeLampCode position code p) := by
  unfold takeLampCode
  split
  · next running =>
    have runs : SweepStatus.isRunning p.sweep.status = true := by rw [running]; rfl
    dsimp only
    split <;> exact .of_kept (by simp [runs])
  · rfl

theorem lampEnds_checksKept (code : Code) (p : Part) : ChecksKept p (lampEnds code p) := by
  unfold lampEnds
  split
  case h_1 taken =>
    have marked : ∀ q : Part, ∀ m : Measure, ChecksKept q { q with measure := m } := fun q m =>
      .of_kept ⟨rfl, rfl, rfl, rfl, rfl, rfl, id, id⟩
    exact (takeConversion_checksKept taken).trans ((marked _ _).trans (takeLampCode_checksKept _ _ _))
  · rfl

theorem settleExpires_checksKept (p : Part) : ChecksKept p (settleExpires p) := by
  unfold settleExpires
  split
  · next running => exact .of_kept (by simp [running, SweepStatus.isRunning])
  · rfl

/-- No sweep starts in RELEASING and CLEARED (R145). -/
theorem judgeSweepStart_checksKept (p : Part) : ChecksKept p (judgeSweepStart p).1 := by
  by_cases waits : p.sweep.status ≠ .requested ∨ Part.lampsInFlight p = true
  · rw [judgeSweepStart_waits waits]
  · simp only [not_or, not_not, Bool.not_eq_true] at waits
    obtain ⟨requested, dark⟩ := waits
    cases bar : Part.sweepBar p with
    | some reason =>
      rw [judgeSweepStart_drops requested dark bar]
      exact .of_kept ⟨rfl, rfl, rfl, rfl, rfl, rfl, id, fun _ => rfl⟩
    | none =>
      rw [judgeSweepStart_starts requested dark bar]
      have open_ : closedToChecks p.bay.state = false := by
        refine Bool.eq_false_iff.mpr fun shut => ?_
        simp [Part.sweepBar, shut] at bar
      refine .of_record (by simp [Part.checksRecord, startSweep]) (rosterInv_congr (by simp [startSweep]) (by simp [startSweep]))
        (by simp [startSweep]) fun shut => ?_
      simp [startSweep, open_] at shut

theorem boundary_checksKept (p : Part) : ChecksKept p (boundary p) := by
  have begun : ChecksKept p (frameBegun p) := .of_kept ⟨rfl, rfl, rfl, rfl, rfl, rfl, id, id⟩
  have opened : ChecksKept (judgeSweepStart (frameBegun p)).1 (frameOpened p) :=
    .of_kept ⟨rfl, rfl, rfl, rfl, rfl, rfl, id, id⟩
  have moved : ChecksKept (frameOpened p) (boundary p) := .of_kept (by simp [boundary_eq, dutyInForce])
  exact begun.trans ((judgeSweepStart_checksKept _).trans (opened.trans moved))

theorem setChain_checksKept {new : ChainStatus} (judged : new ≠ .untested) (p : Part) : ChecksKept p (setChain new p) := by
  have written : ∀ status, ChecksKept p (Part.withChain status p) := fun _ =>
    .of_kept ⟨rfl, rfl, rfl, rfl, rfl, rfl, id, id⟩
  obtain ⟨-, -, changed⟩ | ⟨-, -, changed⟩ | ⟨-, changed⟩ := setChain_cases judged p <;> rw [changed]
  · exact (written _).trans ((sweepAbort_checksKept true _).trans (evaluate_checksKept _))
  · exact (written _).trans (evaluate_checksKept _)
  · exact written _

theorem refhiEnds_checksKept (code : Code) (p : Part) : ChecksKept p (refhiEnds code p) := by
  unfold refhiEnds
  split
  · next taken =>
    refine (takeConversion_checksKept taken).trans ?_
    refine ChecksKept.trans ?_ (setChain_checksKept (by split <;> simp) _)
    split
    · rfl
    · exact .of_kept ⟨rfl, rfl, rfl, rfl, rfl, rfl, id, id⟩
  · rfl

/-! ## The coach link (R126 to R137) -/

/-- What the link writes of itself, at another moment too. -/
theorem ChecksKept.of_link {p q : Part} (rest : unchangedExcept [.osc, .link] p q) : ChecksKept p q :=
  .of_unchanged rest (by decide)

theorem answerEnds_checksKept (p : Part) : ChecksKept p (answerEnds p) := by
  unfold answerEnds
  split
  · exact .of_link (unchanged_of_osc_link p _ _)
  · rfl

theorem leaveFlight_checksKept (p : Part) : ChecksKept p (leaveFlight p) := .of_link (unchanged_of_osc_link p _ _)

theorem setHold_checksKept (v : Bool) (p : Part) : ChecksKept p (setHold v p) := .of_link (unchanged_of_osc_link p _ _)

theorem enterLost_checksKept (p : Part) : ChecksKept p (enterLost p) := by
  have lost : ChecksKept p (lostNow p) := .of_link (unchanged_of_osc_link p _ _)
  rw [enterLost_eq]
  exact lost.trans ((sweepAbort_checksKept false _).trans ((operationWaits_checksKept _).trans (bayLinkLost_checksKept _)))

theorem ackOutcome_checksKept (c : Command) (p : Part) : ChecksKept p (ackOutcome c p) := by
  unfold ackOutcome
  split
  · split
    · rfl
    · exact .of_link (unchanged_of_osc_link p _ _)
  · exact (setHold_checksKept true p).trans (holdOutcome_checksKept _ _)
  · exact (setHold_checksKept false p).trans (releaseOutcome_checksKept _ _)
  · exact lampsOutcome_checksKept _ p
  · exact faultOutcome_checksKept (by exact rfl) p
  all_goals rfl

theorem lastOutcome_checksKept (c : Command) (words : List Word16) (p : Part) : ChecksKept p (lastOutcome c words p) := by
  unfold lastOutcome
  split
  · exact faultOutcome_checksKept (by exact rfl) p
  · exact faultOutcome_checksKept (by exact rfl) p
  · rfl

theorem refuseOutcome_checksKept (c : Command) (p : Part) : ChecksKept p (refuseOutcome c p) := by
  have unheld := setHold_checksKept false p
  unfold refuseOutcome
  split
  · exact unheld.trans (holdOutcome_checksKept _ _)
  · exact releaseOutcome_checksKept _ p
  · exact unheld.trans ((lampsOutcome_checksKept .notHeld _).trans (bayNotHeld_checksKept _))
  · exact faultOutcome_checksKept (by exact rfl) p
  · rfl

theorem failedOutcome_checksKept (c : Command) (p : Part) : ChecksKept p (failedOutcome c p) := by
  unfold failedOutcome
  split
  · exact lampsOutcome_checksKept _ p
  iterate 3 exact faultOutcome_checksKept (by exact trivial) p
  · rfl

theorem failCommand_checksKept (f : InFlight) (p : Part) : ChecksKept p (failCommand f p) := by
  have left := leaveFlight_checksKept p
  unfold failCommand
  split
  · exact .of_link (unchanged_of_osc_link p _ _)
  · exact left.trans ((failedOutcome_checksKept _ _).trans (enterLost_checksKept _))
  · exact .of_link (unchanged_of_osc_link p _ _)
  all_goals exact left

theorem takeWait_checksKept (f : InFlight) (p : Part) : ChecksKept p (takeWait f p) := by
  unfold takeWait
  dsimp only
  split
  · exact .of_link (unchanged_of_osc_link p _ _)
  · exact failCommand_checksKept f p

/-- A judged word acts on the command in flight. -/
theorem takeWord_checksKept (f : InFlight) (w : CoachWord) (p : Part) : ChecksKept p (takeWord f w p) := by
  have ended := answerEnds_checksKept p
  have left := ended.trans (leaveFlight_checksKept _)
  have failed := ended.trans (failCommand_checksKept f _)
  cases w with
  | idle | wait => exact takeWait_checksKept f p
  | data x =>
    unfold takeWord takeData
    dsimp only
    split
    · exact .of_link (unchanged_of_osc_link p _ _)
    · exact failCommand_checksKept f p
  | last x =>
    unfold takeWord takeLast
    dsimp only
    split
    · split
      · split
        · exact left.trans (acceptIdentity_checksKept _ _)
        · exact failed
      · exact left.trans (lastOutcome_checksKept _ _ _)
    · exact failed
  | ack =>
    unfold takeWord takeAck
    dsimp only
    split
    · exact left.trans (ackOutcome_checksKept _ _)
    · exact failed
  | refuse r =>
    unfold takeWord takeRefuse
    dsimp only
    split
    · exact left.trans (refuseOutcome_checksKept _ _)
    · exact failed
  | garbled => exact failCommand_checksKept f p

theorem beatHeard_checksKept (b : Moment) (p : Part) : ChecksKept p (beatHeard b p) :=
  .of_link (unchanged_of_osc_link p _ _)

theorem coachWord_checksKept (w : CoachWord) (p : Part) : ChecksKept p (coachWord w p) := by
  have opened : ChecksKept p (beatOpens p) := beatHeard_checksKept _ p
  unfold coachWord
  split
  · rfl
  · dsimp only
    split
    · split
      · exact opened.trans (takeWord_checksKept _ w _)
      · exact opened
    · exact opened

theorem waitCountEnds_checksKept (p : Part) : ChecksKept p (waitCountEnds p) := by
  unfold waitCountEnds
  split
  · split
    · refine ChecksKept.trans ?_ (takeWait_checksKept _ _)
      exact .of_link (unchanged_of_osc_link p _ _)
    · rfl
  · rfl

theorem chosen_checksKept (code : CommandCode) (p : Part) : ChecksKept p (chosen code p) := by
  unfold chosen
  split
  · split
    · unfold sendCommand
      dsimp only
      refine .of_kept ⟨rfl, rfl, rfl, rfl, rfl, rfl, id, ?_⟩
      simp only [setSlot_keeps]
      split <;> exact id
    · rfl
  · rfl

theorem recoveryEnds_checksKept (p : Part) : ChecksKept p (recoveryEnds p) := by
  unfold recoveryEnds
  split
  · exact .of_link (unchanged_of_osc_link p _ _)
  · split
    · exact .of_link (unchanged_of_osc_link p _ _)
    · rfl
  · rfl

theorem startTimerExpires_checksKept (p : Part) : ChecksKept p (startTimerExpires p) := by
  unfold startTimerExpires
  split
  · exact (advanceTo_checksKept _ p).trans (enterLost_checksKept _)
  · rfl

/-! ## The bay controller's timers and the orders -/

theorem askCountEnds_checksKept (p : Part) : ChecksKept p (askCountEnds p) := by
  unfold askCountEnds askCheck
  (repeat' split) <;> exact .of_kept (by simp)

theorem clearanceCountEnds_checksKept (p : Part) : ChecksKept p (clearanceCountEnds p) := by
  unfold clearanceCountEnds
  split
  · refine ChecksKept.trans ?_ (clearanceCheck_checksKept _)
    exact .of_kept ⟨rfl, rfl, rfl, rfl, rfl, rfl, id, id⟩
  · rfl

theorem holdRetryExpires_checksKept (p : Part) : ChecksKept p (holdRetryExpires p) := by
  unfold holdRetryExpires
  split
  · dsimp only
    split <;> exact .of_kept (by simp)
  · rfl

theorem tooEarlyEnds_checksKept (p : Part) : ChecksKept p (tooEarlyEnds p) := by
  unfold tooEarlyEnds
  split <;> exact .of_kept (by simp)

theorem chirpsEnd_checksKept (p : Part) : ChecksKept p (chirpsEnd p) := by
  unfold chirpsEnd
  split <;> exact .of_kept (by simp)

theorem holdEffect_checksKept (o : Order) (p : Part) : ChecksKept p (holdEffect o p) := by
  unfold holdEffect
  dsimp only
  split
  · exact .of_kept (by simp)
  · exact .of_kept (by simp)
  · exact ChecksKept.trans (.of_kept (by simp)) (evaluate_checksKept _)

theorem unholdEffect_checksKept (p : Part) : ChecksKept p (unholdEffect p) := by
  unfold unholdEffect withdrawRevocation
  split
  · split
    · rfl
    · exact ChecksKept.trans (.of_kept (by simp)) (revocationEnd_checksKept _ _ _)
  · exact ChecksKept.trans (.of_kept (by simp)) (evaluate_checksKept _)

theorem lanepassEffect_checksKept (p : Part) : ChecksKept p (lanepassEffect p) :=
  ChecksKept.trans (.of_kept (by simp)) (evaluate_checksKept _)

/-- An order leaves the checks where its effect does. -/
theorem takeOrder_checksKept (o : Order) (r : OrderRule) (p : Part) (effect : ChecksKept p (r.effect p)) :
    ChecksKept p (takeOrder o r p) := by
  unfold takeOrder
  split
  · split
    · unfold judgeOrder
      split
      · exact .of_kept (by simp)
      · exact effect.trans (.of_kept (by simp))
    · exact .of_kept (by simp)
  · rfl

/-! ## The commands -/

theorem receive_checksKept (sender : StationNo) (n : Nat) (hand : Part → Part) (p : Part)
    (handed : ∀ q, ChecksKept q (hand q)) : ChecksKept p (receive sender n hand p) :=
  receive_induct (I := ChecksKept p) sender n hand (fun _ _ h => h.trans (.of_kept (by simp)))
    (fun q h => h.trans (numberClash_checksKept q)) (fun q h => h.trans (handed q)) (ChecksKept.refl p)

theorem fromBayPost_checksKept (sender : StationNo) (hand : Part → Part) (p : Part) (handed : ChecksKept p (hand p)) :
    ChecksKept p (fromBayPost sender hand p) := by
  unfold fromBayPost
  split
  · exact handed
  · rfl

theorem shedCheck_checksKept (p : Part) : ChecksKept p (shedCheck p) := .of_kept (by simp)

/-- Frames received. -/
theorem effect_frame_checksKept {c : Instr} {n : StationNo} (sender : senderOf c = some n) (p : Part) :
    ChecksKept p (effect c p) := by
  cases c <;> simp only [senderOf, reduceCtorEq] at sender
  case timeFrame => exact receive_checksKept _ _ _ p (takeTime_checksKept _)
  case shedFrame =>
    exact receive_checksKept _ _ _ p fun q => fromBayPost_checksKept _ _ q (.of_kept (by simp))
  case loadFrame =>
    exact receive_checksKept _ _ _ p fun q =>
      fromBayPost_checksKept _ _ q ((arrivesIfGood_checksKept _ q).trans (shedCheck_checksKept _))
  case baystateFrame => exact receive_checksKept _ _ _ p fun q => fromBayPost_checksKept _ _ q (arrivesIfGood_checksKept _ q)
  case askFrame | reportFrame => exact receive_checksKept _ _ _ p ChecksKept.refl
  case rosterFrame | rosterCancel => exact receive_checksKept _ _ _ p (takeRosterFrame_checksKept _)
  case orderHold o => exact receive_checksKept _ _ _ p fun q => takeOrder_checksKept _ _ q (holdEffect_checksKept o q)
  case orderUnhold => exact receive_checksKept _ _ _ p fun q => takeOrder_checksKept _ _ q (unholdEffect_checksKept q)
  case orderLanepass => exact receive_checksKept _ _ _ p fun q => takeOrder_checksKept _ _ q (lanepassEffect_checksKept q)
  case orderReadfaults | orderClearstored =>
    exact receive_checksKept _ _ _ p fun q => takeOrder_checksKept _ _ q (faultRequest_checksKept _ q)
  case orderBayreset => exact receive_checksKept _ _ _ p fun q => takeOrder_checksKept _ _ q (bayReset_checksKept q)
  all_goals exact receive_checksKept _ _ _ p fun q => takeOrder_checksKept _ _ q (.of_kept (by simp))

/-- Every effect keeps clearance, the fault list and the roster cache. -/
theorem effect_checksKept (c : Instr) (p : Part) : ChecksKept p (effect c p) := by
  cases sender : senderOf c with
  | some n => exact effect_frame_checksKept sender p
  | none =>
    cases c <;> simp only [senderOf, reduceCtorEq] at sender
    case ping | ident | hold | release | lamps | fcount | fread | fclear => exact chosen_checksKept _ p
    case idle | wait | data | last | ack | refuse | garbledWord => exact coachWord_checksKept _ p
    case waitCountExpiry => exact waitCountEnds_checksKept p
    case recoveryEnd => exact recoveryEnds_checksKept p
    case startTimerExpiry => exact startTimerExpires_checksKept p
    case coupleSenseRise => exact coupleRises_checksKept p
    case decouple => exact coupleFalls_checksKept p
    case heatFrameBoundary => exact boundary_checksKept p
    case refhiConversionEnd code => exact refhiEnds_checksKept code p
    case startUp | resetAsserted => rfl
    case secondEnd => exact secondEnds_checksKept p
    case timeSilenceExpiry => exact timeSilenceExpires_checksKept p
    case shedComplete => exact completion_checksKept .shed p
    case loadComplete => exact completion_checksKept .load p
    case baystateComplete => exact completion_checksKept .baystate p
    case askComplete => exact completion_checksKept .ask p
    case reportComplete => exact completion_checksKept .report p
    case peerAgeing60s n => exact peerAges_checksKept n.toNat p
    case ghostAgeing180s n => exact ghostAges_checksKept n.toNat p
    case refloConversionEnd code => exact refloEnds_checksKept code p
    case temperatureConversionEnd code => exact temperatureEnds_checksKept code p
    case lampConversionEnd code => exact lampEnds_checksKept code p
    case settleTimerExpiry => exact settleExpires_checksKept p
    case departButtonPress => exact departPress_checksKept p
    case holdRetryExpiry => exact holdRetryExpires_checksKept p
    case clearanceCountExpiry => exact clearanceCountEnds_checksKept p
    case tooEarlyOverlayEnd => exact tooEarlyEnds_checksKept p
    case askCountExpiry => exact askCountEnds_checksKept p
    case sounderRunEnd => exact chirpsEnd_checksKept p
    all_goals rw [effect]; exact .of_kept (by simp)

/-! ## Every step -/

theorem started_checks (straps : Straps) : ClearanceInvs (Part.started straps)
    ∧ FaultListInv (Part.started straps) ∧ RosterInv (Part.started straps) := by
  have initial : ∀ p, AllInvariants p → ClearanceInvs p ∧ FaultListInv p ∧ RosterInv p := by
    rintro p ⟨-, -, -, -, -, -, -, -, clear, shown, faults, roster, -⟩
    exact ⟨⟨clear, shown⟩, faults, roster⟩
  unfold Part.started
  split
  · exact initial _ (allInvariants_initial _)
  · exact initial _ (allInvariants_strapFault _)

/-- Time that passes on an empty queue changes nothing that the checks read. -/
theorem tick_checksKept (p : Part) : ChecksKept p (Part.tick p) := by
  unfold Part.tick
  split
  · rfl
  · exact .of_kept ⟨rfl, rfl, rfl, rfl, rfl, rfl, id, id⟩

/-- A part that falls inactive keeps its blocks. -/
theorem inactive_checksKept (p : Part) : ChecksKept p { p with mode := .inactive } :=
  .of_kept ⟨rfl, rfl, rfl, rfl, rfl, rfl, id, id⟩

/-- Settles O57: no effect takes a bay into RELEASING or CLEARED but with checks that pass, and none writes a lamp's verdict or begins a
check there. -/
theorem everyStepKeepsClearance : Obligations.EveryStepKeepsClearance := by
  intro s t hs h
  refine step_keeps (I := ClearanceInvs) (fun p => (tick_checksKept p).1) (fun straps => (started_checks straps).1)
    (fun p => (inactive_checksKept p).1) (fun c p _ hp => ?_) hs h
  obtain ⟨clear, -⟩ := effect_checksKept c p
  exact clear hp

/-- Settles O58: reads install their records in class order, completions their BAY entries in position, and the cache stays in order under
every frame and minute. -/
theorem everyStepKeepsFaultListAndRosterCache : Obligations.EveryStepKeepsFaultListAndRosterCache := by
  intro s t hs h
  have kept {p q : Part} (same : ChecksKept p q) (hp : FaultListInv p ∧ RosterInv p) : FaultListInv q ∧ RosterInv q := by
    obtain ⟨-, faults, roster⟩ := same
    exact hp.imp faults roster
  exact step_keeps (I := fun p => FaultListInv p ∧ RosterInv p) (fun p => kept (tick_checksKept p))
    (fun straps => (started_checks straps).2) (fun p => kept (inactive_checksKept p))
    (fun c p _ => kept (effect_checksKept c p)) hs h

end Sys2Proof.Machine
end

section
/-! Requests for a sweep or an operation of the fault list, by the status that receives them, and the classes of merged records (R144,
R159, R161). -/

namespace Sys2Proof.Machine

/-! ## Requests (R144, R161) -/

theorem sweepRequest_unchanged (p : Part) : unchangedExcept [.sweep] p (sweepRequest p) := by
  intro b hb
  cases b <;> simp_all [agreeOn]

theorem faultRequest_unchanged (kind : OpKind) (p : Part) : unchangedExcept [.faults, .link] p (faultRequest kind p) := by
  intro b hb
  cases b <;> simp_all [agreeOn]

theorem closedToChecks_iff (b : BayState) : closedToChecks b = true ↔ b = .releasing ∨ b = .cleared := by
  cases b <;> simp [closedToChecks]

theorem closedToChecks_eq_false {b : BayState} (notReleasing : b ≠ .releasing) (notCleared : b ≠ .cleared) :
    closedToChecks b = false := by
  simpa [notReleasing, notCleared] using (closedToChecks_iff b).not

section
variable {kind : OpKind} {p : Part}

/-- In RELEASING and CLEARED an idle fault list starts nothing. -/
theorem faultRequest_closed (idle : p.faults.status = .idle) (closed : closedToChecks p.bay.state = true) :
    faultRequest kind p = p := by
  simp [faultRequest, idle, closed]

/-- Nor does it while the link is DOWN. -/
theorem faultRequest_down (idle : p.faults.status = .idle) (down : p.link.state = .down) : faultRequest kind p = p := by
  simp [faultRequest, idle, down]

/-- While the link starts or is LOST the operation waits for it. -/
theorem faultRequest_waits (idle : p.faults.status = .idle) (open_ : closedToChecks p.bay.state = false)
    (off : p.link.state = .starting ∨ p.link.state = .lost) : faultRequest kind p = waitOperation (some kind) p := by
  obtain starting | lost := off
  · simp [faultRequest, idle, open_, starting]
  · simp [faultRequest, idle, open_, lost]

/-- A waiting operation becomes one that clears where that is asked for. -/
theorem faultRequest_waiting (waiting : p.faults.status = .waiting) : faultRequest .read p = p
    ∧ faultRequest .clearAndRead p = { p with faults := { p.faults with kind := some .clearAndRead } } := by
  simp [faultRequest, waiting]

/-- One in progress takes no request. -/
theorem faultRequest_busy (busy : p.faults.status = .clearing ∨ p.faults.status = .counting ∨ p.faults.status = .reading) :
    faultRequest kind p = p := by
  obtain clearing | counting | reading := busy
  · simp [faultRequest, clearing]
  · simp [faultRequest, counting]
  · simp [faultRequest, reading]

end

/-- An operation starts with its first command in the slot (R161, R166). -/
theorem startOperation_begins (kind : OpKind) (p : Part) :
    (startOperation kind p).faults = { p.faults with
        status := (match kind with | .read => .counting | .clearAndRead => .clearing)
        kind := some kind, toRead := none, nextIndex := none, staging := [], rejected := 0 }
      ∧ (startOperation kind p).link.slots.faults = some {
        code := (match kind with | .read => .fcount | .clearAndRead => .fclear), arg := 0 } := by
  cases kind <;> exact ⟨rfl, rfl⟩

/-! ## Classes (R159) -/

theorem safetySystem_iff (s : Nat) : safetySystem s = true ↔ s ∈ [1, 2, 3, 4, 6, 13] := by
  simp [safetySystem, or_assoc]

theorem warnSystem_iff (s : Nat) : warnSystem s = true ↔ s ∈ [0, 5, 7, 9, 11, 12] := by
  simp [warnSystem, or_assoc]

section
variable {r : Staged}

/-- A SAFETY system's record is BLOCK or WARN by its state and count. -/
theorem classOf_safety (safety : safetySystem r.system = true) : classOf r
    = if r.state = .active ∨ (r.state = .intermittent ∧ 3 ≤ r.count) then .block else .warn := by
  unfold classOf
  rw [if_pos safety]
  cases r.state <;> simp

theorem classOf_warn (other : safetySystem r.system = false) (warn : warnSystem r.system = true) : classOf r = .warn := by
  simp [classOf, other, warn]

theorem classOf_info (other : safetySystem r.system = false) (mild : warnSystem r.system = false) : classOf r = .info := by
  simp [classOf, other, mild]

end

/-- No system is of two kinds, and the three systems left are of neither. -/
theorem systems_apart : (∀ s ∈ [0, 5, 7, 9, 11, 12], safetySystem s = false)
    ∧ ∀ s ∈ [8, 10, 15], safetySystem s = false ∧ warnSystem s = false := by
  decide

/-- Settles O40, by the status and state that receive a request, and by the systems' kinds. -/
theorem requestsByStatusAndClassesOfRecords : Obligations.RequestsByStatusAndClassesOfRecords := by
  obtain ⟨warnApart, infoApart⟩ := systems_apart
  refine ⟨fun p => ⟨?_, sweepRequest_unchanged p⟩, fun p kind => ⟨?_, ?_, ?_, ?_, ?_, ?_, faultRequest_unchanged kind p⟩,
    fun r => ⟨fun safety => ?_, fun warn => ?_, fun info => ?_⟩⟩
  · rw [sweepRequest_sweep]
    split_ifs <;> rfl
  · exact fun idle closed => faultRequest_closed idle ((closedToChecks_iff _).mpr closed)
  · exact faultRequest_down
  · intro idle notReleasing notCleared up
    have open_ := closedToChecks_eq_false notReleasing notCleared
    rw [faultRequest_starts idle open_ up]
    exact startOperation_begins kind p
  · intro idle notReleasing notCleared off
    have open_ := closedToChecks_eq_false notReleasing notCleared
    rw [faultRequest_waits idle open_ off]
    exact ⟨rfl, rfl⟩
  · exact faultRequest_waiting
  · exact faultRequest_busy
  · rw [classOf_safety ((safetySystem_iff _).mpr safety)]
    split <;> simp_all
  · exact classOf_warn (warnApart _ warn) ((warnSystem_iff _).mpr warn)
  · obtain ⟨other, mild⟩ := infoApart _ info
    exact classOf_info other mild

end Sys2Proof.Machine
end

section
/-! The ACK to the ending's LAMPS: the verdicts in the lamp table, the BAY entries that follow them, and the sweep's completion (R150, R151,
R152, R168). -/

namespace Sys2Proof.Machine

/-! ## Verdicts (R150) -/

/-- A lamp that passed is OK. -/
theorem verdictOf_passed {w : Work} (passed : w.first.2 = .pass) : verdictOf w = (.ok, none) := by
  simp [verdictOf, passed]

/-- The verdict and the decisive reading of a lamp that failed in pass 1 with one reading, by its judgement in pass 2 with another. -/
def Judgement.decides (first second : Nat) : Judgement → Verdict × Option Nat
  | .pass => (.flicker, some first)
  | .low => (.low, some second)
  | .high => (.high, some second)

/-- One that failed has the verdict of pass 2: FLICKER, by the reading of pass 1, where it passed there, and else what it failed by. -/
theorem verdictOf_failed {w : Work} {reading : Nat} {j : Judgement} (failed : w.first.2 ≠ .pass)
    (second : w.second = some (reading, j)) : verdictOf w = Judgement.decides w.first.1 reading j := by
  unfold verdictOf
  rw [second]
  cases first : w.first.2 with
  | pass => exact absurd first failed
  | low | high => cases j <;> rfl

/-! ## The lamp table and the BAY entries (R151, R152, R168) -/

/-- A fitted position takes verdict and reading of its working verdicts, and the minute. -/
theorem writeLamp_fitted {work : List Work} {l : Lamp} {fit : LampType × Nat} {w : Work} (minute : Nat)
    (fitted : l.fit = some fit) (found : work.find? (fun w => w.position == l.position) = some w) :
    writeLamp work minute l = { l with verdict := (verdictOf w).1, reading := (verdictOf w).2, minute := some minute } := by
  simp only [writeLamp, fitted, found]

/-- The entry that a lamp stands for: BLOCK for LOW and HIGH, WARN for FLICKER (R152). -/
theorem bayClass_shown (l : Lamp) : (Lamp.bayClass l).map (fun c => (l.position, c))
    = if l.fit.isSome ∧ (l.verdict = .low ∨ l.verdict = .high) then some (l.position, FaultClass.block)
      else if l.fit.isSome ∧ l.verdict = .flicker then some (l.position, FaultClass.warn) else none := by
  unfold Lamp.bayClass
  cases l.fit with
  | none => simp
  | some fit => cases l.verdict <;> simp [instructionOf]

/-- An entry at a position that held none is first read at the completion (R168). -/
theorem bayEntries_firstRead {minute : Nat} {held : List BayEntry} {lamps : List Lamp} {e : BayEntry}
    (he : e ∈ bayEntries minute held lamps) (new : ∀ x ∈ held, x.position ≠ e.position) : e.firstRead = minute := by
  obtain ⟨l, -, entry⟩ := List.mem_filterMap.mp he
  have position := bayEntryOf_position entry
  have none_ : held.find? (fun x => x.position == l.position) = none := by
    rw [List.find?_eq_none]
    intro x hx
    simpa [← position] using new x hx
  unfold bayEntryOf at entry
  split at entry
  · obtain rfl := Option.some.inj entry
    simp only [none_]
  · cases entry

/-! ## The completion -/

/-- Without a running sweep an evaluation leaves sweep and heat frame. -/
theorem evaluate_keeps_sweep {p : Part} (stopped : SweepStatus.isRunning p.sweep.status = false) :
    (evaluate p).sweep = p.sweep ∧ (evaluate p).heat = p.heat := by
  have nothing : ∀ q : Part, SweepStatus.isRunning q.sweep.status = false → sweepAbort true q = q := fun q h =>
    if_neg (by simp [h])
  obtain same | same | ⟨-, new, -, same⟩ | ⟨-, same⟩ := evaluate_cases p
  · simp [same]
  · simp [same]
  · simp [same]
  · rw [same, enterReleasing_eq, releasePlaced, nothing _ (by simpa using stopped)]
    simp

theorem evaluate_sweepCompleted (p : Part) : (evaluate (sweepCompleted p)).sweep = (sweepCompleted p).sweep
    ∧ (evaluate (sweepCompleted p)).heat = (sweepCompleted p).heat :=
  evaluate_keeps_sweep rfl

/-- The LAMPS of the ending completes the sweep (R149, R151). -/
theorem lampsOutcome_completes {p : Part} {pass : Pass} (waits : p.sweep.lightsOff ≠ .inFlight)
    (running : p.sweep.status = .running pass .ending) : lampsOutcome .answered p = evaluate (sweepCompleted p) := by
  rw [← completeSweep_eq]
  simp [lampsOutcome, waits, running]

theorem sweepCompleted_unchanged (p : Part) : unchangedExcept [.lamps, .sweep, .faults, .heat] p (sweepCompleted p) := by
  intro b hb
  cases b <;> simp_all [agreeOn, sweepCompleted]

/-- What the answer of the ending leaves of the checks, told from the part before it. -/
theorem sweepCompleted_acked (p : Part) : (sweepCompleted (acked p)).lamps = Part.lampsWritten p
    ∧ (sweepCompleted (acked p)).faults.bay = bayEntries p.clock.minute p.faults.bay (Part.lampsWritten p)
    ∧ (sweepCompleted (acked p)).faults.coach = p.faults.coach
    ∧ (sweepCompleted (acked p)).sweep = { p.sweep with
        status := .complete, settle := none, work := []
        last := some { minute := p.clock.minute, dated := p.clock.status != .invalid } }
    ∧ (sweepCompleted (acked p)).heat = { p.heat with sweepRunning := false } := by
  simp [sweepCompleted, Part.lampsWritten, Part.completionNow, Part.dated]

/-- Settles O39: the part is evaluated with no sweep running, so nothing that the completion has written is written again. -/
theorem endingAckCompletesTheSweep : Obligations.EndingAckCompletesTheSweep := by
  intro s f pass mode link flight listens lamps empty waits running
  have told : effect .ack s.part = evaluate (sweepCompleted (acked s.part)) := by
    rw [effect, coachWord_ack link flight listens empty (by rw [lamps]; rfl)]
    simp only [ackOutcome, lamps]
    exact lampsOutcome_completes (by simpa using waits) (by simpa using running)
  obtain ⟨written, entries, coach, sweep, heat⟩ := sweepCompleted_acked s.part
  obtain ⟨keptSweep, keptHeat⟩ := evaluate_sweepCompleted (acked s.part)
  obtain ⟨keptCoach, keptBay, -⟩ := evaluate_faults (sweepCompleted (acked s.part))
  refine completes_normal mode (by simp) (by simp) ?_
  rw [told, keptSweep, keptHeat, keptCoach, keptBay, sweep, heat, coach, entries]
  simp only [evaluate_keeps, written]
  refine ⟨trivial, trivial, by simp [Part.lampsWritten], fun i l at_ unfitted => ?_, fun i l fit work at_ fitted found => ?_, ?_,
    fun e he new => bayEntries_firstRead he new, trivial, ?_⟩
  · simp [Part.lampsWritten, at_, writeLamp_unfitted unfitted]
  · refine ⟨writeLamp s.part.sweep.work s.part.clock.minute l, by simp [Part.lampsWritten, at_], ?_⟩
    rw [writeLamp_fitted s.part.clock.minute fitted found]
    refine ⟨rfl, rfl, rfl, fun passed => ?_, fun failed reading second => ?_, fun failed reading second => ?_,
      fun failed reading second => ?_⟩
    · rw [verdictOf_passed passed]
      exact ⟨rfl, rfl⟩
    all_goals
      rw [verdictOf_failed failed second]
      exact ⟨rfl, rfl⟩
  · rw [bayEntries_shown]
    exact congrArg (List.filterMap · (Part.lampsWritten s.part)) (funext bayClass_shown)
  · have completed := (acked_unchanged s.part).trans (sweepCompleted_unchanged (acked s.part))
      (blocks := [.osc, .link, .lamps, .sweep, .faults, .heat]) (by decide) (by decide)
    exact completed.trans (evaluate_unchanged _) (by decide) (by decide)

end Sys2Proof.Machine
end

section
/-! SETTLE_TIMER_EXPIRY and LAMP_CONVERSION_END: the marks of a group, the judgement of a reading, and what a group and a pass are (R146
to R150). -/

namespace Sys2Proof.Machine

/-! ## Groups, masks and passes (R146) -/

/-- Bit k of a number made of bits is the k-th of them. -/
theorem bitsOf_testBit (bs : List Bool) (k : Nat) : (bitsOf bs).testBit k = bs.getD k false := by
  induction bs generalizing k with
  | nil => simp [bitsOf]
  | cons b bs ih =>
    cases k with
    | zero => cases b <;> simp [bitsOf, Nat.testBit_zero, Nat.add_mul_mod_self_left]
    | succ k =>
      rw [Nat.testBit_succ, List.getD_cons_succ, ← ih]
      congr 1
      have bit := Bool.toNat_le b
      rw [bitsOf]
      omega

theorem maskOf_getLsbD {group : Nat} {positions : List Nat} {k : Nat} (below : k < 4) :
    (maskOf group positions).getLsbD k = positions.contains (4 * group + k) := by
  rw [maskOf, BitVec.getLsbD_ofNat, bitsOf_testBit]
  simp [below]

/-- The next group is the lowest of the four, from a number on, that holds one of the positions. -/
theorem nextGroup_eq_some (positions : List Nat) (from_ g : Nat) : nextGroup positions from_ = some g ↔
    g < 4 ∧ from_ ≤ g ∧ (∃ q ∈ positions, q / 4 = g) ∧ ∀ q ∈ positions, from_ ≤ q / 4 → g ≤ q / 4 := by
  rw [nextGroup, List.find?_range_eq_some]
  simp only [groupOf, Bool.and_eq_true, decide_eq_true_eq, List.any_eq_true, beq_iff_eq, List.mem_range]
  constructor
  · rintro ⟨⟨from_le, holds⟩, below, lowest⟩
    refine ⟨below, from_le, holds, fun q hq le => ?_⟩
    by_contra lower
    have skipped := lowest (q / 4) (Nat.not_le.mp lower)
    simp only [Bool.not_eq_true', Bool.and_eq_false_iff, decide_eq_false_iff_not, List.any_eq_false, beq_iff_eq] at skipped
    obtain early | none_ := skipped
    · exact early le
    · exact none_ q hq rfl
  · rintro ⟨below, from_le, holds, lowest⟩
    refine ⟨⟨from_le, holds⟩, below, fun j lower => ?_⟩
    simp only [Bool.not_eq_true', Bool.and_eq_false_iff, decide_eq_false_iff_not, List.any_eq_false, beq_iff_eq]
    refine or_iff_not_imp_left.mpr fun later q hq group => ?_
    have le := lowest q hq (by rw [group]; exact not_not.mp later)
    omega

theorem mem_passPositions_first (p : Part) (position : Nat) :
    position ∈ Part.passPositions p .first ↔ ∃ l ∈ p.lamps, l.position = position ∧ l.fit.isSome := by
  simp only [Part.passPositions, Part.fitted, List.mem_map, List.mem_filter, and_assoc]
  exact exists_congr fun l => and_congr_right fun _ => and_comm

theorem mem_passPositions_second (p : Part) (position : Nat) :
    position ∈ Part.passPositions p .second ↔ ∃ w ∈ p.sweep.work, w.position = position ∧ w.first.2 ≠ .pass := by
  have fails : ∀ j : Judgement, Judgement.fails j = true ↔ j ≠ .pass := fun j => by cases j <;> simp [Judgement.fails]
  simp only [Part.passPositions, Part.failed, List.mem_map, List.mem_filter, fails, and_assoc]
  exact exists_congr fun w => and_congr_right fun _ => and_comm

/-! ## The settle timer (R147) -/

/-- The expiry, as one update of the part. -/
theorem settleExpires_eq {p : Part} {t : Moment} {pass : Pass} {group : Nat} {mask : BitVec 4}
    (settle : p.sweep.settle = some t) (settling : p.sweep.status = .running pass (.settling group mask)) :
    settleExpires p = { p with
      osc := max p.osc t
      sweep := { p.sweep with settle := none, status := .running pass (.converting group mask) }
      measure := { p.measure with marks := namedPositions group mask } } := by
  simp [settleExpires, settle, settling, setPhase, advanceTo]

theorem mem_namedPositions_iff_bit (group : Nat) (mask : BitVec 4) (position : Nat) : position ∈ namedPositions group mask
    ↔ ∃ k, k < 4 ∧ mask.getLsbD k = true ∧ position = 4 * group + k := by
  simp only [namedPositions, List.mem_map, List.mem_filter, List.mem_range, and_assoc, eq_comm]

/-! ## The end of a lamp conversion (R148, R149) -/

theorem judgeLamp_eq (nominal code : Nat) : judgeLamp nominal code
    = if 1020 ≤ code ∨ nominal * 3 / 2 < code then .high else if code < nominal * 5 / 8 then .low else .pass := by
  unfold judgeLamp
  by_cases full : 1020 ≤ code
  · simp [full]
  · simp only [full, if_false, false_or]

/-- The conversion of a lamp that ends is the one carried over a boundary, or else that of the step in progress (R85, R99). -/
theorem takeConversion_lamp {p : Part} {position : Nat} (converts : p.measure.ending = some (.lamp position)
      ∨ p.measure.converting = some (.lamp position) ∧ ∀ k, p.measure.ending ≠ some (.lamp k)) :
    ∃ q before, takeConversion Conversion.isLamp p = some (.lamp position, q, before)
      ∧ q.measure.marks = p.measure.marks ∧ unchangedExcept [.osc, .measure] p q := by
  obtain carried | ⟨converting, notCarried⟩ := converts
  · exact ⟨_, _, takeConversion_carried carried rfl, rfl, unchanged_of_osc_measure p _ _⟩
  · have other : ∀ d, p.measure.ending = some d → Conversion.isLamp d = false := by
      intro d carried
      cases d with
      | lamp k => exact absurd carried (notCarried k)
      | _ => rfl
    exact ⟨_, _, takeConversion_inStep other converting rfl, rfl, unchanged_of_osc_measure p _ _⟩

/-- The part whose mark of a position has been removed (R97). -/
def markRemoved (position : Nat) (p : Part) : Part :=
  { p with measure := { p.measure with marks := p.measure.marks.filter fun m => m != position } }

/-- The part whose working verdicts have taken the reading of a position (R148). -/
def readingTaken (pass : Pass) (position code : Nat) (p : Part) : Part :=
  { p with sweep := { p.sweep with
      work := recordReading pass position (code, judgeLamp (Part.nominalOf p position) code) p.sweep.work } }

theorem lampEnds_taken {code : Code} {p q : Part} {position : Nat} {before : Bool}
    (taken : takeConversion Conversion.isLamp p = some (.lamp position, q, before)) :
    lampEnds code p = takeLampCode position code.toNat (markRemoved position q) := by
  simp only [lampEnds, taken, markRemoved]

/-- In CONVERTING the reading is taken, and with the last mark the sweep moves on (R149). -/
theorem takeLampCode_converting {p : Part} {pass : Pass} {group : Nat} {mask : BitVec 4} (position code : Nat)
    (converting : p.sweep.status = .running pass (.converting group mask)) : takeLampCode position code p
      = if p.measure.marks = [] then moveOn pass (group + 1) (readingTaken pass position code p)
        else readingTaken pass position code p := by
  simp only [takeLampCode, converting, readingTaken, List.isEmpty_iff]

/-- `w` is the part whose lamp code of a position has been judged in a pass, its mark removed and the reading recorded, while the sweep
has yet to move on (R97, R148). -/
def CodeRecorded (pass : Pass) (position code : Nat) (p w : Part) : Prop :=
  w.measure.marks = p.measure.marks.filter (fun m => m != position)
    ∧ w.sweep = { p.sweep with
        work := recordReading pass position (code, judgeLamp (Part.nominalOf p position) code) p.sweep.work }
    ∧ unchangedExcept [.osc, .measure, .sweep] p w

/-- The code of a conversion that ends in CONVERTING is recorded before the sweep goes on. -/
theorem lampEnds_converting {p : Part} (code : Code) {position group : Nat} {pass : Pass} {mask : BitVec 4}
    (converts : p.measure.ending = some (.lamp position)
      ∨ p.measure.converting = some (.lamp position) ∧ ∀ k, p.measure.ending ≠ some (.lamp k))
    (converting : p.sweep.status = .running pass (.converting group mask)) :
    ∃ w, CodeRecorded pass position code.toNat p w
      ∧ lampEnds code p = if w.measure.marks = [] then moveOn pass (group + 1) w else w := by
  obtain ⟨q, before, taken, marks, same⟩ := takeConversion_lamp converts
  have sweep : p.sweep = q.sweep := same .sweep (by decide)
  have lamps : p.lamps = q.lamps := same .lamps (by decide)
  refine ⟨readingTaken pass position code.toNat (markRemoved position q), ⟨?_, ?_, fun b hb => ?_⟩, ?_⟩
  · rw [← marks]
    rfl
  · simp only [readingTaken, markRemoved, Part.nominalOf, sweep, lamps]
  · have kept := same b (by simp_all)
    cases b <;> simp_all [agreeOn, readingTaken, markRemoved]
  · rw [lampEnds_taken taken, takeLampCode_converting position code.toNat (sweep ▸ converting)]
    rfl

/-- Settles O38: the expiry as one update, the end of a conversion by the reading taken, and the definitions of mask, group and pass. -/
theorem settledLampsAreJudged : Obligations.SettledLampsAreJudged := by
  refine ⟨fun s t pass group mask mode settle settling => completes_normal mode (by simp) (by simp) ?_,
    fun s code position nominal pass group mask j mode converts converting hn hj =>
      completes_normal mode (by simp) (by simp) ?_,
    fun positions group k below => ?_, nextGroup_eq_some, fun p position => ⟨mem_passPositions_first p position,
      mem_passPositions_second p position⟩⟩
  · rw [effect, settleExpires_eq settle settling]
    refine ⟨rfl, rfl, rfl, mem_namedPositions_iff_bit group mask, fun b hb => ?_⟩
    cases b <;> simp_all [agreeOn]
  · rw [← judgeLamp_eq, hn] at hj
    obtain ⟨w, ⟨marks, sweep, same⟩, ends⟩ := lampEnds_converting code converts converting
    rw [← hj] at sweep
    have link : s.part.link = w.link := same .link (by decide)
    rw [effect, ends]
    split
    · next empty =>
      have moved := moveOn_movedOn pass (group + 1) w
      have kept : unchangedExcept [.link, .sweep] w (moveOn pass (group + 1) w) := fun b hb => by
        cases b <;> simp_all [agreeOn]
      refine ⟨by simp [marks], ?_, ?_, ?_, fun _ => moved, same.trans kept (by decide) (by decide)⟩
      · rintro rfl
        simp [sweep, recordReading]
      · rintro rfl
        simp [sweep, recordReading]
      · intro more
        simp [empty] at more
    · next more =>
      refine ⟨marks, ?_, ?_, fun _ => ⟨by rw [sweep], link.symm⟩, fun empty => absurd empty more,
        fun b hb => same b (by simp_all)⟩
      · rintro rfl
        simp [sweep, recordReading]
      · rintro rfl
        simp [sweep, recordReading]
  · rw [maskOf_getLsbD below, List.contains_iff_mem]

end Sys2Proof.Machine
end

section
/-! The coach record of an FREAD, taken or rejected (R158), and how a record merges with one of its key (R162). -/

namespace Sys2Proof.Machine

/-! ## The record (R158) -/

/-- A state field of two bits names a state unless it is 0. -/
theorem faultStateOf_eq {n : Nat} (fits : n < 4) : faultStateOf n
    = if n = 0 then none else some (if n = 1 then .active else if n = 2 then .stored else .intermittent) := by
  match n, fits with
  | 0, _ | 1, _ | 2, _ | 3, _ => rfl

/-- When a record is rejected, and its fields where it is not. -/
theorem recordOf_eq (order : Nat) (w0 w1 : Word16) (rest : List Word16) {aged freeze : Nat}
    (ageFlag : aged = w1.toNat / 8192 % 2) (freezeCount : freeze = w1.toNat / 1024 % 8) :
    recordOf order (w0 :: w1 :: rest)
      = if rest.length ≠ aged + freeze ∨ 4 < freeze ∨ w1.toNat / 16384 = 0 ∨ w1.toNat % 256 = 0 then none
        else some {
          system := if w0.toNat / 4096 = 14 then 15 else w0.toNat / 4096
          code := w0.toNat % 4096
          state := if w1.toNat / 16384 = 1 then .active else if w1.toNat / 16384 = 2 then .stored else .intermittent
          count := w1.toNat % 256
          age := if aged = 1 then rest.head?.map BitVec.toNat else none
          order := order } := by
  have twoBits : w1.toNat / 16384 < 4 := by have := w1.isLt; omega
  have formed : (decide (rest.length = aged + freeze) && decide (freeze ≤ 4) && w1.toNat % 256 != 0) = true
      ↔ ¬(rest.length ≠ aged + freeze ∨ 4 < freeze ∨ w1.toNat % 256 = 0) := by
    simp [and_assoc]
  unfold recordOf
  simp only [← ageFlag, ← freezeCount, faultStateOf_eq twoBits]
  by_cases malformed : rest.length ≠ aged + freeze ∨ 4 < freeze ∨ w1.toNat % 256 = 0
  · rw [if_neg fun good => formed.mp good malformed, if_pos (by tauto)]
  · rw [if_pos (formed.mpr malformed)]
    by_cases stateless : w1.toNat / 16384 = 0
    · simp [stateless]
    · obtain ⟨whole, few, counted⟩ : rest.length = aged + freeze ∧ ¬4 < freeze ∧ w1.toNat % 256 ≠ 0 := by tauto
      simp [stateless, whole, few, counted]

/-! ## Merging (R162) -/

theorem Staged.sameKey_iff (x r : Staged) : Staged.sameKey x r = true ↔ x.system = r.system ∧ x.code = r.code := by
  simp [Staged.sameKey]

theorem Staged.sameKey_eq_false {x r : Staged} (other : ¬(x.system = r.system ∧ x.code = r.code)) :
    Staged.sameKey x r = false :=
  Bool.eq_false_iff.mpr fun same => other ((Staged.sameKey_iff x r).mp same)

/-- A record joins the first one staged that bears its key. -/
theorem mergeStaged_joins {r x : Staged} {before : List Staged} (after : List Staged) (same : Staged.sameKey x r = true)
    (others : ∀ y ∈ before, Staged.sameKey y r = false) :
    mergeStaged r (before ++ x :: after) = before ++ Staged.merge x r :: after := by
  induction before with
  | nil => exact if_pos same
  | cons y ys ih =>
    obtain ⟨here, rest⟩ := List.forall_mem_cons.mp others
    rw [List.cons_append, mergeStaged, if_neg (by simp [here]), ih rest, List.cons_append]

/-- ACTIVE stands above INTERMITTENT, and INTERMITTENT above STORED. -/
theorem FaultState.higher_eq (a b : FaultState) : FaultState.higher a b
    = if a = .active ∨ b = .active then .active else if a = .intermittent ∨ b = .intermittent then .intermittent else .stored := by
  cases a <;> cases b <;> rfl

end Sys2Proof.Machine
end

section
/-! The coach link's LAST that answers FCOUNT or FREAD (R158, R160, R162, R163): the next record is read, or the read completes. -/

namespace Sys2Proof.Machine

/-! ## The completion of a read (R163) -/

/-- What a read installs looks at clock, COACH and BAY entries of the part before it. -/
theorem readInstalled_congr {staged : List Staged} {rejected : Nat} {p w q : Part} (clock : w.clock = p.clock)
    (coach : w.faults.coach = p.faults.coach) (bay : w.faults.bay = p.faults.bay) (h : ReadInstalled staged rejected w q) :
    ReadInstalled staged rejected p q := by
  simpa only [ReadInstalled, clock, coach, bay] using h

/-! ## FCOUNT (R162) -/

/-- The part that holds the number of records to read. -/
def recordsCounted (records : Nat) (p : Part) : Part := { p with faults := { p.faults with toRead := some records } }

/-- An FCOUNT that its operation waits for completes the read where there is nothing to read, and reads record 0 otherwise. -/
theorem faultOutcome_count {p : Part} (n : Nat) (counting : p.faults.status = .counting) (free : p.link.slots.faults = none) :
    faultOutcome .fcount (.count n) p
      = if Part.recordsToRead p n = 0 then completeRead (recordsCounted (Part.recordsToRead p n) p)
        else placeRead 0 (recordsCounted (Part.recordsToRead p n) p) := by
  simp [faultOutcome, counting, free, OpStatus.command, recordsCounted]

/-! ## FREAD (R158, R162) -/

/-- An FREAD that its operation waits for has its record handled. -/
theorem faultOutcome_record {p : Part} (words : List Word16) (reading : p.faults.status = .reading)
    (free : p.link.slots.faults = none) : faultOutcome .fread (.record words) p = takeRecord words p := by
  simp [faultOutcome, reading, free, OpStatus.command]

/-- Judging a record writes the staging set where it is taken, and the count of the rejected where it is not. -/
theorem recordStaged_eq {words : List Word16} {p : Part} {staged : List Staged} {rejected : Nat}
    (taken : ∀ r, recordOf (p.faults.nextIndex.getD 0) words = some r →
      staged = mergeStaged r p.faults.staging ∧ rejected = p.faults.rejected)
    (refused : recordOf (p.faults.nextIndex.getD 0) words = none →
      staged = p.faults.staging ∧ rejected = min 255 (p.faults.rejected + 1)) :
    recordStaged words p = { p with faults := { p.faults with staging := staged, rejected := rejected } } := by
  cases record : recordOf (p.faults.nextIndex.getD 0) words with
  | some r =>
    obtain ⟨rfl, rfl⟩ := taken r record
    simp [recordStaged, record]
  | none =>
    obtain ⟨rfl, rfl⟩ := refused record
    simp [recordStaged, record]

/-! ## The command's end -/

/-- A LAST that fits ends its command with the words gathered. -/
theorem coachWord_last {p : Part} {f : InFlight} {w : Word16} (link : p.link.state ≠ .down)
    (flight : p.link.inFlight = some f) (listens : f.phase ≠ .recovering) (other : f.command.code ≠ .ident)
    (fits : takesLast f.command.code (p.link.gathered ++ [w]) = true) :
    coachWord (.last w) p = lastOutcome f.command (p.link.gathered ++ [w]) (acked p) := by
  rw [coachWord_heard _ link flight listens]
  simp [takeWord, takeLast, other, fits, acked]

/-- Telling the outcome puts no command in flight. -/
theorem lastOutcome_flight (c : Command) (words : List Word16) (p : Part) :
    (lastOutcome c words p).link.inFlight = p.link.inFlight := by
  have kept (code : CommandCode) (o : FaultOutcome) : (faultOutcome code o p).link.inFlight = p.link.inFlight := by
    obtain ⟨-, flight, -⟩ := besidesSlots_fields (faultOutcome_besidesSlots code o p)
    exact flight
  unfold lastOutcome
  split
  · exact kept ..
  · exact kept ..
  · rfl

theorem lastOutcome_unchanged (c : Command) (words : List Word16) (p : Part) :
    unchangedExcept bayBlocks p (lastOutcome c words p) := by
  intro b hb
  cases b <;> simp_all [agreeOn, bayBlocks]

/-- What every LAST that fits leaves: no command in flight, and the blocks that no record reaches. -/
theorem lastOutcome_acked (c : Command) (words : List Word16) (p : Part) :
    (lastOutcome c words (acked p)).link.inFlight = none
      ∧ unchangedExcept (.osc :: bayBlocks) p (lastOutcome c words (acked p)) :=
  ⟨by simp [lastOutcome_flight, acked_link],
    (acked_unchanged p).trans (lastOutcome_unchanged c words _) (by decide) (by decide)⟩

/-- The FCOUNT's answer: the read completes, or FREAD 0 is placed. -/
theorem lastOutcome_count {p : Part} {c : Command} (w : Word16) {n : Nat} (code : c.code = .fcount)
    (counting : p.faults.status = .counting) (free : p.link.slots.faults = none)
    (records : n = min w.toNat (p.faults.memory.getD 0)) :
    (n = 0 → ReadInstalled p.faults.staging p.faults.rejected p (lastOutcome c [w] p))
      ∧ (0 < n → (lastOutcome c [w] p).faults
            = { p.faults with toRead := some n, nextIndex := some 0, status := .reading }
          ∧ (lastOutcome c [w] p).link.slots.faults = some { code := .fread, arg := 0 }) := by
  have told : lastOutcome c [w] p
      = if n = 0 then completeRead (recordsCounted n p) else placeRead 0 (recordsCounted n p) := by
    have outcome := faultOutcome_count w.toNat counting free
    rw [show Part.recordsToRead p w.toNat = n from records.symm] at outcome
    rw [← outcome, lastOutcome, code]
    rfl
  rw [told]
  constructor
  · intro none_
    rw [if_pos none_]
    exact readInstalled_congr rfl rfl rfl (completeRead_installed (recordsCounted n p))
  · intro some_
    rw [if_neg some_.ne']
    exact ⟨rfl, rfl⟩

/-- The FREAD's answer: the next index is read, or the read completes. -/
theorem lastOutcome_record {p : Part} {c : Command} {words : List Word16} {staged : List Staged} {rejected : Nat}
    (code : c.code = .fread) (reading : p.faults.status = .reading) (free : p.link.slots.faults = none)
    (judged : recordStaged words p = { p with faults := { p.faults with staging := staged, rejected := rejected } }) :
    (p.faults.nextIndex.getD 0 + 1 < p.faults.toRead.getD 0 → (lastOutcome c words p).faults
          = { p.faults with nextIndex := some (p.faults.nextIndex.getD 0 + 1), staging := staged, rejected := rejected }
        ∧ (lastOutcome c words p).link.slots.faults
          = some { code := .fread, arg := byteOf (p.faults.nextIndex.getD 0 + 1) })
      ∧ (p.faults.toRead.getD 0 ≤ p.faults.nextIndex.getD 0 + 1 →
          ReadInstalled staged rejected p (lastOutcome c words p)) := by
  have told : lastOutcome c words p = takeRecord words p := by
    simpa [lastOutcome, code] using faultOutcome_record words reading free
  rw [told, takeRecord_eq, judged, nextRecord_eq]
  constructor
  · intro more
    rw [if_neg more.not_ge]
    simp [placeRead, indexRaised, reading, Slots.put]
  · intro last
    rw [if_pos last]
    exact readInstalled_congr rfl rfl rfl (completeRead_installed (indexRaised _))

/-- Settles O37, by the outcome that each answer is to the fault list, and by what a record is and joins. -/
theorem lastAnswersTheFaultList : Obligations.LastAnswersTheFaultList := by
  refine ⟨fun s f w n staged rejected mode link flight listens free => ⟨?count, ?record⟩,
    fun order w0 w1 rest aged freeze ageFlag freezeCount => recordOf_eq order w0 w1 rest ageFlag freezeCount,
    fun r xs new => mergeStaged_new fun x staged => Staged.sameKey_eq_false (new x staged), ?merge⟩
  case count =>
    intro fcount counting empty small records
    refine completes_normal mode (by simp) (by simp) ?_
    rw [effect, coachWord_last link flight listens (by simp [fcount]) (by simp [takesLast, fcount, empty, small]), empty]
    obtain ⟨landed, unchanged⟩ := lastOutcome_acked f.command ([] ++ [w]) s.part
    obtain ⟨completes, goesOn⟩ := lastOutcome_count (p := acked s.part) w fcount (by simpa using counting)
      (by simpa [acked_link] using free) (by simpa using records)
    refine ⟨landed, fun none_ => ?_, fun some_ => ?_, unchanged⟩
    · exact readInstalled_congr (w := acked s.part) (by simp) (by simp) (by simp) (by simpa using completes none_)
    · simpa using goesOn some_
  case record =>
    intro fread reading few many index stagedIs rejectedIs
    refine completes_normal mode (by simp) (by simp) ?_
    have fits : takesLast f.command.code (s.part.link.gathered ++ [w]) = true := by
      simp [takesLast, fread, few, Nat.lt_succ_of_le many]
    rw [effect, coachWord_last link flight listens (by simp [fread]) fits]
    subst index
    rw [Nat.add_sub_cancel] at stagedIs rejectedIs
    have kept : (acked s.part).faults = s.part.faults := by simp
    have judged : recordStaged (s.part.link.gathered ++ [w]) (acked s.part) = { acked s.part with
        faults := { (acked s.part).faults with staging := staged, rejected := rejected } } := by
      refine recordStaged_eq (fun r taken => ?_) fun refused => ?_
      · rw [kept] at taken ⊢
        simp [stagedIs, rejectedIs, taken]
      · rw [kept] at refused ⊢
        simp [stagedIs, rejectedIs, refused]
    obtain ⟨landed, unchanged⟩ := lastOutcome_acked f.command (s.part.link.gathered ++ [w]) s.part
    obtain ⟨goesOn, completes⟩ := lastOutcome_record (p := acked s.part) fread (by simpa using reading)
      (by simpa [acked_link] using free) judged
    refine ⟨landed, fun more => ?_, fun last => ?_, unchanged⟩
    · simpa using goesOn (by simpa using more)
    · exact readInstalled_congr (w := acked s.part) (by simp) (by simp) (by simp) (completes (by simpa using last))
  case merge =>
    intro r x before after system code others
    rw [mergeStaged_joins after ((Staged.sameKey_iff x r).mpr ⟨system, code⟩)
      fun y staged => Staged.sameKey_eq_false (others y staged), Staged.merge, FaultState.higher_eq]
    rfl

end Sys2Proof.Machine
end

section
/-! A press of the depart button (R181): the checks that it asks for, and the evaluation with the window open that follows. -/

namespace Sys2Proof.Machine

/-! ## What a press looks at -/

theorem coachBlock_iff (p : Part) : Part.coachBlock p = true ↔ ∃ e ∈ p.faults.coach, e.cls = .block := by
  simp [Part.coachBlock]

/-- A lamp that fails or is UNKNOWN, or a sweep that is not fresh (R155, R181). -/
theorem sweepDue_iff (p : Part) : (p.lamps.any Lamp.failing || Part.sweepPending p) = true ↔
    (∃ l ∈ p.lamps, l.fit.isSome ∧ (l.verdict = .low ∨ l.verdict = .high ∨ l.verdict = .unknown)) ∨ Part.sweepFresh p = false := by
  simp only [Part.sweepPending, Bool.or_eq_true, Bool.not_eq_true', List.any_eq_true, Lamp.failing, Lamp.unknown,
    Bool.and_eq_true, beq_iff_eq]
  constructor
  · rintro (⟨l, hl, fitted, low | high⟩ | notFresh | ⟨l, hl, fitted, unknown⟩)
    · exact .inl ⟨l, hl, fitted, .inl low⟩
    · exact .inl ⟨l, hl, fitted, .inr (.inl high)⟩
    · exact .inr notFresh
    · exact .inl ⟨l, hl, fitted, .inr (.inr unknown)⟩
  · rintro (⟨l, hl, fitted, low | high | unknown⟩ | notFresh)
    · exact .inl ⟨l, hl, fitted, .inl low⟩
    · exact .inl ⟨l, hl, fitted, .inr high⟩
    · exact .inr (.inr ⟨l, hl, fitted, unknown⟩)
    · exact .inr (.inl notFresh)

/-- A COACH entry of class BLOCK, or a read that is not fresh (R169, R181). -/
theorem readDue_iff (p : Part) : (Part.coachBlock p || !Part.readFresh p) = true ↔
    (∃ e ∈ p.faults.coach, e.cls = .block) ∨ Part.readFresh p = false := by
  simp [coachBlock_iff]

/-- A press in PREPARE, READY or HELD with at most 30 minutes to go opens the window. -/
def Part.departs (p : Part) : Bool := openState p.bay.state && match Part.minutesToDeparture p with
  | some m => decide (m ≤ 30)
  | none => false

theorem departs_iff (p : Part) : Part.departs p = true ↔
    openState p.bay.state = true ∧ ∃ m, Part.minutesToDeparture p = some m ∧ m ≤ 30 := by
  unfold Part.departs
  cases Part.minutesToDeparture p <;> simp

/-! ## The requests -/

theorem requestSweepIf_sweep (due : Bool) (p : Part) :
    (requestSweepIf due p).sweep = if due then (sweepRequest p).sweep else p.sweep := by
  unfold requestSweepIf
  split <;> rfl

theorem sweepRequest_congr {p q : Part} (sweep : q.sweep = p.sweep) : (sweepRequest q).sweep = (sweepRequest p).sweep := by
  rw [sweepRequest_sweep, sweepRequest_sweep, sweep]

/-- A request of the fault list writes of the link its own slot alone. -/
theorem faultRequest_link (kind : OpKind) (p : Part) : (faultRequest kind p).link = { p.link with
    slots := { p.link.slots with faults := (faultRequest kind p).link.slots.faults } } := by
  obtain started | ⟨link, -⟩ := faultRequest_cases kind p
  · rw [started]
    cases kind <;> rfl
  · rw [link]

theorem requestReadIf_faults (due : Bool) (p : Part) :
    (requestReadIf due p).faults = (if due then (faultRequest .read p).faults else p.faults)
      ∧ (requestReadIf due p).link = { p.link with slots := { p.link.slots with
        faults := if due then (faultRequest .read p).link.slots.faults else p.link.slots.faults } } := by
  unfold requestReadIf
  split
  · exact ⟨rfl, faultRequest_link .read p⟩
  · exact ⟨rfl, rfl⟩

/-! ## The press -/

/-- The part with the window open. -/
def windowOpened (p : Part) : Part := { p with bay := { p.bay with window := true } }

/-- The part that a press has evaluated: the window open, the checks requested that are due, RELEASE_REFUSED cleared, and HOLD placed
again where the yard's was refused (R181, R182). -/
def pressed (p : Part) : Part :=
  let swept := requestSweepIf (p.lamps.any Lamp.failing || Part.sweepPending p) (windowOpened p)
  let asked := requestReadIf (Part.coachBlock p || !Part.readFresh p) swept
  let cleared := setReasons { p.bay.reasons with releaseRefused := false } asked
  if p.bay.reasons.yardHoldRefused then
    place .bay .hold { cleared with bay := { cleared.bay with retry := some (p.osc + 30000000) } }
  else cleared

/-- A press by bay state and time to departure. -/
theorem departPress_eq (p : Part) : departPress p = if closedToChecks p.bay.state then p
    else if Part.departs p then evaluate (pressed p) else { p with bay := { p.bay with tooEarly := some p.osc } } := by
  have looked : ∀ due, Part.coachBlock (requestSweepIf due (windowOpened p)) = Part.coachBlock p
      ∧ Part.readFresh (requestSweepIf due (windowOpened p)) = Part.readFresh p := by
    simp [Part.coachBlock, Part.readFresh, windowOpened]
  simp only [windowOpened] at looked
  unfold departPress pressed
  simp only [windowOpened, looked, requestReadIf_keeps, requestSweepIf_keeps, setReasons_bay, setReasons_keeps, holdRetryPeriod]
  rfl

section
variable (p : Part)

theorem pressed_bay : (pressed p).bay = { p.bay with
    window := true, reasons := { p.bay.reasons with releaseRefused := false }
    retry := if p.bay.reasons.yardHoldRefused then some (p.osc + 30000000) else p.bay.retry } := by
  unfold pressed
  dsimp only
  split <;> simp [windowOpened, *]

theorem pressed_sweep : (pressed p).sweep
    = if p.lamps.any Lamp.failing || Part.sweepPending p then (sweepRequest p).sweep else p.sweep := by
  have requested : (pressed p).sweep
      = (requestSweepIf (p.lamps.any Lamp.failing || Part.sweepPending p) (windowOpened p)).sweep := by
    unfold pressed
    dsimp only
    split <;> simp
  have same : (sweepRequest (windowOpened p)).sweep = (sweepRequest p).sweep := sweepRequest_congr rfl
  rw [requested, requestSweepIf_sweep, same]
  rfl

/-- The fault list is asked by what the press finds. -/
theorem requestReadIf_windowOpened (sweepDue due : Bool) :
    (requestReadIf due (requestSweepIf sweepDue (windowOpened p))).faults
      = (if due then (faultRequest .read p).faults else p.faults)
    ∧ (requestReadIf due (requestSweepIf sweepDue (windowOpened p))).link = { p.link with slots := { p.link.slots with
        faults := if due then (faultRequest .read p).link.slots.faults else p.link.slots.faults } } := by
  have faults : (requestSweepIf sweepDue (windowOpened p)).faults = p.faults := by simp [windowOpened]
  have link : (requestSweepIf sweepDue (windowOpened p)).link = p.link := by simp [windowOpened]
  obtain ⟨requested, placed⟩ := requestReadIf_faults due (requestSweepIf sweepDue (windowOpened p))
  obtain ⟨faults', link'⟩ := faultRequest_congr .read (by simp [windowOpened]) faults link
  rw [requested, placed, faults', link', faults, link]
  exact ⟨rfl, rfl⟩

theorem pressed_faults : (pressed p).faults
    = (if Part.coachBlock p || !Part.readFresh p then (faultRequest .read p).faults else p.faults)
    ∧ (pressed p).link = { p.link with slots := { p.link.slots with
        bay := if p.bay.reasons.yardHoldRefused then some { code := .hold, arg := 0 } else p.link.slots.bay
        faults := if Part.coachBlock p || !Part.readFresh p then (faultRequest .read p).link.slots.faults
          else p.link.slots.faults } } := by
  unfold pressed
  dsimp only
  split <;> simp [requestReadIf_windowOpened, place, setSlot, Slots.put, *]

theorem pressed_line : (pressed p).line = Line.raised .baystate p.bay.reasons.releaseRefused p.line := by
  have changed : decide (({ p.bay.reasons with releaseRefused := false } : Reasons) ≠ p.bay.reasons)
      = p.bay.reasons.releaseRefused := by
    obtain ⟨_, _, _, _, _, _, _, _, _, _, refused⟩ := p.bay.reasons
    cases refused <;> simp
  unfold pressed
  dsimp only
  split <;> simp [setReasons_eq, changed, windowOpened]

theorem pressed_unchanged : unchangedExcept [.bay, .sweep, .faults, .link, .line] p (pressed p) := by
  unfold pressed
  intro b hb
  dsimp only
  split <;> cases b <;> simp_all [agreeOn, windowOpened]

/-! ## The evaluation that follows -/

section
variable {p}

theorem evaluate_state_of_opens (opens : openState p.bay.state = true) :
    (evaluate p).bay.state = .held ∨ (evaluate p).bay.state = .prepare ∨ (evaluate p).bay.state = .ready
      ∨ (evaluate p).bay.state = .releasing := by
  rw [(evaluate_placed p opens).2]
  (repeat' split) <;> simp

/-- RELEASING is entered with the window open and the hold confirmed (R179). -/
theorem window_of_releases (opens : openState p.bay.state = true) (releases : (evaluate p).bay.state = .releasing) :
    p.bay.window = true ∧ p.link.holdConfirmed = true := by
  rw [(evaluate_placed p opens).2] at releases
  split_ifs at releases with _ _ may
  exact Bool.and_eq_true _ _ |>.mp may

end

/-- What a press that opens the window ends in. -/
theorem evaluate_pressed (opens : openState p.bay.state = true) :
    (evaluate (pressed p)).bay.window = true ∧ (evaluate (pressed p)).bay.reasons.releaseRefused = false
      ∧ ((evaluate (pressed p)).bay.state ≠ .releasing → (evaluate (pressed p)).sweep = (pressed p).sweep
          ∧ (evaluate (pressed p)).faults = (pressed p).faults ∧ (evaluate (pressed p)).link = (pressed p).link)
      ∧ (p.bay.reasons.yardHoldRefused = true → (evaluate (pressed p)).bay.state = .held
          ∧ (evaluate (pressed p)).bay.retry = (pressed p).bay.retry ∧ (evaluate (pressed p)).link = (pressed p).link)
      ∧ ((evaluate (pressed p)).bay.state = .releasing → p.link.holdConfirmed = true
          ∧ (evaluate (pressed p)).link.slots.bay = some { code := .release, arg := 0 }) := by
  have opens' : openState (pressed p).bay.state = true := by rwa [pressed_bay]
  obtain ⟨latched, retry⟩ := evaluate_latched (pressed p)
  simp only [Reasons.latched, Prod.mk.injEq, pressed_bay] at latched
  obtain ⟨-, -, refused⟩ := latched
  refine ⟨by simp [pressed_bay], refused, fun stays => ?_, fun yard => ?_, fun releases => ⟨?_, ?_⟩⟩
  · obtain ⟨faults, link, sweep⟩ := evaluate_checks (pressed p) stays
    exact ⟨sweep, faults, link⟩
  · have held : (evaluate (pressed p)).bay.state = .held := evaluate_held_of_yard opens' (by rwa [pressed_bay])
    obtain ⟨-, link, -⟩ := evaluate_checks (pressed p) (by simp [held])
    exact ⟨held, retry, link⟩
  · obtain ⟨-, confirmed⟩ := window_of_releases opens' releases
    simpa [pressed_faults] using confirmed
  · exact (evaluate_releases_checks opens' releases).1

end

/-- Settles O44: a press has no effect in RELEASING and CLEARED, is too early where the window may not open, and else evaluates the bay
with the window open and the checks requested that are due. -/
theorem departPressOpensTheWindow : Obligations.DepartPressOpensTheWindow := by
  intro s mode
  have run : effect .departButtonPress s.part = departPress s.part := rfl
  refine ⟨fun closed => ?_, fun early => ?_, fun opens due => ?_⟩
  · have shut : closedToChecks s.part.bay.state = true := by obtain h | h := closed <;> rw [h] <;> rfl
    rw [exec_normal mode (by simp) (by simp), run, departPress_eq, if_pos shut]
  · refine completes_normal mode (by simp) (by simp) ?_
    have open_ : closedToChecks s.part.bay.state = false := by
      obtain h | h | h | ⟨h, -⟩ := early
      iterate 3 rw [h]; rfl
      cases state : s.part.bay.state <;> simp_all [openState, closedToChecks]
    have notLate : Part.departs s.part = false := by
      refine Bool.eq_false_iff.mpr fun late => ?_
      obtain ⟨opens, m, minutes, atMost⟩ := (departs_iff _).mp late
      obtain h | h | h | ⟨-, m', minutes', above⟩ := early
      iterate 3 simp [h, openState] at opens
      obtain rfl := Option.some.inj (minutes'.symm.trans minutes)
      omega
    rw [run, departPress_eq, open_, notLate]
    rfl
  · refine completes_normal mode (by simp) (by simp) ?_
    have open_ : closedToChecks s.part.bay.state = false := by
      cases state : s.part.bay.state <;> simp_all [openState, closedToChecks]
    have press : departPress s.part = evaluate (pressed s.part) := by
      rw [departPress_eq, open_, (departs_iff _).mpr ⟨opens, due⟩]
      rfl
    obtain ⟨window, refused, stays, yard, releases⟩ := evaluate_pressed s.part opens
    obtain ⟨faults, link⟩ := pressed_faults s.part
    have sweep := pressed_sweep s.part
    simp only [readDue_iff, sweepDue_iff] at faults link sweep
    rw [run, press]
    refine ⟨⟨pressed s.part, rfl, pressed_bay _, sweep, faults, link, pressed_line _, pressed_unchanged _⟩, window, refused,
      fun h => ?_, fun h => ?_, evaluate_state_of_opens (by rwa [pressed_bay]), releases, ?_⟩
    · obtain ⟨sweep', faults', link'⟩ := stays h
      exact ⟨sweep'.trans sweep, faults'.trans faults, by rw [link', link]⟩
    · obtain ⟨held, retry, link'⟩ := yard h
      exact ⟨held, by rw [retry, pressed_bay, if_pos h], by rw [link', link, if_pos h]⟩
    · exact (pressed_unchanged _).trans (evaluate_unchanged _) (by decide) (by decide)

end Sys2Proof.Machine
end

section
/-! The ends of the bay controller's timers and counts: hold retry, too-early overlay, chirps, ask count and clearance count (R174, R182,
R185, R188, R189). -/

namespace Sys2Proof.Machine

section
variable {p : Part}

/-- With YARD_HOLD_REFUSED held the retry places HOLD again (R182). -/
theorem holdRetryExpires_eq {t : Moment} (runs : p.bay.retry = some t) : holdRetryExpires p = { p with
    osc := max p.osc t
    bay := { p.bay with retry := none }
    link := { p.link with slots := { p.link.slots with
      bay := if p.bay.reasons.yardHoldRefused then some { code := .hold, arg := 0 } else p.link.slots.bay } } } := by
  cases refused : p.bay.reasons.yardHoldRefused <;>
    simp [holdRetryExpires, runs, refused, advanceTo, place, setSlot, Slots.put]

theorem tooEarlyEnds_eq {t : Moment} (runs : p.bay.tooEarly = some t) : tooEarlyEnds p =
    { p with osc := max p.osc (t + 1500000), bay := { p.bay with tooEarly := none } } := by
  unfold tooEarlyEnds
  rw [runs]
  rfl

theorem chirpsEnd_eq {c : Chirps} (runs : p.bay.chirps = some c) : chirpsEnd p =
    { p with osc := max p.osc (c.start + chirpRun c.cause), bay := { p.bay with chirps := none } } := by
  unfold chirpsEnd
  rw [runs]
  rfl

/-- Wanting a number still, the cache raises ASK again (R174). -/
theorem askCountEnds_eq {coach : Nat} (wants : p.cache.want = some coach) :
    askCountEnds p = { p with cache := { p.cache with askCount := 0 }, line := Line.raised .ask true p.line } := by
  have counted : askCountEnds p = raise .ask { p with cache := { p.cache with askCount := 0 } } := by
    simp [askCountEnds, wants, askCheck]
  rw [counted, raise_eq_raised]

/-- STALE_CLEARANCE at the end of the clearance count (R185). -/
theorem clearanceCountEnds_eq (state : p.bay.state = .cleared) (below : p.bay.clearance < 15) :
    clearanceCountEnds p = { p with
      bay := { p.bay with clearance := 15 }
      remarks := { p.remarks with staleClearance := true }
      line := Line.raised .baystate (decide (p.remarks.staleClearance ≠ true)) p.line } := by
  have counted : clearanceCountEnds p = setRemark .staleClearance true { p with bay := { p.bay with clearance := 15 } } := by
    simp [clearanceCountEnds, state, below, clearanceCheck]
  rw [counted, setRemark_eq]
  rfl

end

/-- Settles O48: each command ends its timer or count at its moment, with what the end asks for and no more. -/
theorem bayTimersAndCountsEnd : Obligations.BayTimersAndCountsEnd := by
  intro s mode
  refine ⟨fun t runs => ?_, fun t runs => ?_, fun c runs => ?_, fun coach wants => ?_, fun state below => ?_⟩
  · have ends : effect .holdRetryExpiry s.part = holdRetryExpires s.part := rfl
    refine completes_normal mode (by simp) (by simp) ?_
    rw [ends, holdRetryExpires_eq runs]
    refine ⟨rfl, rfl, rfl, fun b hb => ?_⟩
    cases b <;> simp_all [agreeOn]
  · exact completes_normal mode (by simp) (by simp) (tooEarlyEnds_eq runs)
  · refine completes_normal mode (by simp) (by simp) ?_
    obtain ⟨cause, start⟩ := c
    cases cause <;> exact chirpsEnd_eq runs
  · have ends : effect .askCountExpiry s.part = askCountEnds s.part := rfl
    refine completes_normal mode (by simp) (by simp) ?_
    rw [ends, askCountEnds_eq wants]
    refine ⟨rfl, fun (other : ¬ s.part.line.tx.map (·.kind) = some .ask) => ?_,
      fun (own : s.part.line.tx.map (·.kind) = some .ask) => ?_, fun b hb => ?_⟩
    · simp [Line.raised, other, SendFlags.put]
    · simp [Line.raised, own, SendFlags.put]
    · cases b <;> simp_all [agreeOn]
  · have ends : effect .clearanceCountExpiry s.part = clearanceCountEnds s.part := rfl
    refine completes_normal mode (by simp) (by simp) ?_
    rw [ends, clearanceCountEnds_eq state below]
    refine ⟨rfl, rfl, fun b hb => ?_⟩
    cases b <;> simp_all [agreeOn]

end Sys2Proof.Machine
end

section
/-! The orders HOLD, UNHOLD and LANEPASS (R186, R191 to R193): refused without a coach, and what each does when taken. -/

namespace Sys2Proof.Machine

/-! ## The refusals (R192) -/

section
variable {p : Part}

theorem noCoach_iff (p : Part) : Part.noCoach p = true ↔ p.bay.state = .empty ∨ p.bay.state = .coupled := by
  simp [Part.noCoach]

theorem stateRefusal_eq (p : Part) :
    Part.stateRefusal p = if p.bay.state = .empty ∨ p.bay.state = .coupled then some .wrongState else none := by
  simp [Part.stateRefusal, noCoach_iff]

theorem holdRefusal_eq (p : Part) : Part.holdRefusal p
    = if p.bay.state = .empty ∨ p.bay.state = .coupled then some .wrongState
      else if p.bay.revocation ≠ .none then some .busy else none := by
  simp [Part.holdRefusal, noCoach_iff]

/-- With a coach the bay is open to judgement, or has released it. -/
theorem held_or_closed (coach : ¬(p.bay.state = .empty ∨ p.bay.state = .coupled)) :
    heldCoach p.bay.state = true ∨ p.bay.state = .releasing ∨ p.bay.state = .cleared := by
  cases state : p.bay.state <;> simp_all [heldCoach]

theorem not_closed_of_held {b : BayState} (held : heldCoach b = true) : closedToChecks b = false := by
  cases b <;> simp_all [heldCoach, closedToChecks]

/-! ## The effects on the bay (R186) -/

/-- The part with the hold reason of an order, still to be judged. -/
def orderHeld (p : Part) : Part := { p with
  bay := { p.bay with reasons := { p.bay.reasons with orderHold := true } }
  line := Line.raised .baystate (!p.bay.reasons.orderHold) p.line }

/-- The part without the hold reasons that UNHOLD clears, still to be judged. -/
def orderUnheld (p : Part) : Part := { p with
  bay := { p.bay with reasons := { p.bay.reasons with orderHold := false, releaseRefused := false } }
  line := Line.raised .baystate (p.bay.reasons.orderHold || p.bay.reasons.releaseRefused) p.line }

/-- The part with a lane pass, still to be judged. -/
def passGiven (p : Part) : Part := { p with bay := { p.bay with lanePass := true, openedAt := none } }

theorem setReasons_orderHeld (p : Part) : setReasons { p.bay.reasons with orderHold := true } p = orderHeld p := by
  have changed : decide (({ p.bay.reasons with orderHold := true } : Reasons) ≠ p.bay.reasons)
      = !p.bay.reasons.orderHold := by
    obtain ⟨_, _, _, _, _, _, _, _, _, hold, _⟩ := p.bay.reasons
    cases hold <;> simp
  rw [setReasons_eq, changed, orderHeld]

theorem setReasons_orderUnheld (p : Part) :
    setReasons { p.bay.reasons with orderHold := false, releaseRefused := false } p = orderUnheld p := by
  have changed : decide (({ p.bay.reasons with orderHold := false, releaseRefused := false } : Reasons) ≠ p.bay.reasons)
      = (p.bay.reasons.orderHold || p.bay.reasons.releaseRefused) := by
    obtain ⟨_, _, _, _, _, _, _, _, _, hold, refused⟩ := p.bay.reasons
    cases hold <;> cases refused <;> simp
  rw [setReasons_eq, changed, orderUnheld]

theorem holdEffect_held (o : Order) (held : heldCoach p.bay.state = true) : holdEffect o p = evaluate (orderHeld p) := by
  rw [← setReasons_orderHeld]
  unfold holdEffect
  split <;> simp_all [heldCoach]

theorem holdEffect_releasing (o : Order) (state : p.bay.state = .releasing) : holdEffect o p = { p with
    bay := { p.bay with revocation := .deferred }
    orders := { p.orders with revocation := some { tag := o.tag, sender := o.sender } } } := by
  simp [holdEffect, state]

theorem holdEffect_cleared (o : Order) (state : p.bay.state = .cleared) : holdEffect o p = place .bay .hold { p with
    bay := { p.bay with revocation := .requested }
    orders := { p.orders with revocation := some { tag := o.tag, sender := o.sender } } } := by
  simp [holdEffect, state]

theorem holdEffect_jobs (o : Order) (p : Part) : (holdEffect o p).orders.jobs = p.orders.jobs := by
  unfold holdEffect
  dsimp only
  split <;> simp

theorem holdEffect_unchanged (o : Order) (p : Part) : unchangedExcept (.orders :: bayBlocks) p (holdEffect o p) := by
  unfold holdEffect
  intro b hb
  dsimp only
  split <;> cases b <;> simp_all [agreeOn, bayBlocks]

theorem unholdEffect_held (held : heldCoach p.bay.state = true) : unholdEffect p = evaluate (orderUnheld p) := by
  rw [← setReasons_orderUnheld, unholdEffect, not_closed_of_held held]
  rfl

theorem unholdEffect_closed (closed : p.bay.state = .releasing ∨ p.bay.state = .cleared) :
    unholdEffect p = if p.bay.revocation = .none then p
      else revocationEnd (.refused .withdrawn) 3 { p with bay := { p.bay with revocation := .none } } := by
  have shut : closedToChecks p.bay.state = true := by obtain h | h := closed <;> rw [h] <;> rfl
  rw [unholdEffect, if_pos shut]
  rfl

theorem unholdEffect_unchanged (p : Part) : unchangedExcept (.orders :: bayBlocks) p (unholdEffect p) := by
  unfold unholdEffect withdrawRevocation
  intro b hb
  (repeat' split) <;> cases b <;> simp_all [agreeOn, bayBlocks]

/-- A pass stays, but where it lets the coach go at once (R183). -/
theorem evaluate_passGiven (p : Part) : (evaluate (passGiven p)).bay.lanePass = true
    ∨ (openState p.bay.state = true ∧ (evaluate (passGiven p)).bay.state = .releasing) := by
  by_cases opens : openState p.bay.state = true
  · rw [evaluate_bay_eq (p := passGiven p) opens]
    by_cases releases : (evaluate (passGiven p)).bay.state = .releasing
    · exact .inr ⟨opens, releases⟩
    · have given : (passGiven p).bay.lanePass = true := rfl
      simp [given, releases]
  · obtain same | same | ⟨opens', -⟩ | ⟨opens', -⟩ := evaluate_cases (passGiven p)
    · rw [same]
      exact .inl rfl
    · rw [same]
      simp [judge, passGiven]
    · exact absurd opens' opens
    · exact absurd opens' opens

end

/-! ## The jobs (R191, R193) -/

/-- The job that an order leaves in the queue. -/
theorem queueJob_job (o : Order) (kind : Byte) (outcome : JobOutcome) (p : Part) {jobs : List Job} (kept : p.orders.jobs = jobs) :
    ∃ j, (queueJob (jobOf o kind none outcome) p).orders.jobs = jobs ++ [j] ∧ j.tag = o.tag ∧ j.kind = kind
      ∧ j.sender = o.sender ∧ j.outcome = outcome :=
  ⟨jobOf o kind none outcome, by rw [queueJob_orders_jobs, kept], rfl, rfl, rfl, rfl⟩

/-- The part that an order without effect leaves. -/
theorem judgeOrder_refused_ends {o : Order} {r : OrderRule} {p : Part} {reason : RefusalReason}
    (refused : r.refused (orderEnds p) = some reason) (shows : r.show? = none) :
    (judgeOrder o r (orderEnds p)).orders.jobs = p.orders.jobs ++ [jobOf o r.kind none (.refused reason)]
      ∧ unchangedExcept [.osc, .line, .orders] p (judgeOrder o r (orderEnds p)) := by
  rw [judgeOrder_refused refused, shows]
  exact ⟨rfl, (orderEnds_unchanged p).trans (queueJob_unchanged _ _) (by decide) (by decide)⟩

/-- An order that has an evaluation made, as its frame's end and its job leave the rest. -/
theorem queueJob_unchanged_ends {p q : Part} (j : Job) (effect : unchangedExcept (.orders :: bayBlocks) (orderEnds p) q) :
    unchangedExcept ([.osc, .orders] ++ bayBlocks) p (queueJob j q) := by
  have ended := (orderEnds_unchanged p).trans effect (blocks := [.osc, .orders] ++ bayBlocks) (by decide) (by decide)
  exact ended.trans (queueJob_unchanged j q) (by decide) (by decide)

/-! ## The orders on the line -/

section
variable {p : Part}

theorem orderEnds_keeps (p : Part) : (orderEnds p).bay = p.bay ∧ (orderEnds p).orders = p.orders :=
  ⟨(orderEnds_unchanged p .bay (by decide)).symm, (orderEnds_unchanged p .orders (by decide)).symm⟩

/-- The line is counted from the frame's end, at which the order's effect takes place. -/
theorem lineAfter_queued (j : Job) (p : Part) {w : Part} (osc : w.osc = (orderEnds p).osc) :
    Part.lineAfter p (queueJob j (evaluate w)).osc = (orderEnds p).line := by
  have kept : (queueJob j (evaluate w)).osc = w.osc := by simp
  rw [kept, osc]
  rfl

/-- HOLD taken begins a revocation in RELEASING and CLEARED, whose outcome is PENDING (R193). -/
theorem judgeOrder_hold (o : Order) (coach : ¬(p.bay.state = .empty ∨ p.bay.state = .coupled)) (free : p.bay.revocation = .none) :
    judgeOrder o (holdRule o) p
      = queueJob (jobOf o 3 none (if p.bay.state = .releasing ∨ p.bay.state = .cleared then .pending else .taken))
        (holdEffect o p) := by
  have outcome : holdTaken p.bay.state
      = if p.bay.state = .releasing ∨ p.bay.state = .cleared then .pending else .taken := by
    cases p.bay.state <;> rfl
  rw [← outcome]
  exact judgeOrder_taken ((holdRefusal_eq p).trans (by rw [if_neg coach, if_neg (not_not.mpr free)]))

theorem judgeOrder_unhold (o : Order) (coach : ¬(p.bay.state = .empty ∨ p.bay.state = .coupled)) :
    judgeOrder o unholdRule p = queueJob (jobOf o 4 none .taken) (unholdEffect p) :=
  judgeOrder_taken ((stateRefusal_eq p).trans (if_neg coach))

theorem judgeOrder_lanepass (o : Order) (coach : ¬(p.bay.state = .empty ∨ p.bay.state = .coupled)) :
    judgeOrder o lanepassRule p = queueJob (jobOf o 5 none .taken) (evaluate (passGiven p)) :=
  judgeOrder_taken ((stateRefusal_eq p).trans (if_neg coach))

/-- UNHOLD ends a revocation that stands, with its own job behind it (R186, R193). -/
theorem unhold_withdraws (o : Order) {w : Part} (ends : w.bay.state = .releasing ∨ w.bay.state = .cleared)
    (orders : w.orders = p.orders) (stands : w.bay.revocation ≠ .none) :
    RevocationEnded (.refused .withdrawn) [jobOf o 4 none .taken] p (queueJob (jobOf o 4 none .taken) (unholdEffect w)) := by
  rw [unholdEffect_closed ends, if_neg stands]
  exact revocationEnded_congr (w := { w with bay := { w.bay with revocation := .none } }) orders
    (revocationEnd_ended _ [jobOf o 4 none .taken] _ _ rfl)

theorem unholdEffect_revocation {w : Part} (ends : w.bay.state = .releasing ∨ w.bay.state = .cleared) :
    (unholdEffect w).bay = { w.bay with revocation := .none } := by
  rw [unholdEffect_closed ends]
  split
  · next free => rw [← free]
  · simp

end

/-- Settles O51: without a coach the three orders are refused; with one HOLD and UNHOLD judge a coach held, and begin or withdraw a
revocation of one released; LANEPASS has the bay judged with its pass. -/
theorem bayOrdersAreTakenOrRefused : Obligations.BayOrdersAreTakenOrRefused := by
  intro s o none_ mode other own room vacant
  have since := orderEnds_unchanged s.part
  obtain ⟨bay, orders⟩ := orderEnds_keeps s.part
  have jobs : (orderEnds s.part).orders.jobs = s.part.orders.jobs := by rw [orders]
  have held : effect (.orderHold o) s.part = judgeOrder o (holdRule o) (orderEnds s.part) := receive_order _ other own room
  have unheld : effect (.orderUnhold o) s.part = judgeOrder o unholdRule (orderEnds s.part) := receive_order _ other own room
  have passed : effect (.orderLanepass o) s.part = judgeOrder o lanepassRule (orderEnds s.part) :=
    receive_order _ other own room
  rw [← bay] at vacant
  refine ⟨fun empty => ?_, fun coach busy => ?_, fun coach free => ?_, fun coach => ?_, fun coach => ?_⟩
  · rintro c code (⟨rfl, rfl⟩ | ⟨rfl, rfl⟩ | ⟨rfl, rfl⟩) <;> refine completes_normal mode (by simp) (by simp) ?_
    · rw [held]
      exact judgeOrder_refused_ends ((holdRefusal_eq _).trans (if_pos (vacant.mp empty))) rfl
    · rw [unheld]
      exact judgeOrder_refused_ends ((stateRefusal_eq _).trans (if_pos (vacant.mp empty))) rfl
    · rw [passed]
      exact judgeOrder_refused_ends ((stateRefusal_eq _).trans (if_pos (vacant.mp empty))) rfl
  · refine completes_normal mode (by simp) (by simp) ?_
    rw [held]
    refine judgeOrder_refused_ends ((holdRefusal_eq _).trans ?_) rfl
    rw [if_neg (by rwa [← vacant]), if_pos (by rwa [bay])]
  · refine completes_normal mode (by simp) (by simp) ?_
    rw [held, judgeOrder_hold o (by rwa [← vacant]) (by rwa [bay]), ← bay]
    refine ⟨queueJob_job o 3 _ _ (by rw [holdEffect_jobs, jobs]), fun coachHeld => ?_, fun releasing => ?_, fun cleared => ?_,
      queueJob_unchanged_ends _ (holdEffect_unchanged o _)⟩
    · rw [holdEffect_held o coachHeld]
      obtain ⟨latched, -⟩ := evaluate_latched (orderHeld (orderEnds s.part))
      simp only [Reasons.latched, Prod.mk.injEq] at latched
      obtain ⟨-, orderHold, -⟩ := latched
      refine ⟨orderHold, fun notStandby => ?_, orderHeld (orderEnds s.part), rfl, rfl, ?_, ?_⟩
      · refine evaluate_held_of_latched (p := orderHeld (orderEnds s.part)) ?_ (.inl rfl)
        rw [orderHeld]
        cases state : (orderEnds s.part).bay.state <;> simp_all [heldCoach, openState]
      · rw [lineAfter_queued _ s.part (w := orderHeld (orderEnds s.part)) rfl]
        rfl
      · exact since.trans (unchanged_of_bay_line _ _ _) (by decide) (by decide)
    · rw [holdEffect_releasing o releasing]
      exact ⟨rfl, rfl⟩
    · rw [holdEffect_cleared o cleared]
      exact ⟨rfl, rfl, rfl⟩
  · refine completes_normal mode (by simp) (by simp) ?_
    rw [unheld, judgeOrder_unhold o (by rwa [← vacant]), ← bay]
    refine ⟨⟨_, by rw [queueJob_orders_jobs, List.getLast?_concat], rfl, rfl, rfl, rfl⟩, fun coachHeld => ?_,
      fun coachHeld => ?_,
      fun closed => ⟨?_, fun free => ?_, fun stands => unhold_withdraws o closed orders stands⟩,
      queueJob_unchanged_ends _ (unholdEffect_unchanged _)⟩
    · rw [unholdEffect_held coachHeld]
      obtain ⟨latched, -⟩ := evaluate_latched (orderUnheld (orderEnds s.part))
      simp only [Reasons.latched, Prod.mk.injEq] at latched
      obtain ⟨-, orderHold, refused⟩ := latched
      refine ⟨orderHold, refused, orderUnheld (orderEnds s.part), rfl, rfl, ?_, ?_⟩
      · rw [lineAfter_queued _ s.part (w := orderUnheld (orderEnds s.part)) rfl]
        rfl
      · exact since.trans (unchanged_of_bay_line _ _ _) (by decide) (by decide)
    · have kept : (evaluate (orderUnheld (orderEnds s.part))).orders = s.part.orders := by simp [orderUnheld, orders]
      rw [unholdEffect_held coachHeld]
      exact ⟨by rw [(queueJob_keeps_orders _ _).2, kept], _, by rw [queueJob_orders_jobs, kept]⟩
    · exact unholdEffect_revocation closed
    · rw [unholdEffect_closed closed, if_pos free]
      exact ⟨by rw [(queueJob_keeps_orders _ _).2, orders], _, by rw [queueJob_orders_jobs, jobs]⟩
  · refine completes_normal mode (by simp) (by simp) ?_
    rw [passed, judgeOrder_lanepass o (by rwa [← vacant]), ← bay]
    refine ⟨queueJob_job o 5 _ _ ?_, ⟨passGiven (orderEnds s.part), rfl, rfl, ?_, ?_⟩, ?_, queueJob_unchanged_ends _ ?_⟩
    · simp [passGiven, orders]
    · exact (lineAfter_queued _ s.part (w := passGiven (orderEnds s.part)) rfl).symm
    · exact since.trans (unchanged_of_bay_line _ _ _) (by decide) (by decide)
    · exact evaluate_passGiven _
    · have given : unchangedExcept [.bay, .line] (orderEnds s.part) (passGiven (orderEnds s.part)) := unchanged_of_bay_line _ _ _
      exact given.trans (evaluate_unchanged _) (by decide) (by decide)

end Sys2Proof.Machine
end

section
/-! The bay record under the operations of the bay controller: couple sense, identity, roster copy and clock by bay state, the
revocation, and the hold reasons (R175 to R180, R184 to R186, R193). -/

namespace Sys2Proof.Machine

/-! ## The invariants -/

/-- What holds of the bay record but for its reasons. `ordered` says that the order handler holds a revocation order: the bay
controller's operations leave that to who calls them, so it stands apart from the part. -/
structure BayStanding (ordered : Bool) (p : Part) : Prop where
  record : BayInv p
  deferred : p.bay.revocation = .deferred → p.bay.state = .releasing
  requested : p.bay.revocation = .requested → p.bay.state = .cleared
  told : ordered = true ↔ p.bay.revocation ≠ .none
  counted : p.bay.clearance ≤ 15

/-- The same with the reasons, which an evaluation judges. -/
structure BayRecord (ordered : Bool) (p : Part) : Prop where
  standing : BayStanding ordered p
  judged : ReasonInv p

/-- What every step keeps beside couple sense. -/
abbrev BayRecordInv (p : Part) : Prop := BayRecord p.orders.revocation.isSome p

theorem bayRecordInv_iff (p : Part) : BayRecordInv p ↔ BayInv p ∧ RevocationInv p ∧ ReasonInv p := by
  constructor
  · rintro ⟨⟨record, deferred, requested, told, counted⟩, judged⟩
    exact ⟨record, ⟨deferred, requested, told, counted⟩, judged⟩
  · rintro ⟨record, ⟨deferred, requested, told, counted⟩, judged⟩
    exact ⟨⟨record, deferred, requested, told, counted⟩, judged⟩

/-- What these read of the part, but for the reasons. -/
def Part.standingReads (p : Part) : (Bool × BayState × Bool × Bool × Bool) × Revocation × Nat :=
  ((p.bay.couple, p.bay.state, p.bay.identity.isSome, p.bay.roster.isSome, p.clock.status == .invalid),
    p.bay.revocation, p.bay.clearance)

section
variable {ordered : Bool} {p q : Part}

theorem state_of_standingReads (same : Part.standingReads q = Part.standingReads p) : q.bay.state = p.bay.state := by
  simp only [Part.standingReads, Prod.mk.injEq] at same
  obtain ⟨⟨-, state, -⟩, -⟩ := same
  exact state

theorem BayStanding.congr (same : Part.standingReads q = Part.standingReads p) (h : BayStanding ordered p) :
    BayStanding ordered q := by
  obtain ⟨record, deferred, requested, told, counted⟩ := h
  simp only [Part.standingReads, Prod.mk.injEq] at same
  obtain ⟨⟨couple, state, identity, roster, status⟩, revocation, clearance⟩ := same
  have dated : q.clock.status = .invalid ↔ p.clock.status = .invalid := by
    rw [← beq_iff_eq, status, beq_iff_eq]
  refine ⟨?_, by rwa [revocation, state], by rwa [revocation, state], by rwa [revocation], by rwa [clearance]⟩
  rw [BayInv, couple, state, identity, roster]
  simpa only [BayInv, ne_eq, dated] using record

theorem ReasonInv.congr (state : q.bay.state = p.bay.state) (reasons : q.bay.reasons = p.bay.reasons) (h : ReasonInv p) :
    ReasonInv q := by
  rwa [ReasonInv, state, reasons]

/-- Outside EMPTY and COUPLED the bay has couple sense and an identity. -/
theorem BayStanding.coach (h : BayStanding ordered p) (state : p.bay.state ≠ .empty ∧ p.bay.state ≠ .coupled) :
    p.bay.couple = true ∧ p.bay.identity.isSome = true := by
  obtain ⟨couple, identity, -⟩ := h.record
  exact ⟨couple.mpr state.1, identity.mpr state⟩

/-- In STANDBY, PREPARE, READY and HELD no revocation stands. -/
theorem BayStanding.free (h : BayStanding ordered p) (held : heldCoach p.bay.state = true) :
    p.bay.revocation = .none ∧ ordered = false := by
  have free : p.bay.revocation = .none := by
    cases revocation : p.bay.revocation with
    | none => rfl
    | deferred => simp [h.deferred revocation, heldCoach] at held
    | requested => simp [h.requested revocation, heldCoach] at held
  exact ⟨free, by simpa [free] using h.told⟩

/-- A coach held in the bay, with the copy and the clock that its state asks for and no revocation. -/
theorem BayStanding.of_coach (present : q.bay.couple = true ∧ q.bay.identity.isSome = true)
    (state : q.bay.state ≠ .empty ∧ q.bay.state ≠ .coupled)
    (copy : openState q.bay.state = true → q.bay.roster.isSome)
    (dated : openState q.bay.state = true ∨ closedToChecks q.bay.state = true → q.clock.status ≠ .invalid)
    (free : q.bay.revocation = .none) (counted : q.bay.clearance ≤ 15) : BayStanding false q := by
  obtain ⟨couple, identity⟩ := present
  exact ⟨⟨by simp [couple, state], by simp [identity, state], fun _ => identity, copy, dated⟩, by simp [free],
    by simp [free], by simp [free], counted⟩

end

theorem coach_of_held {b : BayState} (h : heldCoach b = true) : b ≠ .empty ∧ b ≠ .coupled := by
  cases b <;> simp_all [heldCoach]

/-- A coach held in STANDBY, without a revocation. -/
theorem BayRecord.of_standby {q : Part} (state : q.bay.state = .standby)
    (present : q.bay.couple = true ∧ q.bay.identity.isSome = true) (free : q.bay.revocation = .none)
    (counted : q.bay.clearance ≤ 15) : BayRecord false q :=
  ⟨.of_coach present (by simp [state]) (by simp [state, openState]) (by simp [state, openState, closedToChecks]) free counted,
    by simp [ReasonInv, state]⟩

/-- A bay without a coach. -/
theorem BayRecord.of_vacant {q : Part} (state : q.bay.state = if q.bay.couple then .coupled else .empty)
    (vacant : q.bay.identity = none ∧ q.bay.roster = none) (reasons : Reasons.any q.bay.reasons = false)
    (free : q.bay.revocation = .none) (counted : q.bay.clearance ≤ 15) : BayRecord false q := by
  obtain ⟨identity, roster⟩ := vacant
  cases couple : q.bay.couple <;> simp only [couple, Bool.false_eq_true, if_true, if_false] at state <;>
    exact ⟨⟨by simp [BayInv, openState, closedToChecks, *], by simp [free], by simp [free], by simp [free], counted⟩,
      by simp [ReasonInv, *]⟩

/-- Without a revocation on either side the invariants hold. -/
theorem BayRecordInv.of_unordered {q : Part} (record : BayRecord false q) (orders : q.orders.revocation = none) :
    BayRecordInv q := by
  rwa [BayRecordInv, orders]

/-! ## The relation -/

/-- The bay record stays true, whether a revocation order stands or not, and none is taken or given up. -/
def RecordKept (p q : Part) : Prop :=
  (∀ ordered, BayRecord ordered p → BayRecord ordered q) ∧ q.orders.revocation.isSome = p.orders.revocation.isSome

@[refl] theorem RecordKept.refl (p : Part) : RecordKept p p := ⟨fun _ => id, rfl⟩

theorem RecordKept.trans {p w q : Part} (first : RecordKept p w) (second : RecordKept w q) : RecordKept p q := by
  obtain ⟨record, orders⟩ := first
  obtain ⟨record', orders'⟩ := second
  exact ⟨fun ordered h => record' ordered (record ordered h), orders'.trans orders⟩

/-- An operation that leaves what is read, and the reasons. -/
theorem RecordKept.of_reads {p q : Part} (same : Part.standingReads q = Part.standingReads p)
    (reasons : q.bay.reasons = p.bay.reasons) (orders : q.orders.revocation.isSome = p.orders.revocation.isSome) :
    RecordKept p q := by
  refine ⟨?_, orders⟩
  rintro ordered ⟨standing, judged⟩
  have state := state_of_standingReads same
  exact ⟨standing.congr same, judged.congr state reasons⟩

/-- An operation that leaves bay record, clock and orders. -/
theorem RecordKept.of_kept {p q : Part}
    (kept : q.bay = p.bay ∧ q.clock = p.clock ∧ q.orders.revocation.isSome = p.orders.revocation.isSome) : RecordKept p q := by
  obtain ⟨bay, clock, orders⟩ := kept
  exact .of_reads (by simp [Part.standingReads, bay, clock]) (by rw [bay]) orders

theorem RecordKept.of_unchanged {blocks : List Block} {p q : Part} (same : unchangedExcept blocks p q)
    (bay : .bay ∉ blocks) (clock : .clock ∉ blocks) (orders : .orders ∉ blocks) : RecordKept p q := by
  have bayKept : p.bay = q.bay := same .bay bay
  have clockKept : p.clock = q.clock := same .clock clock
  have ordersKept : p.orders = q.orders := same .orders orders
  exact .of_kept ⟨bayKept.symm, clockKept.symm, by rw [ordersKept]⟩

/-- An operation of the bay controller's invariants keeps them. -/
theorem BayRecordInv.of_recordKept {p q : Part} (h : BayRecordInv p) (kept : RecordKept p q) : BayRecordInv q := by
  obtain ⟨record, orders⟩ := kept
  rw [BayRecordInv, orders]
  exact record _ h

/-! ## The clearance evaluation (R178, R179) -/

/-- An evaluation of an open state ends in HELD exactly with a reason; in READY and RELEASING there is none. -/
theorem evaluate_reasonInv {p : Part} (opens : openState p.bay.state = true) : ReasonInv (evaluate p) := by
  obtain ⟨reasons, state⟩ := evaluate_placed p opens
  rw [ReasonInv, state, reasons]
  cases any : Reasons.any (Part.judgedReasons p)
  · by_cases pending : Part.sweepPending p = true ∨ Part.readFresh p = false
    · simp [pending]
    · by_cases free : p.bay.window = true ∧ p.link.holdConfirmed = true <;> simp [pending, free]
  · simp

/-- An evaluation judges the reasons of a coach held, and keeps the rest. -/
theorem evaluate_record {ordered : Bool} {p : Part} (h : BayStanding ordered p)
    (judged : heldCoach p.bay.state = true ∨ ReasonInv p) : BayRecord ordered (evaluate p) := by
  by_cases held : heldCoach p.bay.state = true
  · by_cases opens : openState p.bay.state = true
    · obtain ⟨free, rfl⟩ := h.free held
      obtain ⟨-, -, -, copy, dated⟩ := h.record
      refine ⟨.of_coach ?_ ?_ (fun _ => ?_) (fun _ => ?_) ?_ ?_, evaluate_reasonInv opens⟩
      · simpa using h.coach (coach_of_held held)
      · obtain state | state | state | state := evaluate_state_of_opens opens <;> simp [state]
      · simpa using copy opens
      · simpa using dated (.inl opens)
      · simpa using free
      · rw [evaluate_bay_eq opens]
        exact h.counted
    · have standby : p.bay.state = .standby := by cases state : p.bay.state <;> simp_all [heldCoach, openState]
      rw [evaluate_standby p standby]
      refine ⟨h.congr (by simp [Part.standingReads]), ?_⟩
      simp [ReasonInv, standby]
  · rw [evaluate_elsewhere p (by simpa using held)]
    exact ⟨h, judged.resolve_left held⟩

theorem evaluate_recordKept (p : Part) : RecordKept p (evaluate p) :=
  ⟨fun _ h => evaluate_record h.standing (.inr h.judged), by simp⟩

end Sys2Proof.Machine
end

section
/-! What keeps the bay record: the bay controller's operations, from the roster copy to the clearing of the bay (R172 to R187, R193). -/

namespace Sys2Proof.Machine

/-! ## Recomputation, watches and minutes (R6, R102, R180, R185) -/

theorem recompute_recordKept (t : Trigger) (p : Part) : RecordKept p (recompute t p) := .of_kept (by simp)

theorem advanceTo_recordKept (t : Moment) (p : Part) : RecordKept p (advanceTo t p) := .of_kept (by simp)

theorem runWatches_recordKept (p : Part) : RecordKept p (runWatches p) := by
  have reads : ∀ q : Part, q.bay = (runWatches p).bay → q.clock = p.clock → Part.standingReads q = Part.standingReads p
      ∧ q.bay.reasons = p.bay.reasons := by
    intro q bay clock
    rw [Part.standingReads, bay, clock, runWatches_bay]
    split <;> exact ⟨rfl, rfl⟩
  obtain ⟨same, reasons⟩ := reads (runWatches p) rfl (by simp)
  exact .of_reads same reasons (by simp)

theorem noteOpening_recordKept (before : Bool) (p : Part) : RecordKept p (noteOpening before p) :=
  .of_reads (by simp [Part.standingReads, noteOpening_bay]) (by rw [noteOpening_bay]) (by simp)

theorem clearanceCheck_recordKept (p : Part) : RecordKept p (clearanceCheck p) := .of_kept (by simp)

/-- Minutes in CLEARED are counted, at most to 15 (R175). -/
theorem RecordKept.of_counted {p q : Part} {n : Nat} (kept : q.bay = { p.bay with clearance := n } ∧ q.clock = p.clock
    ∧ q.orders.revocation.isSome = p.orders.revocation.isSome) (counted : n ≤ 15) : RecordKept p q := by
  obtain ⟨bay, clock, orders⟩ := kept
  refine ⟨?_, orders⟩
  rintro ordered ⟨⟨record, deferred, requested, told, -⟩, judged⟩
  refine ⟨⟨?_, ?_, ?_, ?_, ?_⟩, ?_⟩
  · rwa [BayInv, bay, clock]
  · rwa [bay]
  · rwa [bay]
  · rwa [bay]
  · rwa [bay]
  · rwa [ReasonInv, bay]

theorem clearanceMinute_recordKept (p : Part) : RecordKept p (clearanceMinute p) := by
  unfold clearanceMinute
  split
  · next below =>
    refine RecordKept.trans ?_ (clearanceCheck_recordKept _)
    exact .of_counted ⟨rfl, rfl, rfl⟩ (by omega)
  · rfl

theorem bayMinute_recordKept (p : Part) : RecordKept p (bayMinute p) := by
  have watched := (runWatches_recordKept p).trans ((noteOpening_recordKept p.bay.window _).trans (evaluate_recordKept _))
  unfold bayMinute
  split
  · exact evaluate_recordKept p
  iterate 3 exact watched
  · exact clearanceMinute_recordKept p
  all_goals rfl

theorem minuteEvent_recordKept (p : Part) : RecordKept p (minuteEvent p) :=
  RecordKept.trans (.of_kept (by simp)) (bayMinute_recordKept (cacheMinute (recompute .minute p)))

/-! ## Changes of bay state, the roster copy and the lookup (R172, R174, R177) -/

/-- A coach in STANDBY goes to PREPARE with its copy under a clock that is not INVALID (R177). -/
theorem tryPrepare_recordKept (p : Part) : RecordKept p (tryPrepare p) := by
  refine ⟨fun ordered h => ?_, by simp⟩
  by_cases prepares : p.bay.state = .standby ∧ p.bay.roster.isSome ∧ p.clock.status ≠ .invalid
  · obtain ⟨standby, copy, dated⟩ := prepares
    obtain ⟨free, rfl⟩ := h.standing.free (by simp [standby, heldCoach])
    rw [tryPrepare_prepares standby copy dated]
    refine evaluate_record (.of_coach ?_ (by simp) (fun _ => ?_) (fun _ => ?_) ?_ ?_) (.inl (by simp [heldCoach]))
    · simpa using h.standing.coach (by simp [standby])
    · simpa using copy
    · simpa using dated
    · simpa using free
    · simpa using h.standing.counted
  · have waits : tryPrepare p = p := by
      unfold tryPrepare
      rw [if_neg (by simpa [and_assoc] using prepares)]
    rwa [waits]

/-- A roster copy of the coach held. -/
theorem BayStanding.withCopy {ordered : Bool} {p q : Part} (h : BayStanding ordered p) (identity : p.bay.identity.isSome = true)
    {c : RosterCopy} (bay : q.bay = { p.bay with roster := some c }) (clock : q.clock = p.clock) : BayStanding ordered q := by
  obtain ⟨⟨couple, held, -, -, dated⟩, deferred, requested, told, counted⟩ := h
  refine ⟨?_, by rwa [bay], by rwa [bay], by rwa [bay], by rwa [bay]⟩
  rw [BayInv, bay, clock]
  exact ⟨couple, held, fun _ => identity, fun _ => rfl, dated⟩

/-- A copy arrives, as the record sees it. -/
theorem RecordKept.of_copy {p q : Part} (identity : p.bay.identity.isSome = true) {c : RosterCopy}
    (bay : q.bay = { p.bay with roster := some c }) (clock : q.clock = p.clock)
    (orders : q.orders.revocation.isSome = p.orders.revocation.isSome) : RecordKept p q :=
  ⟨fun _ h => ⟨h.standing.withCopy identity bay clock, h.judged.congr (by rw [bay]) (by rw [bay])⟩, orders⟩

theorem copyArrives_recordKept (c : RosterCopy) {p : Part} (identity : p.bay.identity.isSome = true) :
    RecordKept p (copyArrives c p) := by
  have copied : RecordKept p (stopAsking { p with bay := { p.bay with roster := some c } }) :=
    .of_copy identity (c := c) (by simp) (by simp) (by simp)
  exact copied.trans ((tryPrepare_recordKept _).trans (recompute_recordKept _ _))

theorem rosterLookup_recordKept (p : Part) : RecordKept p (rosterLookup p) := by
  unfold rosterLookup
  split
  · next d _ held _ =>
    split
    · exact copyArrives_recordKept _ (by simp [held])
    · exact .of_kept (by simp)
  · rfl

/-- The bay in STANDBY with its coach. -/
theorem standBy_record {p : Part} (present : p.bay.couple = true ∧ p.bay.identity.isSome = true)
    (free : p.bay.revocation = .none) (counted : p.bay.clearance ≤ 15) : BayRecord false (standBy p) := by
  refine .of_standby (by simp) (by simpa using present) (by simpa using free) ?_
  simpa [standBy, judge] using counted

theorem setCopy_recordKept (c : RosterCopy) {p : Part} (identity : p.bay.identity.isSome = true) :
    RecordKept p (setCopy c p) := by
  have copied : RecordKept p { p with bay := { p.bay with roster := some c } } := .of_copy identity (c := c) rfl rfl rfl
  unfold setCopy
  split
  · split
    · exact copyArrives_recordKept c identity
    · exact copied.trans (recompute_recordKept _ _)
  · split
    · rfl
    · dsimp only
      have closed : ∀ q, RecordKept q (closeWindowIfEarly q) := by
        intro q
        unfold closeWindowIfEarly
        (repeat' split) <;> exact .of_reads rfl rfl rfl
      refine copied.trans (RecordKept.trans ?_ (recompute_recordKept _ _))
      split
      · exact (closed _).trans ((runWatches_recordKept _).trans (evaluate_recordKept _))
      · exact evaluate_recordKept _

/-- A cancel sends PREPARE, READY and HELD back to STANDBY; RELEASING and CLEARED go on without the copy (R172). -/
theorem removeCopy_recordKept (p : Part) : RecordKept p (removeCopy p) := by
  unfold removeCopy
  split
  · rfl
  · refine RecordKept.trans ?_ (recompute_recordKept _ _)
    dsimp only
    split
    · next opens =>
      refine RecordKept.trans ⟨fun ordered h => ?_, by simp⟩ (rosterLookup_recordKept _)
      have held := held_of_open opens
      obtain ⟨free, rfl⟩ := h.standing.free held
      exact standBy_record (h.standing.coach (coach_of_held held)) free h.standing.counted
    · next shut =>
      refine ⟨?_, rfl⟩
      rintro ordered ⟨⟨⟨couple, identity, -, -, dated⟩, deferred, requested, told, counted⟩, judged⟩
      exact ⟨⟨⟨couple, identity, nofun, fun opens => absurd opens shut, dated⟩, deferred, requested, told, counted⟩, judged⟩

theorem takeRosterFrame_recordKept (b : RosterPayload) (p : Part) : RecordKept p (takeRosterFrame b p) := by
  have cancelled (coach : Nat) : RecordKept p (takeCancel coach p) := by
    unfold takeCancel
    dsimp only
    split
    · refine RecordKept.trans ?_ (removeCopy_recordKept _)
      exact .of_kept ⟨rfl, rfl, rfl⟩
    · exact .of_kept ⟨rfl, rfl, rfl⟩
  have entered (e : RosterEntry) : RecordKept p (takeEntry e p) := by
    unfold takeEntry
    extract_lets _ _ w looked
    have lookedUp : RecordKept p looked := by
      have stored : RecordKept p w := .of_kept ⟨rfl, rfl, rfl⟩
      unfold looked
      split
      · exact stored.trans (rosterLookup_recordKept w)
      · exact stored
    split
    · next named =>
      refine lookedUp.trans (setCopy_recordKept _ ?_)
      obtain ⟨d, held, -⟩ := Option.any_eq_true _ _ |>.mp named
      simp [held]
    · exact lookedUp
  unfold takeRosterFrame
  split
  · rfl
  · split
    · exact cancelled _
    · split
      · exact entered _
      · rfl

/-! ## Release, clearance and revocation (R182 to R186, R193) -/

/-- A return leaves a coach held, and no revocation (R184 to R186). -/
theorem returnToHeld_record (r : ReturnReasons) {ordered : Bool} {p : Part} (h : BayStanding ordered p)
    (closed : closedToChecks p.bay.state = true) : BayRecord false (returnToHeld r p) := by
  have away : p.bay.state ≠ .empty ∧ p.bay.state ≠ .coupled := by cases state : p.bay.state <;> simp_all [closedToChecks]
  have present := h.coach away
  obtain ⟨-, -, -, -, dated⟩ := h.record
  rw [returnToHeld_eq]
  split
  · next copy =>
    refine evaluate_record (.of_coach ?_ (by simp) (fun _ => ?_) (fun _ => ?_) ?_ ?_) (.inl (by simp [heldCoach]))
    · simpa [returning] using present
    · simpa [returning] using copy
    · simpa [returning] using dated (.inr closed)
    · simp [returning]
    · simpa [returning] using h.counted
  · exact (rosterLookup_recordKept _).1 false (standBy_record present rfl h.counted)

theorem revocationEnd_orders (final : JobOutcome) (limit : Nat) (p : Part) :
    (revocationEnd final limit p).orders.revocation = none := by
  unfold revocationEnd
  split
  · next none => exact none
  · split
    · dsimp only
      split <;> rfl
    · rfl

/-- The end of a revocation that the bay no longer has. -/
theorem revocationEnd_record (final : JobOutcome) (limit : Nat) {p : Part} (h : BayRecord false p) :
    BayRecordInv (revocationEnd final limit p) := by
  refine .of_unordered ⟨h.standing.congr ?_, h.judged.congr ?_ ?_⟩ (revocationEnd_orders final limit p)
  · simp [Part.standingReads]
  · simp
  · simp

/-- Without a revocation the order handler holds none. -/
theorem BayStanding.unordered {p : Part} (h : BayStanding p.orders.revocation.isSome p) (free : p.bay.revocation = .none) :
    p.orders.revocation = none := by
  simpa [free] using h.told

theorem returnToHeld_orders (r : ReturnReasons) (p : Part) : (returnToHeld r p).orders = p.orders := by simp

/-- A return, and the end of the revocation that it takes with it. -/
theorem returnEnds_keeps_record (r : ReturnReasons) {revokes : Bool} {p : Part} (h : BayRecordInv p)
    (closed : closedToChecks p.bay.state = true) (free : revokes = false → p.bay.revocation = .none) :
    BayRecordInv (returnEnds revokes r p) := by
  have back := returnToHeld_record r h.standing closed
  unfold returnEnds
  split
  · exact revocationEnd_record .taken _ back
  · next not =>
    refine .of_unordered back ?_
    rw [returnToHeld_orders]
    exact h.standing.unordered (free (by simpa using not))

theorem releaseEnds_keeps_record (refused : Bool) {p : Part} (h : BayRecordInv p) (state : p.bay.state = .releasing) :
    BayRecordInv (releaseEnds refused p) := by
  rw [releaseEnds_eq]
  refine returnEnds_keeps_record _ h (by simp [state, closedToChecks]) fun notDeferred => ?_
  have requested := h.standing.requested
  rw [state] at requested
  cases revocation : p.bay.revocation <;> simp_all

/-- A lane view that revises the entry to RELEASING finds no revocation (R190). -/
theorem laneViewChanged_recordKept (p : Part) : RecordKept p (laneViewChanged p) := by
  unfold laneViewChanged
  split
  · next revised =>
    obtain ⟨state, -, -, free, -⟩ := (entryRevised_iff p).mp revised
    refine ⟨fun ordered h => ?_, by simp⟩
    have unordered : ordered = false := by simpa [free] using h.standing.told
    have withdrawn : RecordKept p (setSlot .bay none p) := .of_kept (by simp)
    rw [unordered]
    exact returnToHeld_record _ (withdrawn.1 ordered h).standing (by simp [state, closedToChecks])
  · exact evaluate_recordKept p

/-- CLEARED keeps the record of RELEASING; a DEFERRED revocation is REQUESTED there (R185, R186). -/
theorem enterCleared_recordKept {p : Part} (state : p.bay.state = .releasing) : RecordKept p (enterCleared p) := by
  have bay : (enterCleared p).bay = { (clearedNow p).bay with
      revocation := if p.bay.revocation = .deferred then .requested else (clearedNow p).bay.revocation } := by
    obtain ⟨-, -, -, -, bay⟩ := enterCleared_blocks p
    exact bay
  have clock : (enterCleared p).clock = p.clock := by simp
  refine ⟨?_, by simp⟩
  rintro ordered ⟨⟨⟨couple, identity, copy, -, dated⟩, -, requested, told, -⟩, judged⟩
  have free : p.bay.revocation ≠ .requested := by simpa [state] using requested
  simp only [state, ne_eq, reduceCtorEq, not_false_eq_true, iff_true, and_self] at couple identity
  simp only [ReasonInv, state] at judged
  refine ⟨⟨?_, ?_, ?_, ?_, ?_⟩, ?_⟩
  · rw [BayInv, bay, clock]
    simp [clearedNow, couple, identity, openState, dated (.inr (by simp [state, closedToChecks]))]
  · rw [bay]
    cases revocation : p.bay.revocation <;> simp [clearedNow, revocation]
  · rw [bay]
    cases revocation : p.bay.revocation <;> simp [clearedNow, revocation]
  · rw [told, bay]
    cases revocation : p.bay.revocation <;> simp [clearedNow, revocation]
  · simp [bay, clearedNow]
  · simp [ReasonInv, bay, clearedNow, judged]

/-- A coach held is judged, whatever its reasons have become. -/
theorem evaluate_keeps_record_of_held {p w : Part} (h : BayRecordInv p) (held : heldCoach p.bay.state = true)
    (reads : Part.standingReads w = Part.standingReads p) (orders : w.orders = p.orders) : BayRecordInv (evaluate w) := by
  have state := state_of_standingReads reads
  have kept : (evaluate w).orders = p.orders := by simp [orders]
  rw [BayRecordInv, kept]
  exact evaluate_record (h.standing.congr reads) (.inl (by rwa [state]))

/-- A HOLD's outcome: a reason of the coach held, or the end of a revocation (R182, R186). -/
theorem holdOutcome_keeps_record (o : BayOutcome) {p : Part} (h : BayRecordInv p) : BayRecordInv (holdOutcome o p) := by
  unfold holdOutcome
  split
  iterate 8
    next state =>
      exact evaluate_keeps_record_of_held h (by rw [state]; rfl) (by simp [Part.standingReads]) (by simp)
  · next state =>
    split
    · exact returnEnds_keeps_record _ h (by rw [state]; rfl) (revokes := true) nofun
    · exact h.of_recordKept (.of_kept (by simp))
  · split
    · exact revocationEnd_record _ _ ⟨⟨h.standing.record, nofun, nofun, by simp, h.standing.counted⟩, h.judged⟩
    · exact h
  all_goals exact h

theorem releaseOutcome_keeps_record (o : BayOutcome) {p : Part} (h : BayRecordInv p) : BayRecordInv (releaseOutcome o p) := by
  unfold releaseOutcome
  split
  · next state => exact h.of_recordKept (enterCleared_recordKept state)
  · next state => exact releaseEnds_keeps_record true h state
  · next state =>
    refine returnEnds_keeps_record _ h (by simp [state, closedToChecks]) fun notRequested => ?_
    have deferred := h.standing.deferred
    rw [state] at deferred
    cases revocation : p.bay.revocation <;> simp_all
  · exact h

theorem bayLinkLost_keeps_record {p : Part} (h : BayRecordInv p) : BayRecordInv (bayLinkLost p) := by
  by_cases state : p.bay.state = .releasing
  · rw [bayLinkLost_releasing state]
    exact releaseEnds_keeps_record false (h.of_recordKept (.of_kept (by simp))) (by simpa using state)
  · rw [bayLinkLost_elsewhere state]
    exact h.of_recordKept (evaluate_recordKept p)

theorem bayNotHeld_recordKept (p : Part) : RecordKept p (bayNotHeld p) := by
  unfold bayNotHeld
  split
  · exact .of_kept (by simp)
  · rfl

/-- A press judges the coach held; elsewhere it starts an overlay alone (R181). -/
theorem departPress_recordKept (p : Part) : RecordKept p (departPress p) := by
  rw [departPress_eq]
  split
  · rfl
  · split
    · next departs =>
      have clock : p.clock = (pressed p).clock := pressed_unchanged p .clock (by decide)
      have orders : p.orders = (pressed p).orders := pressed_unchanged p .orders (by decide)
      obtain ⟨opens, -⟩ := (departs_iff p).mp departs
      refine ⟨fun ordered h => evaluate_record (h.standing.congr ?_) (.inl ?_), by simp [← orders]⟩
      · simp [Part.standingReads, pressed_bay, ← clock]
      · rw [pressed_bay]
        exact held_of_open opens
    · exact .of_reads rfl rfl rfl

/-! ## Identity, and the clearing of the bay (R176, R177, R187) -/

/-- A first identity takes the bay from COUPLED to STANDBY. -/
theorem firstIdentity_recordKept (d : Identity) {p : Part} (state : p.bay.state = .coupled) :
    RecordKept p (firstIdentity d p) := by
  rw [firstIdentity_eq]
  refine RecordKept.trans ⟨fun ordered h => ?_, by simp [identityHeld]⟩ (rosterLookup_recordKept _)
  have free : p.bay.revocation = .none := by
    obtain ⟨-, deferred, requested, -⟩ := h.standing
    rw [state] at deferred requested
    cases revocation : p.bay.revocation <;> simp_all
  obtain ⟨couple, -⟩ := h.standing.record
  have unordered : ordered = false := by simpa [free] using h.standing.told
  rw [unordered]
  refine .of_standby (by simp) (by simp [couple.mpr, state]) ?_ ?_
  · simp [identityHeld, toStandby, free]
  · simpa [identityHeld, toStandby, standBy, judge] using h.standing.counted

theorem coupleFalls_keeps_record {p : Part} (h : BayRecordInv p) : BayRecordInv (coupleFalls p) := by
  cases couple : p.bay.couple with
  | false => rwa [coupleFalls, couple]
  | true =>
    obtain ⟨⟨unordered, -⟩, -⟩ := tearDown_orders (uncoupled p)
    have low : (uncoupled p).bay.couple = false := rfl
    rw [coupleFalls_eq couple]
    exact .of_unordered (.of_vacant (by simp [low]) (by simp) (by simp [Reasons.any]) (by simp) (by simp)) unordered

/-- A coach change leaves a first identity in a bay cleared of the coach before (R140, R177). -/
theorem coachChange_keeps_record (d : Identity) {p : Part} (couple : p.bay.couple = true) : BayRecordInv (coachChange d p) := by
  have state : (bayVacated p).bay.state = .coupled := by simp [bayVacated]
  have vacant : BayRecord false (bayVacated p) := by
    refine .of_vacant ?_ ?_ ?_ ?_ ?_ <;> simp [bayVacated, couple, Reasons.any]
  have unordered : (bayVacated p).orders.revocation = none := by
    obtain ⟨⟨ended, -⟩, -⟩ := tearDown_orders (withdrawLamps (setSlot .faults none (setSlot .bay none p)))
    simpa [bayVacated] using ended
  rw [coachChange_eq]
  exact (BayRecordInv.of_unordered vacant unordered).of_recordKept (firstIdentity_recordKept d state)

theorem bayReset_keeps_record (p : Part) : BayRecordInv (bayReset p) := by
  obtain ⟨⟨ended, -⟩, -⟩ := bayReset_orders (followUp 0 0 .taken) p
  have unordered : (bayReset p).orders.revocation = none := ended
  refine .of_unordered (.of_vacant ?_ ?_ ?_ ?_ ?_) unordered <;> simp [bayReset_bay, Reasons.any]

/-- An identity record reaches a bay with couple sense: a first one, the coach held, or another (R137 to R140). -/
theorem acceptIdentity_keeps_record (d : Identity) {p : Part} (h : BayRecordInv p) (couple : p.bay.couple = true) :
    BayRecordInv (acceptIdentity d p) := by
  unfold acceptIdentity
  extract_lets _ w
  have confirmed : RecordKept p w := .of_kept ⟨rfl, rfl, rfl⟩
  split
  · next fresh =>
    obtain ⟨coupled, held, -⟩ := h.standing.record
    have away := coupled.mp couple
    have state : p.bay.state = .coupled := by
      by_contra notCoupled
      simpa [show p.bay.identity = none from fresh] using held.mpr ⟨away, notCoupled⟩
    exact h.of_recordKept (confirmed.trans (firstIdentity_recordKept d (p := w) state))
  · split
    · have placed : RecordKept w (place .bay .hold w) := .of_kept (by simp)
      have resumed : ∀ q, RecordKept q (operationResumes q) := fun q => .of_kept (by simp)
      exact h.of_recordKept (confirmed.trans (placed.trans ((evaluate_recordKept _).trans (resumed _))))
    · exact coachChange_keeps_record d couple

/-! ## The orders (R186, R192, R193) -/

theorem queueJob_recordKept (j : Job) (p : Part) : RecordKept p (queueJob j p) := .of_kept (by simp)

/-- HOLD taken judges a coach held, or begins a revocation of one released. -/
theorem holdEffect_keeps_record (o : Order) {p : Part} (h : BayRecordInv p) (taken : Part.holdRefusal p = none) :
    BayRecordInv (holdEffect o p) := by
  have coach : ¬(p.bay.state = .empty ∨ p.bay.state = .coupled) := by
    intro empty
    rw [holdRefusal_eq, if_pos empty] at taken
    cases taken
  have ⟨⟨record, _, _, _, counted⟩, judged⟩ := h
  obtain held | state | state := held_or_closed coach
  · rw [holdEffect_held o held]
    exact evaluate_keeps_record_of_held h held (by simp [Part.standingReads, orderHeld]) rfl
  · rw [holdEffect_releasing o state]
    exact ⟨⟨record, fun _ => state, nofun, by simp, counted⟩, judged⟩
  · rw [holdEffect_cleared o state]
    exact ⟨⟨record, nofun, fun _ => state, by simp, counted⟩, judged⟩

/-- UNHOLD taken judges a coach held, or withdraws the revocation of one released. -/
theorem unholdEffect_keeps_record {p : Part} (h : BayRecordInv p) (taken : Part.stateRefusal p = none) :
    BayRecordInv (unholdEffect p) := by
  have coach : ¬(p.bay.state = .empty ∨ p.bay.state = .coupled) := by
    intro empty
    rw [stateRefusal_eq, if_pos empty] at taken
    cases taken
  obtain held | closed := held_or_closed coach
  · rw [unholdEffect_held held]
    exact evaluate_keeps_record_of_held h held (by simp [Part.standingReads, orderUnheld]) rfl
  · rw [unholdEffect_closed closed]
    split
    · exact h
    · exact revocationEnd_record _ _ ⟨⟨h.standing.record, nofun, nofun, by simp, h.standing.counted⟩, h.judged⟩

theorem lanepassEffect_recordKept (p : Part) : RecordKept p (lanepassEffect p) := by
  refine RecordKept.trans ?_ (evaluate_recordKept _)
  exact .of_reads rfl rfl rfl

theorem dropOrder_recordKept (p : Part) : RecordKept p (dropOrder p) := by
  unfold dropOrder
  split <;> exact .of_kept (by simp)

/-- An order keeps the record where its effect does. -/
theorem takeOrder_keeps_record (o : Order) {r : OrderRule} {p : Part} (h : BayRecordInv p)
    (effect : r.refused p = none → BayRecordInv (r.effect p)) : BayRecordInv (takeOrder o r p) := by
  unfold takeOrder
  split
  · split
    · unfold judgeOrder
      split
      · exact h.of_recordKept (queueJob_recordKept _ p)
      · next taken => exact (effect taken).of_recordKept (queueJob_recordKept _ _)
    · exact h.of_recordKept (dropOrder_recordKept p)
  · exact h

end Sys2Proof.Machine
end

section
/-! Couple sense with the bay record under every command (R131, R175 to R179, R186, R193). -/

namespace Sys2Proof.Machine

/-! ## The clock (R6 to R9) -/

/-- The clock may move, but a dated one does not become INVALID. -/
theorem RecordKept.of_clock {p q : Part} (bay : q.bay = p.bay) (dated : p.clock.status ≠ .invalid → q.clock.status ≠ .invalid)
    (orders : q.orders = p.orders) : RecordKept p q := by
  refine ⟨?_, by rw [orders]⟩
  rintro ordered ⟨⟨⟨couple, identity, copy, opens, clock⟩, deferred, requested, told, counted⟩, judged⟩
  refine ⟨⟨?_, by rwa [bay], by rwa [bay], by rwa [bay], by rwa [bay]⟩, judged.congr (by rw [bay]) (by rw [bay])⟩
  rw [BayInv, bay]
  exact ⟨couple, identity, copy, opens, fun states => dated (clock states)⟩

theorem statusChanged_recordKept (p : Part) : RecordKept p (statusChanged p) :=
  (recompute_recordKept .clockStatus p).trans (tryPrepare_recordKept _)

theorem secondEnds_recordKept (p : Part) : RecordKept p (secondEnds p) := by
  have status : (secondEnds p).clock.status = p.clock.status := by rw [secondEnds_clock]
  have ticked : RecordKept p { p with osc := (secondEnds p).osc, clock := (secondEnds p).clock } :=
    .of_clock rfl (by simp [status]) rfl
  rw [secondEnds_eq]
  split
  · exact ticked
  · exact ticked.trans (minuteEvent_recordKept _)

theorem timeSilenceExpires_recordKept (p : Part) : RecordKept p (timeSilenceExpires p) := by
  unfold timeSilenceExpires
  split
  · rfl
  · refine RecordKept.trans ?_ (statusChanged_recordKept _)
    exact .of_clock rfl (fun _ => nofun) rfl

theorem takeTime_recordKept (t : TimePayload) (p : Part) : RecordKept p (takeTime t p) := by
  have told (minute second : Nat) : RecordKept p (statusTold (p.clock.status != .valid) (timeSet minute second p)) := by
    have orders : p.orders = (timeSet minute second p).orders := timeSet_unchanged minute second p .orders (by decide)
    have set : RecordKept p (timeSet minute second p) := .of_clock (by simp) (by simp) orders.symm
    unfold statusTold
    split
    · exact set.trans (statusChanged_recordKept _)
    · exact set
  unfold takeTime
  split
  · rw [adoptTime_eq]
    split
    · exact (told _ _).trans (minuteEvent_recordKept _)
    · exact told _ _
  · rfl

/-! ## Peers and the yard line -/

theorem afterPeers_recordKept (before : List Position) (p : Part) : RecordKept p (afterPeers before p) := by
  have judged : RecordKept p (judgePeers p) := .of_kept ⟨rfl, rfl, rfl⟩
  rw [afterPeers_eq]
  split
  · exact judged
  · exact judged.trans (laneViewChanged_recordKept _)

theorem deletionOf_recordKept (n : Nat) (p : Part) : RecordKept p (deletionOf n p) :=
  RecordKept.trans (w := overflowEnds _) (.of_kept (by simp)) (afterPeers_recordKept _ _)

theorem writePeer_recordKept (e : Peer) (p : Part) : RecordKept p (writePeer e p) := by
  refine RecordKept.trans ?_ (afterPeers_recordKept _ (setEntries (storePeer e p.peers.entries) p))
  exact .of_kept (by simp)

theorem arrivesIfGood_recordKept (f : Option PeerFields) (p : Part) : RecordKept p (arrivesIfGood f p) := by
  unfold arrivesIfGood
  split
  · unfold peerArrives
    split
    · exact writePeer_recordKept _ p
    · exact deletionOf_recordKept _ p
    · split
      · exact writePeer_recordKept _ p
      · split
        · refine RecordKept.trans ?_ (afterPeers_recordKept _ (setEntries _ p))
          exact .of_kept (by simp)
        · exact .of_kept (by simp)
    · rfl
  · rfl

theorem peerAges_recordKept (n : Nat) (p : Part) : RecordKept p (peerAges n p) := by
  unfold peerAges
  split
  · split
    · dsimp only
      split
      · exact (advanceTo_recordKept _ p).trans (writePeer_recordKept _ _)
      · exact (advanceTo_recordKept _ p).trans (deletionOf_recordKept n _)
    · rfl
  · rfl

theorem ghostAges_recordKept (n : Nat) (p : Part) : RecordKept p (ghostAges n p) := by
  unfold ghostAges
  split
  · split
    · exact (advanceTo_recordKept _ p).trans (deletionOf_recordKept n _)
    · rfl
  · rfl

theorem numberClash_recordKept (p : Part) : RecordKept p (numberClash p) := by
  unfold numberClash
  split
  · rfl
  · exact .of_reads (by simp [Part.standingReads]) (by simp) (by simp)

/-- A REPORT that begins fixes its job's total, and takes no revocation order (R195). -/
theorem attemptStarts_recordKept (p : Part) : RecordKept p (attemptStarts p) := by
  have fixed : ∀ q : Part, (fixHeadTotal q).orders.revocation = q.orders.revocation := by
    intro q
    unfold fixHeadTotal
    split <;> rfl
  have begun : ∀ k q, (beginFrame k q).orders.revocation = q.orders.revocation := by
    intro k q
    rw [beginFrame_orders]
    split
    · exact fixed q
    · rfl
  have orders : (attemptStarts p).orders.revocation = p.orders.revocation := by
    unfold attemptStarts
    split
    · rfl
    · dsimp only
      split
      · rw [begun]
        split <;> rfl
      · split <;> rfl
  exact .of_kept ⟨by simp, by simp, by rw [orders]⟩

/-- A report that has carried PENDING marks the revocation order, and takes none (R193). -/
theorem pendingSent_recordKept (j : Job) (p : Part) : RecordKept p (pendingSent j p) := by
  unfold pendingSent
  split
  · exact .of_kept ⟨rfl, rfl, by simp⟩
  · split
    · exact queueJob_recordKept _ p
    · rfl

theorem reportNotice_recordKept (t : Transmission) (p : Part) : RecordKept p (reportNotice t p) := by
  unfold reportNotice
  split
  · split
    · exact .of_kept ⟨rfl, rfl, rfl⟩
    · dsimp only
      split
      · refine RecordKept.trans ?_ (pendingSent_recordKept _ _)
        exact .of_kept ⟨rfl, rfl, rfl⟩
      · exact .of_kept ⟨rfl, rfl, rfl⟩
  · rfl

theorem completion_recordKept (k : SendKind) (p : Part) : RecordKept p (completion k (completionNotice k) p) := by
  obtain same | ⟨t, -, done⟩ := completion_cases k (completionNotice k) p
  · rw [same]
  · rw [done]
    have completed : RecordKept p (frameCompletes t p) := .of_kept (by simp)
    refine completed.trans ?_
    cases k with
    | shed | ask => rfl
    | load => exact .of_kept (by simp [completionNotice])
    | baystate => exact .of_kept (by simp [completionNotice])
    | report => exact reportNotice_recordKept t _

/-! ## Measurement, sweep and fault list -/

theorem takeConversion_recordKept {kind : Conversion → Bool} {p q : Part} {c : Conversion} {before : Bool}
    (h : takeConversion kind p = some (c, q, before)) : RecordKept p q := by
  have kept := takeConversion_keeps h
  exact .of_kept (by simp [kept])

theorem refloEnds_recordKept (code : Code) (p : Part) : RecordKept p (refloEnds code p) := by
  unfold refloEnds
  split
  case h_1 taken => exact (takeConversion_recordKept taken).trans (.of_kept (by simp))
  · rfl

theorem temperatureEnds_recordKept (code : Code) (p : Part) : RecordKept p (temperatureEnds code p) := by
  unfold temperatureEnds
  split
  case h_1 taken =>
    refine (takeConversion_recordKept taken).trans ?_
    (repeat' split) <;> exact .of_kept (by simp)
  · rfl

theorem lampEnds_recordKept (code : Code) (p : Part) : RecordKept p (lampEnds code p) := by
  unfold lampEnds
  split
  case h_1 taken => exact (takeConversion_recordKept taken).trans (.of_kept (by simp))
  · rfl

theorem sweepAbort_recordKept (lightsOff : Bool) (p : Part) : RecordKept p (sweepAbort lightsOff p) := .of_kept (by simp)

theorem setChain_recordKept {new : ChainStatus} (judged : new ≠ .untested) (p : Part) : RecordKept p (setChain new p) := by
  have written : ∀ status, RecordKept p (Part.withChain status p) := fun _ => .of_kept ⟨rfl, rfl, rfl⟩
  obtain ⟨-, -, changed⟩ | ⟨-, -, changed⟩ | ⟨-, changed⟩ := setChain_cases judged p <;> rw [changed]
  · exact (written _).trans ((sweepAbort_recordKept true _).trans (evaluate_recordKept _))
  · exact (written _).trans (evaluate_recordKept _)
  · exact written _

theorem refhiEnds_recordKept (code : Code) (p : Part) : RecordKept p (refhiEnds code p) := by
  unfold refhiEnds
  split
  · next taken =>
    refine (takeConversion_recordKept taken).trans (RecordKept.trans ?_ (setChain_recordKept (by split <;> simp) _))
    split
    · rfl
    · exact .of_kept ⟨rfl, rfl, rfl⟩
  · rfl

theorem completeSweep_recordKept (p : Part) : RecordKept p (completeSweep p) := by
  rw [completeSweep_eq]
  refine RecordKept.trans ?_ (evaluate_recordKept _)
  exact .of_kept ⟨rfl, rfl, rfl⟩

theorem lampsOutcome_recordKept (o : LampsOutcome) (p : Part) : RecordKept p (lampsOutcome o p) := by
  unfold lampsOutcome
  split
  · exact .of_kept ⟨rfl, rfl, rfl⟩
  · split
    · exact .of_kept (by simp)
    · exact completeSweep_recordKept p
    · exact sweepAbort_recordKept true p
    · exact sweepAbort_recordKept false p
    · rfl

theorem completeRead_recordKept (p : Part) : RecordKept p (completeRead p) := by
  rw [completeRead_eq]
  refine RecordKept.trans ?_ (evaluate_recordKept _)
  exact .of_kept (by simp [readCompleted])

theorem placeRead_recordKept (index : Nat) (p : Part) : RecordKept p (placeRead index p) := .of_kept (by simp)

theorem takeRecord_recordKept (words : List Word16) (p : Part) : RecordKept p (takeRecord words p) := by
  have next : ∀ q, RecordKept q (nextRecord q) := by
    intro q
    unfold nextRecord
    dsimp only
    split
    · exact completeRead_recordKept q
    · exact placeRead_recordKept _ q
  refine RecordKept.trans ?_ (next _)
  split <;> exact .of_kept ⟨rfl, rfl, rfl⟩

theorem faultOutcome_recordKept (c : CommandCode) (o : FaultOutcome) (p : Part) : RecordKept p (faultOutcome c o p) := by
  unfold faultOutcome
  split
  · split
    · exact .of_kept (by simp)
    · have counted : ∀ n, RecordKept p { p with faults := { p.faults with toRead := some n } } :=
        fun _ => .of_kept ⟨rfl, rfl, rfl⟩
      dsimp only
      split
      · exact (counted _).trans (completeRead_recordKept _)
      · exact (counted _).trans (placeRead_recordKept 0 _)
    · exact takeRecord_recordKept _ p
    · exact completeRead_recordKept p
    · exact .of_kept (by simp)
  · rfl

/-! ## The bay controller's timers -/

theorem holdRetryExpires_recordKept (p : Part) : RecordKept p (holdRetryExpires p) := by
  unfold holdRetryExpires
  split
  · dsimp only
    split <;> exact .of_reads (by simp [Part.standingReads]) (by simp) (by simp)
  · rfl

theorem clearanceCountEnds_recordKept (p : Part) : RecordKept p (clearanceCountEnds p) := by
  unfold clearanceCountEnds
  split
  · refine RecordKept.trans ?_ (clearanceCheck_recordKept _)
    exact .of_counted ⟨rfl, rfl, rfl⟩ (by omega)
  · rfl

theorem tooEarlyEnds_recordKept (p : Part) : RecordKept p (tooEarlyEnds p) := by
  unfold tooEarlyEnds
  split <;> exact .of_reads rfl rfl rfl

theorem chirpsEnd_recordKept (p : Part) : RecordKept p (chirpsEnd p) := by
  unfold chirpsEnd
  split <;> exact .of_reads rfl rfl rfl

end Sys2Proof.Machine
end

section
/-! Every step keeps the bay record true to the bay state, a revocation to RELEASING and CLEARED, and the hold-reason set non-empty in HELD
and empty where no reason may stand (R131, R175 to R179, R186, R193). -/

namespace Sys2Proof.Machine

/-! ## The invariants with couple sense -/

/-- Couple sense by the link, and the bay record. -/
structure BayInvs (p : Part) : Prop where
  coupled : CoupleInv p
  record : BayRecordInv p

theorem CoupleInv.of_linkKept {p q : Part} (h : CoupleInv p) (kept : LinkKept p q) : CoupleInv q := by
  have state := kept.state
  obtain ⟨record, -⟩ := kept
  simp only [Part.linkRecord, Prod.mk.injEq] at record
  obtain ⟨-, couple, -⟩ := record
  rwa [CoupleInv, couple, state]

section
variable {p q : Part}

theorem BayInvs.of_kept (h : BayInvs p) (link : LinkKept p q) (record : RecordKept p q) : BayInvs q := by
  obtain ⟨coupled, h⟩ := h
  exact ⟨coupled.of_linkKept link, h.of_recordKept record⟩

/-- An update of the link leaves the bay record; couple sense follows where DOWN is neither entered nor left. -/
theorem BayInvs.of_link (h : BayInvs p) (down : q.link.state = .down ↔ p.link.state = .down)
    (rest : unchangedExcept [.osc, .link] p q) : BayInvs q := by
  obtain ⟨coupled, h⟩ := h
  have bay : p.bay = q.bay := rest .bay (by decide)
  refine ⟨?_, h.of_recordKept (.of_unchanged rest (by decide) (by decide) (by decide))⟩
  rwa [CoupleInv, ← bay, ne_eq, down]

theorem BayInvs.couple (h : BayInvs p) (on : p.link.state ≠ .down) : p.bay.couple = true := h.coupled.mpr on

end

/-! ## The link states and the command in flight (R126 to R134) -/

theorem leaveFlight_keeps_bayInvs {p : Part} (h : BayInvs p) : BayInvs (leaveFlight p) :=
  h.of_link .rfl (unchanged_of_osc_link p _ _)

theorem setHold_keeps_bayInvs (v : Bool) {p : Part} (h : BayInvs p) : BayInvs (setHold v p) :=
  h.of_link .rfl (unchanged_of_osc_link p _ _)

theorem answerEnds_keeps_bayInvs {p : Part} (h : BayInvs p) : BayInvs (answerEnds p) := by
  unfold answerEnds
  split
  · exact h.of_link .rfl (unchanged_of_osc_link p _ _)
  · exact h

theorem enterUp_keeps_bayInvs {p : Part} (h : BayInvs p) (on : p.link.state ≠ .down) : BayInvs (enterUp p) :=
  h.of_link (by simp [enterUp, on]) (unchanged_of_osc_link p _ _)

theorem enterLost_keeps_bayInvs {p : Part} (h : BayInvs p) (on : p.link.state ≠ .down) : BayInvs (enterLost p) := by
  have lost : BayInvs (lostNow p) := h.of_link (by simp [lostNow, on]) (unchanged_of_osc_link p _ _)
  have aborted : BayInvs (sweepAbort false (lostNow p)) := lost.of_kept (sweepAbort_linkKept false _) (sweepAbort_recordKept false _)
  have waits : RecordKept (sweepAbort false (lostNow p)) (operationWaits (sweepAbort false (lostNow p))) := .of_kept (by simp)
  refine ⟨aborted.coupled.of_linkKept (enterLost_linkKept p), ?_⟩
  rw [enterLost_eq]
  exact bayLinkLost_keeps_record (aborted.record.of_recordKept waits)

/-- An identity record confirms identity, and leaves the link's state (R137 to R140). -/
theorem acceptIdentity_keeps_coupleInv (d : Identity) {p : Part} (h : CoupleInv p) : CoupleInv (acceptIdentity d p) := by
  unfold acceptIdentity
  extract_lets _ w
  have confirmed : CoupleInv w := h
  split
  · exact confirmed.of_linkKept (firstIdentity_linkKept d w)
  · split
    · have placed : LinkKept w (place .bay .hold w) := .of_kept (by simp)
      have resumed : ∀ q, LinkKept q (operationResumes q) := fun q => .of_kept (by simp)
      exact confirmed.of_linkKept (placed.trans ((evaluate_linkKept _).trans (resumed _)))
    · exact confirmed.of_linkKept (coachChange_linkKept d w)

theorem ackOutcome_keeps_bayInvs (c : Command) {p : Part} (h : BayInvs p) (on : p.link.state ≠ .down) :
    BayInvs (ackOutcome c p) := by
  have held := setHold_keeps_bayInvs true h
  have unheld := setHold_keeps_bayInvs false h
  unfold ackOutcome
  split
  · split
    · exact h
    · exact enterUp_keeps_bayInvs h on
  · exact ⟨held.coupled.of_linkKept (holdOutcome_linkKept _ _), holdOutcome_keeps_record _ held.record⟩
  · exact ⟨unheld.coupled.of_linkKept (releaseOutcome_linkKept _ _), releaseOutcome_keeps_record _ unheld.record⟩
  · exact h.of_kept (lampsOutcome_linkKept _ p) (lampsOutcome_recordKept _ p)
  · exact h.of_kept (faultOutcome_linkKept _ _ p) (faultOutcome_recordKept _ _ p)
  all_goals exact h

theorem lastOutcome_recordKept (c : Command) (words : List Word16) (p : Part) : RecordKept p (lastOutcome c words p) := by
  unfold lastOutcome
  split
  · exact faultOutcome_recordKept _ _ p
  · exact faultOutcome_recordKept _ _ p
  · rfl

theorem refuseOutcome_keeps_bayInvs (c : Command) {p : Part} (h : BayInvs p) : BayInvs (refuseOutcome c p) := by
  have unheld := setHold_keeps_bayInvs false h
  have told : ∀ q, LinkKept q (bayNotHeld q) := fun q => .of_kept (by unfold bayNotHeld; split <;> simp)
  unfold refuseOutcome
  split
  · exact ⟨unheld.coupled.of_linkKept (holdOutcome_linkKept _ _), holdOutcome_keeps_record _ unheld.record⟩
  · exact ⟨h.coupled.of_linkKept (releaseOutcome_linkKept _ p), releaseOutcome_keeps_record _ h.record⟩
  · exact unheld.of_kept ((lampsOutcome_linkKept .notHeld _).trans (told _))
      ((lampsOutcome_recordKept .notHeld _).trans (bayNotHeld_recordKept _))
  · exact h.of_kept (faultOutcome_linkKept _ _ p) (faultOutcome_recordKept _ _ p)
  · exact h

theorem failedOutcome_recordKept (c : Command) (p : Part) : RecordKept p (failedOutcome c p) := by
  unfold failedOutcome
  split
  · exact lampsOutcome_recordKept _ p
  iterate 3 exact faultOutcome_recordKept _ _ p
  · rfl

theorem failCommand_keeps_bayInvs (f : InFlight) {p : Part} (h : BayInvs p) : BayInvs (failCommand f p) := by
  have left := leaveFlight_keeps_bayInvs h
  unfold failCommand
  split
  · exact h.of_link .rfl (unchanged_of_osc_link p _ _)
  · next up _ =>
    have told := failedOutcome_linkKept f.command (leaveFlight p)
    refine enterLost_keeps_bayInvs (left.of_kept told (failedOutcome_recordKept _ _)) ?_
    rw [told.state]
    simp [leaveFlight, up]
  · exact h.of_link .rfl (unchanged_of_osc_link p _ _)
  all_goals exact left

theorem takeWait_keeps_bayInvs (f : InFlight) {p : Part} (h : BayInvs p) : BayInvs (takeWait f p) := by
  unfold takeWait
  dsimp only
  split
  · exact h.of_link .rfl (unchanged_of_osc_link p _ _)
  · exact failCommand_keeps_bayInvs f h

/-- A judged word acts on the command in flight, while the link is not DOWN. -/
theorem takeWord_keeps_bayInvs (f : InFlight) (w : CoachWord) {p : Part} (h : BayInvs p) (on : p.link.state ≠ .down) :
    BayInvs (takeWord f w p) := by
  have ended := answerEnds_keeps_bayInvs h
  have left := leaveFlight_keeps_bayInvs ended
  have on' : (leaveFlight (answerEnds p)).link.state ≠ .down := by simpa [leaveFlight] using on
  have failed := failCommand_keeps_bayInvs f ended
  cases w with
  | idle | wait => exact takeWait_keeps_bayInvs f h
  | data x =>
    unfold takeWord takeData
    dsimp only
    split
    · exact h.of_link .rfl (unchanged_of_osc_link p _ _)
    · exact failCommand_keeps_bayInvs f h
  | last x =>
    unfold takeWord takeLast
    dsimp only
    split
    · split
      · split
        · exact ⟨acceptIdentity_keeps_coupleInv _ left.coupled, acceptIdentity_keeps_record _ left.record (left.couple on')⟩
        · exact failed
      · exact left.of_kept (lastOutcome_linkKept _ _ _) (lastOutcome_recordKept _ _ _)
    · exact failed
  | ack =>
    unfold takeWord takeAck
    dsimp only
    split
    · exact ackOutcome_keeps_bayInvs _ left on'
    · exact failed
  | refuse r =>
    unfold takeWord takeRefuse
    dsimp only
    split
    · exact refuseOutcome_keeps_bayInvs _ left
    · exact failed
  | garbled => exact failCommand_keeps_bayInvs f h

/-! ## Beats, the arbiter and the link's timers (R123 to R125, R128, R132 to R135) -/

theorem coachWord_keeps_bayInvs (w : CoachWord) {p : Part} (h : BayInvs p) : BayInvs (coachWord w p) := by
  have opened : BayInvs (beatOpens p) := h.of_link .rfl (unchanged_of_osc_link p _ _)
  unfold coachWord
  split
  · exact h
  · next on =>
    dsimp only
    split
    · split
      · exact takeWord_keeps_bayInvs _ w opened on
      · exact opened
    · exact opened

theorem waitCountEnds_keeps_bayInvs {p : Part} (h : BayInvs p) : BayInvs (waitCountEnds p) := by
  unfold waitCountEnds
  split
  · split
    · refine takeWait_keeps_bayInvs _ (h.of_link .rfl (unchanged_of_osc_link p _ _))
    · exact h
  · exact h

theorem chosen_keeps_bayInvs (code : CommandCode) {p : Part} (h : BayInvs p) : BayInvs (chosen code p) := by
  obtain ⟨coupled, h⟩ := h
  unfold chosen
  split
  · split
    · exact ⟨coupled, h.of_recordKept (.of_kept (by simp))⟩
    · exact ⟨coupled, h⟩
  · exact ⟨coupled, h⟩

theorem recoveryEnds_keeps_bayInvs {p : Part} (h : BayInvs p) : BayInvs (recoveryEnds p) := by
  unfold recoveryEnds
  split
  · exact h.of_link .rfl (unchanged_of_osc_link p _ _)
  · split
    · exact h.of_link .rfl (unchanged_of_osc_link p _ _)
    · exact h
  · exact h

theorem startTimerExpires_keeps_bayInvs {p : Part} (h : BayInvs p) : BayInvs (startTimerExpires p) := by
  unfold startTimerExpires
  split
  · next starting =>
    exact enterLost_keeps_bayInvs (h.of_link .rfl (unchanged_of_osc_link p _ _)) (by simp [starting])
  · exact h

theorem lostPingExpires_keeps_bayInvs {p : Part} (h : BayInvs p) : BayInvs (lostPingExpires p) := by
  unfold lostPingExpires
  split
  · next t _ _ =>
    obtain ⟨-, -, -, next⟩ := atNextBeat_waits p.link (max p.osc t)
    have state : (Link.atNextBeat p.link (max p.osc t)).state = p.link.state := by rw [next]
    refine h.of_link ?_ (unchanged_of_osc_link p _ _)
    simp [state]
  · exact h

theorem keepAliveExpires_keeps_bayInvs {p : Part} (h : BayInvs p) : BayInvs (keepAliveExpires p) := by
  unfold keepAliveExpires
  split
  · exact h.of_link .rfl (unchanged_of_osc_link p _ _)
  · exact h

/-! ## Couple sense, BAYRESET, the boundary and the chain status -/

/-- Couple sense taken as present puts a bay in EMPTY into COUPLED (R176). -/
theorem coupleRises_keeps_bayInvs {p : Part} (h : BayInvs p) : BayInvs (coupleRises p) := by
  by_cases rises : p.bay.couple = false ∧ p.bay.state = .empty
  · obtain ⟨low, empty⟩ := rises
    obtain ⟨⟨⟨-, identity, copy, -⟩, deferred, requested, told, counted⟩, judged⟩ := h.record
    have free : p.bay.revocation = .none := by
      rw [empty] at deferred requested
      cases revocation : p.bay.revocation <;> simp_all
    have nobody : p.bay.identity = none := by simpa [empty] using identity
    have reasons : Reasons.any p.bay.reasons = false := by simpa [ReasonInv, empty] using judged
    have unordered : p.orders.revocation = none := h.record.standing.unordered free
    rw [coupleRises_eq low empty]
    refine ⟨CoupleInv.of_linkKept ?_ (setBayState_linkKept .coupled _), .of_unordered (.of_vacant ?_ ?_ ?_ ?_ ?_) ?_⟩
    · simp [CoupleInv, linkStart]
    · simp
    · simpa [nobody] using copy
    · simpa using reasons
    · simpa using free
    · simpa using counted
    · simpa using unordered
  · rwa [coupleRises, if_neg rises]

theorem coupleFalls_keeps_bayInvs {p : Part} (h : BayInvs p) : BayInvs (coupleFalls p) := by
  refine ⟨?_, coupleFalls_keeps_record h.record⟩
  cases couple : p.bay.couple with
  | false => simpa [coupleFalls, couple] using h.coupled
  | true =>
    have link : (tearDown (uncoupled p)).link = { beat := p.link.beat } := tearDown_link rfl
    rw [coupleFalls_eq couple, CoupleInv, link]
    simp [uncoupled, linkDown]

theorem bayReset_keeps_bayInvs {p : Part} (h : BayInvs p) : BayInvs (bayReset p) := by
  have begun : CoupleInv (resetBegun p) := by
    unfold resetBegun
    split
    · next couple => simp [CoupleInv, linkStart, couple]
    · exact h.coupled
  exact ⟨begun.of_linkKept (bayReset_linkKept p), bayReset_keeps_record p⟩

/-- A boundary leaves the link's state, where it starts a sweep too (R79, R145). -/
theorem boundary_keeps_link_state (p : Part) : (boundary p).link.state = p.link.state := by
  have started : (judgeSweepStart (frameBegun p)).1.link.state = p.link.state := by
    unfold judgeSweepStart
    split
    · split
      · rfl
      · exact Link.standing_state (by simp [startSweep, frameBegun])
    · rfl
  have rest : (boundary p).link = (judgeSweepStart (frameBegun p)).1.link := by simp [boundary_eq, dutyInForce, frameOpened]
  rw [rest, started]

theorem boundary_keeps_bayInvs {p : Part} (h : BayInvs p) : BayInvs (boundary p) := by
  obtain ⟨coupled, h⟩ := h
  have bay : (boundary p).bay = p.bay := by simp
  refine ⟨?_, h.of_recordKept (.of_kept (by simp))⟩
  rwa [CoupleInv, bay, boundary_keeps_link_state]

/-- A self-test's end leaves couple sense and the link's state, whatever becomes of the chain status (R90). -/
theorem setChain_keeps_coupleInv {new : ChainStatus} (judged : new ≠ .untested) {p : Part} (h : CoupleInv p) :
    CoupleInv (setChain new p) := by
  have written : ∀ status, CoupleInv (Part.withChain status p) := fun _ => h
  obtain ⟨-, -, changed⟩ | ⟨-, -, changed⟩ | ⟨-, changed⟩ := setChain_cases judged p <;> rw [changed]
  · exact (written _).of_linkKept ((sweepAbort_linkKept true _).trans (evaluate_linkKept _))
  · exact (written _).of_linkKept (evaluate_linkKept _)
  · exact written _

theorem refhiEnds_keeps_bayInvs (code : Code) {p : Part} (h : BayInvs p) : BayInvs (refhiEnds code p) := by
  refine ⟨?_, h.record.of_recordKept (refhiEnds_recordKept code p)⟩
  unfold refhiEnds
  split
  · next taken =>
    have ended := h.coupled.of_linkKept (takeConversion_linkKept taken)
    refine setChain_keeps_coupleInv (by split <;> simp) ?_
    split <;> exact ended
  · exact h.coupled

/-! ## The commands -/

theorem receive_keeps_record (sender : StationNo) (n : Nat) {hand : Part → Part} {p : Part} (h : BayRecordInv p)
    (handed : ∀ q, BayRecordInv q → BayRecordInv (hand q)) : BayRecordInv (receive sender n hand p) :=
  receive_induct (I := BayRecordInv) sender n hand (fun _ _ h => h.of_recordKept (.of_kept (by simp)))
    (fun q h => h.of_recordKept (numberClash_recordKept q)) handed h

theorem fromBayPost_recordKept (sender : StationNo) (hand : Part → Part) (p : Part) (handed : RecordKept p (hand p)) :
    RecordKept p (fromBayPost sender hand p) := by
  unfold fromBayPost
  split
  · exact handed
  · rfl

theorem shedCheck_recordKept (p : Part) : RecordKept p (shedCheck p) := .of_kept (by simp)

/-- Frames received. -/
theorem effect_frame_keeps_record {c : Instr} {n : StationNo} (sender : senderOf c = some n) {p : Part} (h : BayRecordInv p) :
    BayRecordInv (effect c p) := by
  have kept {hand : Part → Part} {m : Nat} (handed : ∀ q, RecordKept q (hand q)) : BayRecordInv (receive n m hand p) :=
    receive_keeps_record n m h fun q hq => hq.of_recordKept (handed q)
  cases c <;> simp only [senderOf, reduceCtorEq, Option.some.injEq] at sender <;> subst sender
  case timeFrame => exact kept (takeTime_recordKept _)
  case shedFrame => exact kept fun q => fromBayPost_recordKept _ _ q (.of_kept (by simp))
  case loadFrame =>
    exact kept fun q => fromBayPost_recordKept _ _ q ((arrivesIfGood_recordKept _ q).trans (shedCheck_recordKept _))
  case baystateFrame => exact kept fun q => fromBayPost_recordKept _ _ q (arrivesIfGood_recordKept _ q)
  case askFrame | reportFrame => exact kept RecordKept.refl
  case rosterFrame | rosterCancel => exact kept (takeRosterFrame_recordKept _)
  case orderHold o => exact receive_keeps_record _ _ h fun q hq => takeOrder_keeps_record _ hq (holdEffect_keeps_record o hq)
  case orderUnhold => exact receive_keeps_record _ _ h fun q hq => takeOrder_keeps_record _ hq (unholdEffect_keeps_record hq)
  case orderLanepass =>
    exact receive_keeps_record _ _ h fun q hq => takeOrder_keeps_record _ hq fun _ => hq.of_recordKept (lanepassEffect_recordKept q)
  case orderBayreset =>
    exact receive_keeps_record _ _ h fun q hq => takeOrder_keeps_record _ hq fun _ => bayReset_keeps_record q
  all_goals
    exact receive_keeps_record _ _ h fun q hq => takeOrder_keeps_record _ hq fun _ => hq.of_recordKept (.of_kept (by simp))

/-- The commands that leave the link. -/
theorem effect_keeps_record {c : Instr} {p : Part} (h : BayRecordInv p) (leaves : movesLink c = false) :
    BayRecordInv (effect c p) := by
  cases sender : senderOf c with
  | some n => exact effect_frame_keeps_record sender h
  | none =>
    refine h.of_recordKept ?_
    cases c <;> simp only [senderOf, reduceCtorEq] at sender
    case ping | ident | hold | release | lamps | fcount | fread | fclear | idle | wait | data | last | ack | refuse | garbledWord
        | waitCountExpiry | recoveryEnd | startTimerExpiry | lostPingTimerExpiry | keepAliveExpiry | coupleSenseRise | decouple
        | heatFrameBoundary | refhiConversionEnd => cases leaves
    case startUp | resetAsserted => rfl
    case secondEnd => exact secondEnds_recordKept p
    case timeSilenceExpiry => exact timeSilenceExpires_recordKept p
    case shedComplete => exact completion_recordKept .shed p
    case loadComplete => exact completion_recordKept .load p
    case baystateComplete => exact completion_recordKept .baystate p
    case askComplete => exact completion_recordKept .ask p
    case reportComplete => exact completion_recordKept .report p
    case peerAgeing60s n => exact peerAges_recordKept n.toNat p
    case ghostAgeing180s n => exact ghostAges_recordKept n.toNat p
    case refloConversionEnd code => exact refloEnds_recordKept code p
    case temperatureConversionEnd code => exact temperatureEnds_recordKept code p
    case lampConversionEnd code => exact lampEnds_recordKept code p
    case frameAttemptStart => exact attemptStarts_recordKept p
    case departButtonPress => exact departPress_recordKept p
    case holdRetryExpiry => exact holdRetryExpires_recordKept p
    case clearanceCountExpiry => exact clearanceCountEnds_recordKept p
    case tooEarlyOverlayEnd => exact tooEarlyEnds_recordKept p
    case sounderRunEnd => exact chirpsEnd_recordKept p
    all_goals rw [effect]; exact .of_kept (by simp)

/-- BAYRESET taken clears the bay; refused or dropped it writes the orders alone. -/
theorem orderBayreset_keeps_bayInvs (o : Order) {p : Part} (h : BayInvs p) : BayInvs (effect (.orderBayreset o) p) := by
  have queued : ∀ j q, BayInvs q → BayInvs (queueJob j q) :=
    fun j q h => h.of_kept (.of_kept (by simp)) (queueJob_recordKept j q)
  refine receive_induct (I := BayInvs) _ _ _ (fun _ _ h => h.of_kept (.of_kept (by simp)) (.of_kept (by simp)))
    (fun q h => h.of_kept (numberClash_linkKept q) (numberClash_recordKept q)) (fun q h => ?_) h
  unfold takeOrder judgeOrder
  split
  · split
    · split
      · exact queued _ q h
      · exact queued _ _ (bayReset_keeps_bayInvs h)
    · exact h.of_kept (.of_kept (by simp)) (dropOrder_recordKept q)
  · exact h

theorem effect_keeps_bayInvs (c : Instr) {p : Part} (h : BayInvs p) : BayInvs (effect c p) := by
  cases moves : movesLink c with
  | false => exact ⟨h.coupled.of_linkKept (effect_linkKept c p moves), effect_keeps_record h.record moves⟩
  | true =>
    cases c with
    | ping | ident | hold | release | lamps | fcount | fread | fclear => exact chosen_keeps_bayInvs _ h
    | idle | wait | data | last | ack | refuse | garbledWord => exact coachWord_keeps_bayInvs _ h
    | waitCountExpiry => exact waitCountEnds_keeps_bayInvs h
    | recoveryEnd => exact recoveryEnds_keeps_bayInvs h
    | startTimerExpiry => exact startTimerExpires_keeps_bayInvs h
    | lostPingTimerExpiry => exact lostPingExpires_keeps_bayInvs h
    | keepAliveExpiry => exact keepAliveExpires_keeps_bayInvs h
    | coupleSenseRise => exact coupleRises_keeps_bayInvs h
    | decouple => exact coupleFalls_keeps_bayInvs h
    | heatFrameBoundary => exact boundary_keeps_bayInvs h
    | refhiConversionEnd code => exact refhiEnds_keeps_bayInvs code h
    | orderBayreset o => exact orderBayreset_keeps_bayInvs o h
    | _ => cases moves

/-! ## Every step -/

theorem started_bayInvs (straps : Straps) : BayInvs (Part.started straps) := by
  have initial : ∀ p, AllInvariants p → BayInvs p := by
    rintro p ⟨-, -, -, -, -, -, -, reasons, -, -, -, -, -, -, -, couple, bay, revocation⟩
    exact ⟨couple, (bayRecordInv_iff p).mpr ⟨bay, revocation, reasons⟩⟩
  unfold Part.started
  split
  · exact initial _ (allInvariants_initial _)
  · exact initial _ (allInvariants_strapFault _)

theorem tick_keeps_bayInvs {p : Part} (h : BayInvs p) : BayInvs (Part.tick p) := by
  unfold Part.tick
  split
  · exact h
  · exact h.of_kept (.of_kept ⟨rfl, rfl, rfl, rfl, rfl⟩) (.of_kept ⟨rfl, rfl, rfl⟩)

theorem bayInvs_iff (p : Part) : BayInvs p ↔ CoupleInv p ∧ BayInv p ∧ RevocationInv p ∧ ReasonInv p := by
  rw [← bayRecordInv_iff]
  exact ⟨fun ⟨coupled, record⟩ => ⟨coupled, record⟩, fun ⟨coupled, record⟩ => ⟨coupled, record⟩⟩

/-- Settles O60: an evaluation judges the reasons of a coach held, a return ends the revocation, and a bay cleared of its coach holds
nothing of it. -/
theorem everyStepKeepsTheBayRecord : Obligations.EveryStepKeepsTheBayRecord := by
  intro s t hs h
  rw [← bayInvs_iff] at hs ⊢
  exact step_keeps (I := BayInvs) (fun p => tick_keeps_bayInvs) started_bayInvs
    (fun p hp => hp.of_kept (.of_kept ⟨rfl, rfl, rfl, rfl, rfl⟩) (.of_kept ⟨rfl, rfl, rfl⟩))
    (fun c p _ => effect_keeps_bayInvs c) hs h

end Sys2Proof.Machine
end

section
/-! The entry to RELEASING (R179, R183): made by a clearance evaluation, and only where nothing stands against it; the operations that
keep what then holds. -/

namespace Sys2Proof.Machine

/-! ## What holds at the entry -/

/-- What a bay just released meets: the window open, the hold confirmed, nothing for a hold reason, checks fresh and none in progress.
`pass` says that a lane pass stands in for the lane view. -/
def ReleaseClear (pass : Prop) (p : Part) : Prop :=
  p.bay.window = true ∧ p.link.holdConfirmed = true ∧ p.link.state ≠ .lost
    ∧ p.measure.chain = .good ∧ Reasons.any p.bay.reasons = false
    ∧ (Part.laneClear p = true ∨ pass)
    ∧ p.bay.lanePass = false ∧ p.link.slots.bay = some { code := .release, arg := 0 }
    ∧ SweepStatus.isRunning p.sweep.status = false ∧ p.faults.status = .idle
    ∧ Part.readFresh p = true ∧ Part.sweepFresh p = true
    ∧ (∀ e ∈ p.faults.coach, e.cls ≠ .block)
    ∧ (∀ l ∈ p.lamps, l.fit.isSome → l.verdict ≠ .low ∧ l.verdict ≠ .high ∧ l.verdict ≠ .unknown)

/-- A lane pass is one of those meant, and a bay in RELEASING is clear. -/
structure Guarded (pass : Prop) (p : Part) : Prop where
  passes : p.bay.lanePass = true → pass
  released : p.bay.state = .releasing → ReleaseClear pass p

theorem Guarded.of_away {pass : Prop} {p : Part} (away : p.bay.state ≠ .releasing) (passes : p.bay.lanePass = true → pass) :
    Guarded pass p :=
  ⟨passes, fun releasing => absurd releasing away⟩

/-! ## The evaluation -/

section
variable {p : Part} {pass : Prop}

/-- No lane reason is judged with a pass or a clear view alone (R178). -/
theorem laneClear_of_releases (opens : openState p.bay.state = true) (releases : (evaluate p).bay.state = .releasing)
    (passes : p.bay.lanePass = true → pass) : Part.laneClear p = true ∨ pass := by
  cases lanePass : p.bay.lanePass with
  | true => exact .inr (passes lanePass)
  | false =>
    refine .inl (not_not.mp fun notClear => ?_)
    obtain ⟨window, -⟩ := window_of_releases opens releases
    simp [evaluate_held opens window lanePass (by simpa using notClear)] at releases

/-- The sweep's part of an evaluation without a hold reason (R178, R179). -/
theorem sweepDone_of_releases (opens : openState p.bay.state = true) (releases : (evaluate p).bay.state = .releasing) :
    Part.sweepPending p = false ∧ Part.readFresh p = true := by
  rw [(evaluate_placed p opens).2] at releases
  split_ifs at releases with _ pending
  simpa using pending

/-- Nor do a lost link and a chain that is not GOOD (R178). -/
theorem linkSound_of_releases (opens : openState p.bay.state = true) (releases : (evaluate p).bay.state = .releasing) :
    p.link.state ≠ .lost ∧ p.measure.chain = .good := by
  have none := noReason_of_releases opens releases
  simp only [Reasons.any, Part.judgedReasons, Bool.or_eq_false_iff, beq_eq_false_iff_ne, bne_eq_false_iff_eq] at none
  obtain ⟨⟨⟨⟨⟨⟨⟨-, lost⟩, chain⟩, -⟩, -⟩, -⟩, -⟩, -⟩ := none
  exact ⟨lost, chain⟩

/-- A fitted lamp that neither fails nor is UNKNOWN is OK or FLICKERs. -/
theorem lampsSound_iff (lamps : List Lamp) : (lamps.any Lamp.failing = false ∧ lamps.any Lamp.unknown = false) ↔
    ∀ l ∈ lamps, l.fit.isSome → l.verdict ≠ .low ∧ l.verdict ≠ .high ∧ l.verdict ≠ .unknown := by
  simp only [List.any_eq_false, Lamp.failing, Lamp.unknown, ← forall_and]
  refine forall_congr' fun l => ?_
  cases l.fit <;> cases l.verdict <;> simp

/-- What an evaluation reads and does not write. -/
theorem evaluate_leaves (p : Part) : (evaluate p).link.state = p.link.state
    ∧ (evaluate p).link.holdConfirmed = p.link.holdConfirmed ∧ (evaluate p).measure.chain = p.measure.chain
    ∧ Part.laneClear (evaluate p) = Part.laneClear p := by
  obtain ⟨record, -⟩ := evaluate_linkKept p
  simp only [Part.linkRecord, Prod.mk.injEq] at record
  obtain ⟨link, -, chain⟩ := record
  have view : Part.laneView (evaluate p) = Part.laneView p := laneView_congr (by simp) (by simp)
  have hold : (Link.standing (evaluate p).link).holdConfirmed = (Link.standing p.link).holdConfirmed := by rw [link]
  exact ⟨Link.standing_state link, hold, chain, by rw [Part.laneClear, view, Part.laneClear]⟩

/-- After an entry no check runs, and what the last ones found stands (R170, R183). -/
theorem evaluate_releases_leaves (opens : openState p.bay.state = true) (releases : (evaluate p).bay.state = .releasing) :
    SweepStatus.isRunning (evaluate p).sweep.status = false ∧ (evaluate p).faults.status = .idle
      ∧ (evaluate p).faults.coach = p.faults.coach ∧ Part.readFresh (evaluate p) = Part.readFresh p
      ∧ Part.sweepFresh (evaluate p) = Part.sweepFresh p := by
  obtain ⟨-, -, ⟨last, -⟩, faults⟩ := evaluate_releases_checks opens releases
  refine ⟨?_, by rw [faults], by rw [faults], by simp [Part.readFresh, faults], by simp [Part.sweepFresh, last]⟩
  rw [evaluate_releases opens releases]
  simp [enterReleasing]

/-- An evaluation takes the bay to RELEASING only where nothing stands against it. -/
theorem evaluate_releaseClear (opens : openState p.bay.state = true) (releases : (evaluate p).bay.state = .releasing)
    (passes : p.bay.lanePass = true → pass) : ReleaseClear pass (evaluate p) := by
  obtain ⟨window, confirmed⟩ := window_of_releases opens releases
  obtain ⟨up, good⟩ := linkSound_of_releases opens releases
  obtain ⟨done, read⟩ := sweepDone_of_releases opens releases
  obtain ⟨sound, lamps⟩ := checksPass_of_releases opens releases
  obtain ⟨state, hold, chain, lane⟩ := evaluate_leaves p
  obtain ⟨stopped, idle, coach, readKept, sweepKept⟩ := evaluate_releases_leaves opens releases
  have fresh : Part.sweepFresh p = true := by
    rw [Part.sweepPending, Bool.or_eq_false_iff, Bool.not_eq_false'] at done
    exact done.1
  have noBlock : ∀ e ∈ p.faults.coach, e.cls ≠ .block := by
    intro e he block
    simp [(coachBlock_iff p).mpr ⟨e, he, block⟩] at sound
  have reasons : (evaluate p).bay.reasons = Part.judgedReasons p := (evaluate_placed p opens).1
  refine ⟨by simpa using window, by rwa [hold], by rwa [state], by rwa [chain], ?_, ?_, ?_,
    (evaluate_releases_checks opens releases).1, stopped, idle, by rwa [readKept], by rwa [sweepKept], by rwa [coach], ?_⟩
  · rw [reasons]
    exact noReason_of_releases opens releases
  · rw [lane]
    exact laneClear_of_releases opens releases passes
  · rw [evaluate_bay_eq opens]
    simp [releases]
  · simpa using (lampsSound_iff _).mp lamps

end

end Sys2Proof.Machine
end

section
/-! What keeps a bay just released clear, and what leads to RELEASING by an evaluation alone (R179, R183). -/

namespace Sys2Proof.Machine

/-! ## The relations -/

/-- Once a bay is in RELEASING and clear, the operation leaves it so; elsewhere it enters RELEASING clear. -/
def ReleaseKept (p q : Part) : Prop := ∀ pass, Guarded pass p → Guarded pass q

/-- The operation enters RELEASING from no other state, and gives no lane pass. -/
def StaysAway (p q : Part) : Prop :=
  (p.bay.state ≠ .releasing → q.bay.state ≠ .releasing) ∧ (q.bay.lanePass = true → p.bay.lanePass = true)

/-- From outside RELEASING, with no lane pass but those meant, the operation enters it clear. -/
def EntersClear (pass : Prop) (p q : Part) : Prop :=
  p.bay.state ≠ .releasing → (p.bay.lanePass = true → pass) → Guarded pass q

@[refl] theorem ReleaseKept.refl (p : Part) : ReleaseKept p p := fun _ => id

theorem ReleaseKept.trans {p w q : Part} (first : ReleaseKept p w) (second : ReleaseKept w q) : ReleaseKept p q :=
  fun pass h => second pass (first pass h)

/-- An operation that leaves all that is looked at. -/
theorem ReleaseKept.of_kept {p q : Part} (kept : q.bay = p.bay ∧ q.clock = p.clock ∧ q.link = p.link ∧ q.latch = p.latch
    ∧ q.peers = p.peers ∧ q.measure = p.measure ∧ q.sweep = p.sweep ∧ q.faults = p.faults ∧ q.lamps = p.lamps) :
    ReleaseKept p q := by
  obtain ⟨bay, clock, link, latch, peers, measure, sweep, faults, lamps⟩ := kept
  have view : Part.laneView q = Part.laneView p := laneView_congr latch (by rw [peers])
  rintro pass ⟨passes, released⟩
  refine ⟨by rwa [bay], fun releasing => ?_⟩
  have clear := released (by rwa [bay] at releasing)
  simpa only [ReleaseClear, Part.laneClear, Part.readFresh, Part.sweepFresh, bay, clock, link, measure, sweep, faults, lamps, view]
    using clear

theorem StaysAway.of_bay {p q : Part} (bay : q.bay = p.bay) : StaysAway p q := by simp [StaysAway, bay]

theorem StaysAway.trans {p w q : Part} (first : StaysAway p w) (second : StaysAway w q) : StaysAway p q :=
  ⟨second.1 ∘ first.1, first.2 ∘ second.2⟩

section
variable {pass : Prop} {p w q : Part}

theorem EntersClear.of_away (away : StaysAway p q) : EntersClear pass p q :=
  fun outside passes => .of_away (away.1 outside) (passes ∘ away.2)

theorem EntersClear.of_bay (bay : q.bay = p.bay) : EntersClear pass p q := .of_away (.of_bay bay)

theorem EntersClear.of_kept (kept : ReleaseKept p q) : EntersClear pass p q :=
  fun outside passes => kept pass (.of_away outside passes)

theorem EntersClear.after (away : StaysAway p w) (enters : EntersClear pass w q) : EntersClear pass p q :=
  fun outside passes => enters (away.1 outside) (passes ∘ away.2)

theorem EntersClear.trans (enters : EntersClear pass p w) (kept : ReleaseKept w q) : EntersClear pass p q :=
  fun outside passes => kept pass (enters outside passes)

end

/-! ## The evaluation -/

theorem evaluate_lanePass (p : Part) (h : (evaluate p).bay.lanePass = true) : p.bay.lanePass = true := by
  by_cases opens : openState p.bay.state = true
  · rw [evaluate_bay_eq opens] at h
    exact (Bool.and_eq_true _ _ |>.mp h).1
  · obtain same | same | ⟨opens', -⟩ | ⟨opens', -⟩ := evaluate_cases p
    · rwa [same] at h
    · simpa [same, judge] using h
    · exact absurd opens' opens
    · exact absurd opens' opens

theorem evaluate_releaseKept (p : Part) : ReleaseKept p (evaluate p) := by
  rintro pass ⟨passes, released⟩
  refine ⟨fun given => passes (evaluate_lanePass p given), fun releases => ?_⟩
  by_cases opens : openState p.bay.state = true
  · exact evaluate_releaseClear opens releases passes
  · obtain same | same | ⟨opens', -⟩ | ⟨opens', -⟩ := evaluate_cases p
    · rw [same] at releases ⊢
      exact released releases
    · have held : p.bay.state = .releasing := by simpa [same, judge] using releases
      have stays : evaluate p = p := evaluate_elsewhere p (by simp [held, heldCoach])
      rw [stays]
      exact released held
    · exact absurd opens' opens
    · exact absurd opens' opens

/-- An evaluation of a part that something outside has changed. -/
theorem EntersClear.of_evaluate {pass : Prop} {p w : Part} (away : StaysAway p w) : EntersClear pass p (evaluate w) :=
  .after away (.of_kept (evaluate_releaseKept w))

/-- The same, where the change is made outside RELEASING alone. -/
theorem ReleaseKept.of_enters {p q : Part} (outside : p.bay.state ≠ .releasing) (enters : ∀ pass, EntersClear pass p q) :
    ReleaseKept p q := fun pass ⟨passes, _⟩ => enters pass outside passes

/-! ## The roster copy, watches and minutes (R172 to R180) -/

theorem recompute_releaseKept (t : Trigger) (p : Part) : ReleaseKept p (recompute t p) := .of_kept (by simp)

theorem tryPrepare_releaseKept (p : Part) : ReleaseKept p (tryPrepare p) := by
  unfold tryPrepare
  split
  · next prepares =>
    simp only [Bool.and_eq_true, decide_eq_true_eq] at prepares
    obtain ⟨⟨standby, -⟩, -⟩ := prepares
    exact .of_enters (by simp [standby]) fun _ => .of_evaluate (by simp [StaysAway])
  · rfl

theorem copyArrives_releaseKept (c : RosterCopy) {p : Part} (standby : p.bay.state = .standby) :
    ReleaseKept p (copyArrives c p) := by
  refine .of_enters (by simp [standby]) fun _ => ?_
  have copied : StaysAway p (stopAsking { p with bay := { p.bay with roster := some c } }) := by simp [StaysAway]
  exact .after copied (.of_kept ((tryPrepare_releaseKept _).trans (recompute_releaseKept _ _)))

theorem rosterLookup_releaseKept (p : Part) : ReleaseKept p (rosterLookup p) := by
  obtain same | ⟨d, same⟩ | ⟨standby, -, c, same⟩ := rosterLookup_cases p <;> rw [same]
  · exact .of_kept (by simp)
  · exact copyArrives_releaseKept c standby

theorem runWatches_staysAway (p : Part) : StaysAway p (runWatches p) := by
  rw [StaysAway, runWatches_bay]
  split <;> exact ⟨id, id⟩

theorem noteOpening_staysAway (before : Bool) (p : Part) : StaysAway p (noteOpening before p) := by
  simp [StaysAway, noteOpening_bay]

theorem not_releasing_of_open {b : BayState} (opens : openState b = true) : b ≠ .releasing := (not_closed_of_open opens).2

/-- A minute reaches a bay in PREPARE, READY and HELD with its watches; RELEASING is left as it is. -/
theorem bayMinute_releaseKept (p : Part) : ReleaseKept p (bayMinute p) := by
  have watched := (runWatches_staysAway p).trans (noteOpening_staysAway p.bay.window _)
  unfold bayMinute
  split
  · exact evaluate_releaseKept p
  iterate 3 next state => exact .of_enters (by simp [state]) fun _ => .of_evaluate watched
  · next state =>
    refine .of_enters (by simp [state]) fun _ => .of_away ?_
    unfold clearanceMinute clearanceCheck
    (repeat' split) <;> simp [StaysAway]
  all_goals rfl

theorem minuteEvent_releaseKept (p : Part) : ReleaseKept p (minuteEvent p) :=
  ReleaseKept.trans (.of_kept (by simp)) (bayMinute_releaseKept (cacheMinute (recompute .minute p)))

/-- A copy may change in RELEASING, where nothing is judged by it. -/
theorem ReleaseKept.of_copy {p q : Part} {c : Option RosterCopy} (same : q = { p with bay := { p.bay with roster := c } }) :
    ReleaseKept p q := by
  rintro pass ⟨passes, released⟩
  subst same
  exact ⟨passes, released⟩

theorem setCopy_releaseKept (c : RosterCopy) (p : Part) : ReleaseKept p (setCopy c p) := by
  have copied : ReleaseKept p { p with bay := { p.bay with roster := some c } } := .of_copy rfl
  unfold setCopy
  split
  · split
    · next standby => exact copyArrives_releaseKept c standby
    · exact copied.trans (recompute_releaseKept _ _)
  · split
    · rfl
    · refine ReleaseKept.trans ?_ (recompute_releaseKept _ _)
      dsimp only
      split
      · next opens =>
        have closed : ∀ q, StaysAway q (closeWindowIfEarly q) := by
          intro q
          unfold closeWindowIfEarly
          (repeat' split) <;> exact ⟨id, id⟩
        refine copied.trans (.of_enters (not_releasing_of_open opens) fun _ => ?_)
        exact .of_evaluate ((closed _).trans (runWatches_staysAway _))
      · exact copied.trans (evaluate_releaseKept _)

theorem standBy_staysAway (p : Part) : StaysAway p (standBy p) := by simp [StaysAway]

theorem toStandby_staysAway (p : Part) : StaysAway p (toStandby p) := by simp [StaysAway, toStandby]

theorem removeCopy_releaseKept (p : Part) : ReleaseKept p (removeCopy p) := by
  unfold removeCopy
  split
  · rfl
  · refine ReleaseKept.trans ?_ (recompute_releaseKept _ _)
    dsimp only
    have removed : ReleaseKept p { p with bay := { p.bay with roster := none } } := .of_copy rfl
    split
    · next opens =>
      refine removed.trans (.of_enters (not_releasing_of_open opens) fun _ => ?_)
      exact .after (toStandby_staysAway _) (.of_kept (rosterLookup_releaseKept _))
    · exact removed

theorem takeRosterFrame_releaseKept (b : RosterPayload) (p : Part) : ReleaseKept p (takeRosterFrame b p) := by
  have stored : ∀ es, ReleaseKept p { p with cache := { p.cache with entries := es } } :=
    fun _ => .of_kept ⟨rfl, rfl, rfl, rfl, rfl, rfl, rfl, rfl, rfl⟩
  have cancelled (coach : Nat) : ReleaseKept p (takeCancel coach p) := by
    unfold takeCancel
    dsimp only
    split
    · exact (stored _).trans (removeCopy_releaseKept _)
    · exact stored _
  have entered (e : RosterEntry) : ReleaseKept p (takeEntry e p) := by
    unfold takeEntry
    extract_lets _ _ w looked
    have lookedUp : ReleaseKept p looked := by
      unfold looked
      split
      · exact (stored _).trans (rosterLookup_releaseKept w)
      · exact stored _
    split
    · exact lookedUp.trans (setCopy_releaseKept _ _)
    · exact lookedUp
  unfold takeRosterFrame
  split
  · rfl
  · split
    · exact cancelled _
    · split
      · exact entered _
      · rfl

/-! ## Return, identity and link (R176, R177, R182 to R186) -/

section
variable {pass : Prop} (p : Part)

/-- A return judges the bay in HELD, or waits for a roster copy. -/
theorem returnToHeld_entersClear (r : ReturnReasons) : EntersClear pass p (returnToHeld r p) := by
  rw [returnToHeld_eq]
  split
  · exact .of_evaluate (by simp [StaysAway, returning])
  · refine .after ?_ (.of_kept (rosterLookup_releaseKept _))
    exact StaysAway.trans (w := returning r p) ⟨id, id⟩ (standBy_staysAway _)

theorem revocationEnd_releaseKept (final : JobOutcome) (limit : Nat) : ReleaseKept p (revocationEnd final limit p) :=
  .of_kept (by simp)

theorem returnEnds_entersClear (revokes : Bool) (r : ReturnReasons) : EntersClear pass p (returnEnds revokes r p) := by
  have returned := returnToHeld_entersClear (pass := pass) p r
  unfold returnEnds
  split
  · exact returned.trans (revocationEnd_releaseKept _ _ _)
  · exact returned

theorem holdOutcome_entersClear (o : BayOutcome) : EntersClear pass p (holdOutcome o p) := by
  unfold holdOutcome
  split
  iterate 8 exact .of_evaluate (by simp [StaysAway])
  · split
    · exact returnEnds_entersClear p true _
    · exact .of_bay (by simp)
  · split
    · exact .of_away (by simp [StaysAway])
    · exact .of_bay rfl
  all_goals exact .of_bay rfl

/-- The outcome of a RELEASE ends RELEASING; in CLEARED a refusal returns. -/
theorem releaseOutcome_entersClear (o : BayOutcome) : EntersClear pass p (releaseOutcome o p) := by
  unfold releaseOutcome
  split
  iterate 2 next releasing => exact fun outside => absurd releasing outside
  · exact returnEnds_entersClear p _ _
  · exact .of_bay rfl

theorem bayLinkLost_entersClear : EntersClear pass p (bayLinkLost p) := by
  intro outside
  rw [bayLinkLost_elsewhere outside]
  exact EntersClear.of_kept (evaluate_releaseKept p) outside

theorem laneViewChanged_entersClear : EntersClear pass p (laneViewChanged p) := by
  intro outside
  have revised : Part.entryRevised p = false := by simp [Part.entryRevised, outside]
  rw [laneViewChanged_evaluates p revised]
  exact EntersClear.of_kept (evaluate_releaseKept p) outside

theorem firstIdentity_entersClear (d : Identity) : EntersClear pass p (firstIdentity d p) := by
  rw [firstIdentity_eq]
  refine .after ?_ (.of_kept (rosterLookup_releaseKept _))
  simp [StaysAway, identityHeld, toStandby]

theorem coachChange_entersClear (d : Identity) : EntersClear pass p (coachChange d p) := by
  rw [coachChange_eq]
  exact .after (by simp [StaysAway, bayVacated]) (firstIdentity_entersClear _ d)

/-- A waiting operation resumes, but not in RELEASING: an entry cuts it short (R170). -/
theorem operationResumes_releaseKept : ReleaseKept p (operationResumes p) := by
  rintro pass ⟨passes, released⟩
  refine ⟨by simpa using passes, fun releasing => ?_⟩
  have clear := released (by simpa using releasing)
  have idle : p.faults.status = .idle := by
    obtain ⟨-, -, -, -, -, -, -, -, -, idle, -⟩ := clear
    exact idle
  have stays : operationResumes p = p := by simp [operationResumes, idle]
  rwa [stays]

theorem acceptIdentity_entersClear (d : Identity) : EntersClear pass p (acceptIdentity d p) := by
  unfold acceptIdentity
  extract_lets _ w
  have confirmed : StaysAway p w := ⟨id, id⟩
  refine .after confirmed ?_
  split
  · exact firstIdentity_entersClear w d
  · split
    · exact EntersClear.trans (.of_evaluate (.of_bay (by simp))) (operationResumes_releaseKept _)
    · exact coachChange_entersClear w d

end

end Sys2Proof.Machine
end

section
/-! No command enters RELEASING but by an evaluation that finds nothing against it (R179, R183). -/

namespace Sys2Proof.Machine

section
variable {pass : Prop} (p : Part)

/-! ## Clock, peers and chain status -/

theorem statusChanged_releaseKept : ReleaseKept p (statusChanged p) :=
  (recompute_releaseKept .clockStatus p).trans (tryPrepare_releaseKept _)

theorem secondEnds_entersClear : EntersClear pass p (secondEnds p) := by
  rw [secondEnds_eq]
  split
  · exact .of_bay rfl
  · refine .after ?_ (.of_kept (minuteEvent_releaseKept _))
    exact .of_bay rfl

theorem timeSilenceExpires_entersClear : EntersClear pass p (timeSilenceExpires p) := by
  unfold timeSilenceExpires
  split
  · exact .of_bay rfl
  · refine .after ?_ (.of_kept (statusChanged_releaseKept _))
    exact .of_bay rfl

theorem takeTime_entersClear (t : TimePayload) : EntersClear pass p (takeTime t p) := by
  have told (minute second : Nat) : EntersClear pass p (statusTold (p.clock.status != .valid) (timeSet minute second p)) := by
    unfold statusTold
    split
    · exact .after (.of_bay (by simp)) (.of_kept (statusChanged_releaseKept _))
    · exact .of_bay (by simp)
  unfold takeTime
  split
  · rw [adoptTime_eq]
    split
    · exact (told _ _).trans (minuteEvent_releaseKept _)
    · exact told _ _
  · exact .of_bay rfl

/-- A peer table that has changed is judged, and the bay with it where the lane view has changed (R47). -/
theorem afterPeers_entersClear (before : List Position) : EntersClear pass p (afterPeers before p) := by
  rw [afterPeers_eq]
  split
  · exact .of_bay rfl
  · exact .after (.of_bay rfl) (laneViewChanged_entersClear (judgePeers p))

theorem deletionOf_entersClear (n : Nat) : EntersClear pass p (deletionOf n p) :=
  EntersClear.after (w := overflowEnds _) (.of_bay (by simp)) (afterPeers_entersClear _ _)

theorem writePeer_entersClear (e : Peer) : EntersClear pass p (writePeer e p) := by
  refine .after ?_ (afterPeers_entersClear (setEntries (storePeer e p.peers.entries) p) _)
  exact .of_bay (by simp)

theorem arrivesIfGood_entersClear (f : Option PeerFields) : EntersClear pass p (arrivesIfGood f p) := by
  unfold arrivesIfGood
  split
  · unfold peerArrives
    split
    · exact writePeer_entersClear p _
    · exact deletionOf_entersClear p _
    · split
      · exact writePeer_entersClear p _
      · split
        · refine .after ?_ (afterPeers_entersClear (setEntries _ p) _)
          exact .of_bay (by simp)
        · exact .of_bay (by simp)
    · exact .of_bay rfl
  · exact .of_bay rfl

theorem peerAges_entersClear (n : Nat) : EntersClear pass p (peerAges n p) := by
  unfold peerAges
  split
  · split
    · dsimp only
      split
      · exact .after (.of_bay rfl) (writePeer_entersClear (advanceTo _ p) _)
      · exact .after (.of_bay rfl) (deletionOf_entersClear (advanceTo _ p) n)
    · exact .of_bay rfl
  · exact .of_bay rfl

theorem ghostAges_entersClear (n : Nat) : EntersClear pass p (ghostAges n p) := by
  unfold ghostAges
  split
  · split
    · exact .after (.of_bay rfl) (deletionOf_entersClear (advanceTo _ p) n)
    · exact .of_bay rfl
  · exact .of_bay rfl

theorem setChain_entersClear {new : ChainStatus} (judged : new ≠ .untested) : EntersClear pass p (setChain new p) := by
  obtain ⟨-, -, changed⟩ | ⟨-, -, changed⟩ | ⟨-, changed⟩ := setChain_cases judged p <;> rw [changed]
  · exact .of_evaluate (.of_bay (by simp [Part.withChain]))
  · exact .of_evaluate (.of_bay rfl)
  · exact .of_bay rfl

theorem refhiEnds_entersClear (code : Code) : EntersClear pass p (refhiEnds code p) := by
  unfold refhiEnds
  split
  · next taken =>
    have kept := takeConversion_keeps taken
    refine .after (.of_bay ?_) (setChain_entersClear _ (by split <;> simp))
    split <;> simp [kept]
  · exact .of_bay rfl

/-! ## Sweep and fault list -/

theorem lampsOutcome_entersClear (o : LampsOutcome) : EntersClear pass p (lampsOutcome o p) := by
  unfold lampsOutcome
  split
  · exact .of_bay rfl
  · split
    · exact .of_bay (by simp)
    · rw [completeSweep_eq]
      exact .of_evaluate (.of_bay rfl)
    · exact .of_bay (by simp)
    · exact .of_bay (by simp)
    · exact .of_bay rfl

theorem completeRead_entersClear : EntersClear pass p (completeRead p) := by
  rw [completeRead_eq]
  exact .of_evaluate (.of_bay (by simp [readCompleted]))

theorem takeRecord_entersClear (words : List Word16) : EntersClear pass p (takeRecord words p) := by
  have next : ∀ q, EntersClear pass q (nextRecord q) := by
    intro q
    unfold nextRecord
    dsimp only
    split
    · exact completeRead_entersClear q
    · exact .of_bay (by simp)
  refine .after (.of_bay ?_) (next _)
  split <;> rfl

theorem faultOutcome_entersClear (c : CommandCode) (o : FaultOutcome) : EntersClear pass p (faultOutcome c o p) := by
  unfold faultOutcome
  split
  · split
    · exact .of_bay (by simp)
    · dsimp only
      split
      · refine .after ?_ (completeRead_entersClear _)
        exact .of_bay rfl
      · exact .of_bay (by simp)
    · exact takeRecord_entersClear p _
    · exact completeRead_entersClear p
    · exact .of_bay (by simp)
  · exact .of_bay rfl

/-! ## The coach link -/

theorem enterLost_entersClear : EntersClear pass p (enterLost p) := by
  rw [enterLost_eq]
  exact .after (.of_bay (by simp [lostNow])) (bayLinkLost_entersClear _)

theorem ackOutcome_entersClear (c : Command) : EntersClear pass p (ackOutcome c p) := by
  have set : ∀ v, StaysAway p (setHold v p) := fun _ => .of_bay rfl
  unfold ackOutcome
  split
  · split <;> exact .of_bay (by simp)
  · exact .after (set true) (holdOutcome_entersClear _ _)
  · exact .after (set false) (releaseOutcome_entersClear _ _)
  · exact lampsOutcome_entersClear p _
  · exact faultOutcome_entersClear p _ _
  all_goals exact .of_bay rfl

theorem lastOutcome_entersClear (c : Command) (words : List Word16) : EntersClear pass p (lastOutcome c words p) := by
  unfold lastOutcome
  split
  · exact faultOutcome_entersClear p _ _
  · exact faultOutcome_entersClear p _ _
  · exact .of_bay rfl

theorem refuseOutcome_entersClear (c : Command) : EntersClear pass p (refuseOutcome c p) := by
  unfold refuseOutcome
  split
  · exact .after (.of_bay rfl) (holdOutcome_entersClear (setHold false p) _)
  · exact releaseOutcome_entersClear p _
  · refine .of_bay ?_
    unfold bayNotHeld
    split <;> simp [lampsOutcome_notHeld_bay]
  · exact faultOutcome_entersClear p _ _
  · exact .of_bay rfl

theorem failCommand_entersClear (f : InFlight) : EntersClear pass p (failCommand f p) := by
  unfold failCommand
  split
  · exact .of_bay rfl
  · have told : (leaveFlight p).bay = (failedOutcome f.command (leaveFlight p)).bay :=
      failedOutcome_unchanged f.command (leaveFlight p) .bay (by decide)
    exact .after (.of_bay (by simp [← told])) (enterLost_entersClear _)
  all_goals exact .of_bay rfl

theorem takeWait_entersClear (f : InFlight) : EntersClear pass p (takeWait f p) := by
  unfold takeWait
  dsimp only
  split
  · exact .of_bay rfl
  · exact failCommand_entersClear p f

/-- A judged word acts on the command in flight. -/
theorem takeWord_entersClear (f : InFlight) (w : CoachWord) : EntersClear pass p (takeWord f w p) := by
  have left : StaysAway p (leaveFlight (answerEnds p)) := .of_bay (by simp)
  have failed : EntersClear pass p (failCommand f (answerEnds p)) := .after (.of_bay (by simp)) (failCommand_entersClear _ f)
  cases w with
  | idle | wait => exact takeWait_entersClear p f
  | data x =>
    unfold takeWord takeData
    dsimp only
    split
    · exact .of_bay rfl
    · exact failCommand_entersClear p f
  | last x =>
    unfold takeWord takeLast
    dsimp only
    split
    · split
      · split
        · exact .after left (acceptIdentity_entersClear _ _)
        · exact failed
      · exact .after left (lastOutcome_entersClear _ _ _)
    · exact failed
  | ack =>
    unfold takeWord takeAck
    dsimp only
    split
    · exact .after left (ackOutcome_entersClear _ _)
    · exact failed
  | refuse r =>
    unfold takeWord takeRefuse
    dsimp only
    split
    · exact .after left (refuseOutcome_entersClear _ _)
    · exact failed
  | garbled => exact failCommand_entersClear p f

theorem coachWord_entersClear (w : CoachWord) : EntersClear pass p (coachWord w p) := by
  have opened : StaysAway p (beatOpens p) := .of_bay rfl
  unfold coachWord
  split
  · exact .of_bay rfl
  · dsimp only
    split
    · split
      · exact .after opened (takeWord_entersClear _ _ w)
      · exact .of_away opened
    · exact .of_away opened

theorem waitCountEnds_entersClear : EntersClear pass p (waitCountEnds p) := by
  unfold waitCountEnds
  split
  · split
    · refine .after ?_ (takeWait_entersClear _ _)
      exact .of_bay rfl
    · exact .of_bay rfl
  · exact .of_bay rfl

theorem startTimerExpires_entersClear : EntersClear pass p (startTimerExpires p) := by
  unfold startTimerExpires
  split
  · exact .after (.of_bay rfl) (enterLost_entersClear (advanceTo _ p))
  · exact .of_bay rfl

/-! ## Couple sense, the depart button and the timers -/

theorem coupleRises_staysAway : StaysAway p (coupleRises p) := by
  unfold coupleRises
  split
  · simp [StaysAway]
  · exact .of_bay rfl

theorem coupleFalls_staysAway : StaysAway p (coupleFalls p) := by
  cases couple : p.bay.couple with
  | false => exact .of_bay (by rw [coupleFalls, couple]; rfl)
  | true =>
    rw [coupleFalls_eq couple]
    simp [StaysAway]

theorem bayReset_staysAway : StaysAway p (bayReset p) := by
  simp only [StaysAway, bayReset_bay]
  split <;> simp

theorem departPress_entersClear : EntersClear pass p (departPress p) := by
  rw [departPress_eq]
  split
  · exact .of_bay rfl
  · split
    · refine .of_evaluate ?_
      rw [StaysAway, pressed_bay]
      exact ⟨id, id⟩
    · exact .of_away ⟨id, id⟩

theorem holdRetryExpires_staysAway : StaysAway p (holdRetryExpires p) := by
  unfold holdRetryExpires
  split
  · dsimp only
    split <;> simp [StaysAway]
  · exact .of_bay rfl

theorem clearanceCountEnds_staysAway : StaysAway p (clearanceCountEnds p) := by
  unfold clearanceCountEnds clearanceCheck
  (repeat' split) <;> simp [StaysAway]

theorem tooEarlyEnds_staysAway : StaysAway p (tooEarlyEnds p) := by
  unfold tooEarlyEnds
  split <;> exact ⟨id, id⟩

theorem chirpsEnd_staysAway : StaysAway p (chirpsEnd p) := by
  unfold chirpsEnd
  split <;> exact ⟨id, id⟩

theorem numberClash_staysAway : StaysAway p (numberClash p) := by
  unfold numberClash
  split <;> simp [StaysAway]

/-! ## Orders -/

theorem holdEffect_entersClear (o : Order) : EntersClear pass p (holdEffect o p) := by
  unfold holdEffect
  dsimp only
  split
  · next releasing => exact fun outside => absurd releasing outside
  · exact .of_away (by simp [StaysAway])
  · exact .of_evaluate (by simp [StaysAway])

theorem unholdEffect_entersClear : EntersClear pass p (unholdEffect p) := by
  unfold unholdEffect withdrawRevocation
  split
  · split
    · exact .of_bay rfl
    · exact .of_away (by simp [StaysAway])
  · exact .of_evaluate (by simp [StaysAway])

/-- LANEPASS gives the pass that is meant (R186). -/
theorem lanepassEffect_entersClear (given : pass) : EntersClear pass p (lanepassEffect p) :=
  fun outside _ => EntersClear.of_kept (evaluate_releaseKept _) (p := passGiven p) outside fun _ => given

/-- An order enters RELEASING clear where its effect does. -/
theorem takeOrder_entersClear {r : OrderRule} (o : Order) (effect : EntersClear pass p (r.effect p)) :
    EntersClear pass p (takeOrder o r p) := by
  have queued : ∀ j q, ReleaseKept q (queueJob j q) := fun _ _ => .of_kept (by simp)
  unfold takeOrder
  split
  · split
    · unfold judgeOrder
      split
      · exact .of_kept (queued _ p)
      · exact effect.trans (queued _ _)
    · exact .of_bay (by simp)
  · exact .of_bay rfl

/-! ## The commands -/

theorem receive_entersClear (sender : StationNo) (n : Nat) {hand : Part → Part} (handed : ∀ q, EntersClear pass q (hand q)) :
    EntersClear pass p (receive sender n hand p) := by
  have ended : StaysAway p (frameEnds (frameBitCount n) p) := .of_bay rfl
  unfold receive
  split
  · split
    · exact .of_bay rfl
    · exact .of_away (ended.trans (numberClash_staysAway _))
  · exact .after ended (handed _)

theorem fromBayPost_entersClear (sender : StationNo) {hand : Part → Part} (handed : EntersClear pass p (hand p)) :
    EntersClear pass p (fromBayPost sender hand p) := by
  unfold fromBayPost
  split
  · exact handed
  · exact .of_bay rfl

theorem shedCheck_releaseKept : ReleaseKept p (shedCheck p) := .of_kept (by simp)

theorem completion_staysAway (k : SendKind) : StaysAway p (completion k (completionNotice k) p) := by
  obtain same | ⟨t, -, done⟩ := completion_cases k (completionNotice k) p
  · exact .of_bay (by rw [same])
  · have noticed : (frameCompletes t p).bay = (completionNotice k t (frameCompletes t p)).bay :=
      (completionNotice_unchanged k t _).1 .bay (by simp)
    rw [done]
    exact .of_bay (by simp [← noticed])

/-- Frames received. A LANEPASS taken gives a pass of its own. -/
theorem effect_frame_entersClear {c : Instr} {n : StationNo} (sender : senderOf c = some n)
    (given : ∀ o, c = .orderLanepass o → pass) : EntersClear pass p (effect c p) := by
  cases c <;> simp only [senderOf, reduceCtorEq] at sender
  case timeFrame => exact receive_entersClear p _ _ fun q => takeTime_entersClear q _
  case shedFrame => exact receive_entersClear p _ _ fun q => fromBayPost_entersClear q _ (.of_bay (by simp))
  case loadFrame =>
    exact receive_entersClear p _ _ fun q => fromBayPost_entersClear q _
      ((arrivesIfGood_entersClear q _).trans (shedCheck_releaseKept _))
  case baystateFrame => exact receive_entersClear p _ _ fun q => fromBayPost_entersClear q _ (arrivesIfGood_entersClear q _)
  case askFrame | reportFrame => exact receive_entersClear p _ _ fun q => .of_bay rfl
  case rosterFrame | rosterCancel => exact receive_entersClear p _ _ fun q => .of_kept (takeRosterFrame_releaseKept _ q)
  case orderHold o => exact receive_entersClear p _ _ fun q => takeOrder_entersClear q _ (holdEffect_entersClear q o)
  case orderUnhold => exact receive_entersClear p _ _ fun q => takeOrder_entersClear q _ (unholdEffect_entersClear q)
  case orderLanepass o =>
    exact receive_entersClear p _ _ fun q => takeOrder_entersClear q _ (lanepassEffect_entersClear q (given o rfl))
  case orderBayreset => exact receive_entersClear p _ _ fun q => takeOrder_entersClear q _ (.of_away (bayReset_staysAway q))
  all_goals exact receive_entersClear p _ _ fun q => takeOrder_entersClear q _ (.of_bay (by simp))

/-- Every command enters RELEASING clear, where it does. -/
theorem effect_entersClear (c : Instr) (given : ∀ o, c = .orderLanepass o → pass) : EntersClear pass p (effect c p) := by
  cases sender : senderOf c with
  | some n => exact effect_frame_entersClear p sender given
  | none =>
    cases c <;> simp only [senderOf, reduceCtorEq] at sender
    case idle | wait | data | last | ack | refuse | garbledWord => exact coachWord_entersClear p _
    case waitCountExpiry => exact waitCountEnds_entersClear p
    case startTimerExpiry => exact startTimerExpires_entersClear p
    case coupleSenseRise => exact .of_away (coupleRises_staysAway p)
    case decouple => exact .of_away (coupleFalls_staysAway p)
    case refhiConversionEnd code => exact refhiEnds_entersClear p code
    case startUp | resetAsserted => exact .of_bay rfl
    case secondEnd => exact secondEnds_entersClear p
    case timeSilenceExpiry => exact timeSilenceExpires_entersClear p
    case shedComplete => exact .of_away (completion_staysAway p .shed)
    case loadComplete => exact .of_away (completion_staysAway p .load)
    case baystateComplete => exact .of_away (completion_staysAway p .baystate)
    case askComplete => exact .of_away (completion_staysAway p .ask)
    case reportComplete => exact .of_away (completion_staysAway p .report)
    case peerAgeing60s n => exact peerAges_entersClear p n.toNat
    case ghostAgeing180s n => exact ghostAges_entersClear p n.toNat
    case departButtonPress => exact departPress_entersClear p
    case holdRetryExpiry => exact .of_away (holdRetryExpires_staysAway p)
    case clearanceCountExpiry => exact .of_away (clearanceCountEnds_staysAway p)
    case tooEarlyOverlayEnd => exact .of_away (tooEarlyEnds_staysAway p)
    case sounderRunEnd => exact .of_away (chirpsEnd_staysAway p)
    all_goals rw [effect]; exact .of_bay (by simp)

end

/-! ## Every step -/

/-- Start-up and reset leave the bay where it is, or EMPTY. -/
theorem started_away (straps : Straps) : (Part.started straps).bay.state ≠ .releasing := by
  unfold Part.started
  split <;> simp [Part.initial, Part.strapFault]

/-- A command in any mode. -/
theorem after_entersClear {pass : Prop} (c : Instr) (p : Part) (given : ∀ o, c = .orderLanepass o → pass)
    (outside : p.bay.state ≠ .releasing) (passes : p.bay.lanePass = true → pass)
    (releasing : (Part.after c p).bay.state = .releasing) : ReleaseClear pass (Part.after c p) := by
  unfold Part.after at releasing ⊢
  split
  · exact absurd releasing (started_away _)
  · exact absurd releasing outside
  · split
    · exact (effect_entersClear p c given outside passes).released (by simpa [*] using releasing)
    · next notNormal => exact absurd (by simpa [notNormal] using releasing) outside

/-- Settles O46: no effect reaches RELEASING but through an evaluation, which finds nothing against it; time, start-up and reset do not. -/
theorem releasingIsEnteredOnlyWhenClear : Obligations.ReleasingIsEnteredOnlyWhenClear := by
  intro s t stepped outside releasing
  cases pending : s.pending with
  | nil =>
    rw [step_nil pending] at stepped
    obtain rfl := Host.Outcome.next.inj stepped
    have same : (Part.tick s.part).bay = s.part.bay := by
      unfold Part.tick
      split <;> rfl
    exact absurd (same ▸ releasing) outside
  | cons c rest =>
    rw [step_cons pending, exec_eq] at stepped
    obtain rfl := Host.Outcome.next.inj stepped
    exact after_entersClear c s.part (fun o lanepass => .inr ⟨o, rest, by rw [lanepass]⟩) outside .inl releasing

end Sys2Proof.Machine
end
